-- ==== Sys2Proof/Word.lean ====
section
/-! DEFINITION. The plain words of the Line Port and of the Engine Links: a byte as DATA 0-7 carries it, a 16-bit
number (sequence numbers, the time counter T), a 32-bit counter. -/

namespace Sys2Proof

/-- Eight data lines. -/
abbrev Byte := BitVec 8

/-- A number of 16 bits: a sheet's sequence number (R113), the time counter T (R183). -/
abbrev Word16 := BitVec 16

/-- One of the sixteen counters, 0 to 4,294,967,295 (R200). -/
abbrev Word32 := BitVec 32

end Sys2Proof
end

