-- ==== Sys2Proof/Config.lean ====
section
/-! DEFINITION. The fixed sizes and durations the spec gives the part. The spec leaves no value of an effect open, so
no constant here is a free value. -/

namespace Sys2Proof.Config

/-- R56: the Intake Queue holds at most 16 entries. -/
def queueCapacity : Nat := 16

/-- R130: the Sheet Ring has 6 slots. -/
def ringSlots : Nat := 6

/-- R8: a PRINT keeps its motion byte and up to 160 text bytes. -/
def printKept : Nat := 161

/-- R141: at most two sheets are in flight on one engine. -/
def inFlightLimit : Nat := 2

/-- R152: a link in OFFERING or AGREEING repeats its OFFER every 50 ms. -/
def offerRepeatMs : Nat := 50

/-- R152: the offer window. -/
def offerWindowMs : Nat := 2000

/-- R155: the acknowledgement window. -/
def ackWindowMs : Nat := 1000

/-- R157: the silence timer. -/
def silenceMs : Nat := 500

/-- R159: the length of a BREAK. -/
def breakMs : Nat := 800

/-- R206: the burst timer of class 4. -/
def burstMs : Nat := 1000

/-- R114: the folio that holds. -/
def lastFolio : Nat := 9999

/-- R24: the last form number before the wrap to 1. -/
def lastForm : Nat := 65535

end Sys2Proof.Config
end

