-- ==== Sys2Proof/Syntax.lean ====
section
/-! DEFINITION. The commands of the block: one constructor of `Instr` for each row of spec/opcode_table.json, with the
operands its event brings. A row the part takes by itself (a composer step, a grant, the acceptance of a waiting order)
has no operand: the state says what it acts on. -/

namespace Sys2Proof

/-- The two page engines and their links (00_scope: Engine Link A, Engine Link B). -/
inductive Engine where
  | a
  | b
deriving DecidableEq, Repr

/-- The imaging modes of R151. -/
inductive Mode where
  | fine
  | standard
  | proof
  | plain
deriving DecidableEq, Repr

/-- A set of imaging modes as R162 encodes it: bit 0 is M1, bit 1 M2, bit 2 M3, bit 3 M4. -/
abbrev ModeSet := BitVec 4

/-- The stop causes of R177. The first three are those a STOP frame carries. -/
inductive StopCause where
  | paperOut
  | coverOpen
  | engineFault
  | jam
  | timeout
deriving DecidableEq, Repr

/-- The straps of 00_scope, as hardware reset latches them: the UNIT lines, the ARRANGEMENT lines and GANG. -/
structure Straps where
  unit : BitVec 4
  arrangement : BitVec 2
  gang : Bool
deriving DecidableEq, Repr

/-- The commands, in the order of spec/opcode_table.json. -/
inductive Instr where
  /-- ORDER_BYTE: STROBE with ORDER raised, the SELECT line, the UNIT lines, DATA and PARITY. -/
  | orderByte (select : Bool) (unit : BitVec 4) (data : Byte) (parity : Bool)
  /-- ORDER_ACCEPT: the LP accepts the order, or the kind byte, that it holds in WAITING. -/
  | orderAccept
  /-- DATA_BYTE: STROBE without ORDER, with DATA and PARITY. -/
  | dataByte (data : Byte) (parity : Bool)
  /-- UNKNOWN_ORDER: END for an order byte with a parity error or naming no order. -/
  | unknownOrder
  /-- PRINT: END of a PRINT. -/
  | print
  /-- MOVE: END of a MOVE. -/
  | move
  /-- SYNC: END of a SYNC. -/
  | sync
  /-- SYNC_DONE: the ring watch finds the ring empty. -/
  | syncDone
  /-- ENGINE_STOPPED: a withheld SYNC meets sheets in the ring and no able engine. -/
  | engineStopped
  /-- TABLE_CHARACTER_MAP: END of a CHARACTER MAP record. -/
  | tableCharacterMap
  /-- TABLE_FORMS: END of a FORMS record. -/
  | tableForms
  /-- TABLE_COLLATION: END of a COLLATION record. -/
  | tableCollation
  /-- TABLE_FIELD_LAYOUT: END of a FIELD LAYOUT record. -/
  | tableFieldLayout
  /-- TABLE_KEY_RESET: END of a KEY RESET record. -/
  | tableKeyReset
  /-- TABLE_SHEET_PLAN: END of a SHEET PLAN record. -/
  | tableSheetPlan
  /-- TABLE_LINK_SETTINGS: END of a LINK SETTINGS record. -/
  | tableLinkSettings
  /-- TABLE_NOTICE_CONTROL: END of a NOTICE CONTROL record. -/
  | tableNoticeControl
  /-- TABLE_NOTICE_CLEAR: END of a NOTICE CLEAR record. -/
  | tableNoticeClear
  /-- TABLE_UNIT: END of a UNIT record. -/
  | tableUnit
  /-- TABLE_COUNTER_CLEAR: END of a COUNTER CLEAR record. -/
  | tableCounterClear
  /-- TABLE_RESET: END of a RESET record. -/
  | tableReset
  /-- QUERY_CONDITION: END of a QUERY CONDITION. -/
  | queryCondition
  /-- QUERY_CHECK: END of a QUERY CHECK. -/
  | queryCheck
  /-- QUERY_NOTICES: END of a QUERY NOTICES. -/
  | queryNotices
  /-- QUERY_COUNTERS: END of a QUERY COUNTERS. -/
  | queryCounters
  /-- QUERY_TABLE: END of a QUERY TABLE. -/
  | queryTable
  /-- QUERY_ENGINE: END of a QUERY ENGINE. -/
  | queryEngine
  /-- QUERY_RING: END of a QUERY RING. -/
  | queryRing
  /-- REPLY_TAKEN: the host takes the byte presented. -/
  | replyTaken
  /-- CLEAR: the port clear. -/
  | clear
  /-- LINE_RESET: the soft reset from the host. -/
  | lineReset
  /-- HARDWARE_RESET: power-on or the RESET pin, with the straps as they stand then. -/
  | hardwareReset (straps : Straps)
  /-- OWED_FORM_END: the owed marker takes the place freed at the queue head. -/
  | owedFormEnd
  /-- PLACED_LINE: the composer works a layer-1 line at the head. -/
  | placedLine
  /-- OVERSTRIKE_MERGE: the composer merges a layer-2 or layer-3 line at the head. -/
  | overstrikeMerge
  /-- LINE_OF_ITS_OWN: the composer places a layer-2 or layer-3 line that does not merge. -/
  | lineOfItsOwn
  /-- FORM_END: the composer works a FORM END at the head. -/
  | formEnd
  /-- SYNC_MARKER: the composer takes a SYNC marker at the head. -/
  | syncMarker
  /-- SHEET_PLAN_ENTRY: the composer applies a SHEET PLAN at the head. -/
  | sheetPlanEntry
  /-- COLLATION_ENTRY: a COLLATION at the head is applied. -/
  | collationEntry
  /-- FIELD_LAYOUT_ENTRY: a FIELD LAYOUT at the head is applied. -/
  | fieldLayoutEntry
  /-- KEY_RESET_ENTRY: a KEY RESET at the head is applied. -/
  | keyResetEntry
  /-- GRANT: the dispatcher makes one grant. -/
  | grant
  /-- SHEET_END: a link sends the SHEET END of the transfer it is writing. -/
  | sheetEnd (link : Engine)
  /-- OFFER: an engine's OFFER frame with its mode set and ack flag. -/
  | offer (link : Engine) (modes : ModeSet) (ack : Bool)
  /-- IDLE: an engine's IDLE frame. -/
  | idle (link : Engine)
  /-- TAKEN: an engine's TAKEN frame naming a sequence number. -/
  | taken (link : Engine) (seq : Word16)
  /-- STACKED: an engine's STACKED frame naming a sequence number. -/
  | stacked (link : Engine) (seq : Word16)
  /-- STOP: an engine's STOP frame with its cause. -/
  | stop (link : Engine) (cause : StopCause)
  /-- JAM: an engine's JAM frame with the number of the last sheet stacked, or none. -/
  | jam (link : Engine) (last : Option Word16)
  /-- READY: an engine's READY frame. -/
  | ready (link : Engine)
  /-- OFFER_REPEAT: the 50 ms repetition of a link's OFFER. -/
  | offerRepeat (link : Engine)
  /-- OFFER_WINDOW: the 2000 ms offer window of a link expires. -/
  | offerWindow (link : Engine)
  /-- ACKNOWLEDGEMENT_WINDOW: the 1000 ms acknowledgement window of a link expires. -/
  | acknowledgementWindow (link : Engine)
  /-- SETTLE_TIMER: the settle timer of a link expires. -/
  | settleTimer (link : Engine)
  /-- SILENCE_TIMER: the 500 ms silence timer of a link expires. -/
  | silenceTimer (link : Engine)
  /-- BREAK_END: the 800 ms BREAK of a link ends. -/
  | breakEnd (link : Engine)
  /-- TAKEN_TIMEOUT: the TAKEN timer of a link expires. -/
  | takenTimeout (link : Engine)
  /-- STACKED_TIMEOUT: the STACKED timer of the sheet of this number on a link expires. -/
  | stackedTimeout (link : Engine) (seq : Word16)
  /-- TICK: the 10 ms tick, which reaches both Pace Monitors. -/
  | tick
  /-- WINDOW_SHORT: a link's T has overflowed and its pace window ends SHORT. -/
  | windowShort (link : Engine)
  /-- WINDOW_MET: a link's S has overflowed and its pace window ends MET. -/
  | windowMet (link : Engine)
  /-- BURST_TIMER: the 1000 ms burst timer expires. -/
  | burstTimer
  /-- CALL_PATTERN: the on or off period of the class-2 or class-3 pattern ends. -/
  | callPattern
  /-- TABLE_KIND_UNKNOWN: END of a TABLE with fewer than 3 data bytes or of no known kind. -/
  | tableKindUnknown
  /-- SELECTOR_NAMING_NOTHING: END of a QUERY whose selector is missing or names nothing. -/
  | selectorNamingNothing
deriving DecidableEq, Repr

end Sys2Proof
end

