-- ==== Sys2Proof/WellFormed.lean ====
section
/-! DEFINITION. Which commands are well formed: those that bring an event the spec gives the outside world. Operands are
typed by their width, so one check is left: R177 lets a STOP frame carry PAPER OUT, COVER OPEN or ENGINE FAULT only. -/

namespace Sys2Proof

/-- R177: "A STOP frame carries one of the first three causes." -/
def StopCause.inStopFrame : StopCause → Bool
  | .paperOut => true
  | .coverOpen => true
  | .engineFault => true
  | .jam => false
  | .timeout => false

/-- The command is an event the spec knows. -/
def Instr.wellFormed : Instr → Bool
  | .stop _ cause => cause.inStopFrame
  | .orderByte _ _ _ _ => true
  | .orderAccept => true
  | .dataByte _ _ => true
  | .unknownOrder => true
  | .print => true
  | .move => true
  | .sync => true
  | .syncDone => true
  | .engineStopped => true
  | .tableCharacterMap => true
  | .tableForms => true
  | .tableCollation => true
  | .tableFieldLayout => true
  | .tableKeyReset => true
  | .tableSheetPlan => true
  | .tableLinkSettings => true
  | .tableNoticeControl => true
  | .tableNoticeClear => true
  | .tableUnit => true
  | .tableCounterClear => true
  | .tableReset => true
  | .queryCondition => true
  | .queryCheck => true
  | .queryNotices => true
  | .queryCounters => true
  | .queryTable => true
  | .queryEngine => true
  | .queryRing => true
  | .replyTaken => true
  | .clear => true
  | .lineReset => true
  | .hardwareReset _ => true
  | .owedFormEnd => true
  | .placedLine => true
  | .overstrikeMerge => true
  | .lineOfItsOwn => true
  | .formEnd => true
  | .syncMarker => true
  | .sheetPlanEntry => true
  | .collationEntry => true
  | .fieldLayoutEntry => true
  | .keyResetEntry => true
  | .grant => true
  | .sheetEnd _ => true
  | .offer _ _ _ => true
  | .idle _ => true
  | .taken _ _ => true
  | .stacked _ _ => true
  | .jam _ _ => true
  | .ready _ => true
  | .offerRepeat _ => true
  | .offerWindow _ => true
  | .acknowledgementWindow _ => true
  | .settleTimer _ => true
  | .silenceTimer _ => true
  | .breakEnd _ => true
  | .takenTimeout _ => true
  | .stackedTimeout _ _ => true
  | .tick => true
  | .windowShort _ => true
  | .windowMet _ => true
  | .burstTimer => true
  | .callPattern => true
  | .tableKindUnknown => true
  | .selectorNamingNothing => true

end Sys2Proof
end

