-- ==== Sys2Proof/Decode.lean ====
section
/-! DEFINITION. The command that a word spells by the bits of spec/opcode_table.json. The table gives no row any bits
("fields" is empty in all 66 rows): the part has no instruction words, so no word spells a command. The bytes the part
does take (the order byte, the motion byte, the table record, the selector) are read in Machine/Operands.lean. -/

namespace Sys2Proof

/-- No row of the table has bits, so no word decodes to a command. -/
def decodeTableWord (_nbits _w : Nat) : Option Instr := none

end Sys2Proof
end

