-- ==== Sys2Proof/Machine/Types.lean ====
section
/-! DEFINITION. The data the part holds, block by block: plain structures and inductives that State puts together. -/

namespace Sys2Proof.Machine

/-! ### Text (Code Translation) -/

/-- A printable shape, 0 to 239. -/
abbrev Glyph := Fin 240

/-- A text of positions, each a glyph or blank (`none`). Position 1 is the head of the list. -/
abbrev Text := List (Option Glyph)

/-- What the character map gives one host code (R42). -/
inductive MapEntry where
  | glyph (g : Glyph)
  | blank
  | unprintable
deriving DecidableEq, Repr

/-- The unprintable action of the character map (R42). -/
inductive UnprintableAction where
  | blank
  | mark
  | refuse
deriving DecidableEq, Repr

/-- The character map (R42): an entry for each host code 0 to 255 and two header fields. -/
structure CharMap where
  action : UnprintableAction
  substitute : Glyph
  entries : Vector MapEntry 256
deriving DecidableEq, Repr

/-! ### The virtual form -/

/-- 6, 8 or 10 lines per inch (R22). -/
inductive LinePitch where
  | lpi6
  | lpi8
  | lpi10
deriving DecidableEq, Repr

/-- A stop: a line that carries a channel (R22). -/
structure Stop where
  line : Nat
  channel : Nat
deriving DecidableEq, Repr

/-- The FORMS table (R22). The stops stand in the order in which they were loaded. -/
structure FormsTable where
  length : Nat
  pitch : LinePitch
  endChannel : Option Nat
  stops : List Stop
deriving DecidableEq, Repr

/-- A FORM END marker (R26, R57): the form it ends, with that form's length and pitch. -/
structure FormEndMark where
  form : Nat
  length : Nat
  pitch : LinePitch
deriving DecidableEq, Repr

/-- What the Forms Controller holds: its table and the position of the virtual paper. -/
structure Forms where
  table : FormsTable
  form : Nat
  line : Nat
  touched : Bool
  layers : Nat
  owed : Option FormEndMark
deriving DecidableEq, Repr

/-- SPACE n or SKIP c (R209). -/
inductive MotionAction where
  | space (n : Nat)
  | skip (channel : Nat)
deriving DecidableEq, Repr

/-- A motion byte read: AFTER or BEFORE, and the action (R209). -/
structure Motion where
  after : Bool
  action : MotionAction
deriving DecidableEq, Repr

/-! ### Listing keys -/

/-- The collation (R71): for each glyph its rank 1 to 250, or IGNORE (`none`). -/
abbrev Collation := Vector (Option Nat) 240

/-- The leader zone and its glyph (R75). -/
structure LeaderZone where
  first : Nat
  last : Nat
  glyph : Glyph
deriving DecidableEq, Repr

/-- The field layout (R75). -/
structure FieldLayout where
  keyStart : Nat
  keyLength : Nat
  zone : Option LeaderZone
deriving DecidableEq, Repr

/-- What the Key Comparator holds. The held key is a ranked key, or absent (R82). -/
structure KeyComparator where
  collation : Collation
  layout : FieldLayout
  heldKey : Option (List Nat)
deriving DecidableEq, Repr

/-- The result of judging a line (R82); a line with an empty ranked key is unkeyed (R79). -/
inductive Verdict where
  | unkeyed
  | first
  | inOrder
  | duplicate
  | outOfOrder
deriving DecidableEq, Repr

/-! ### The sheet plan and the sheet record -/

/-- The flags a plan lets mark the margin (R109). -/
structure MarkSet where
  outOfOrder : Bool
  duplicate : Bool
  overLine : Bool
deriving DecidableEq, Repr

/-- The SHEET PLAN: the eleven geometry fields of R89 and the three composition fields of R109. -/
structure SheetPlan where
  gang : Nat
  sheetWidth : Nat
  sheetHeight : Nat
  leftMargin : Nat
  topMargin : Nat
  cellWidth : Nat
  columnWidth : Nat
  gutter : Nat
  headerDepth : Nat
  columnDepth : Nat
  maxStep : Nat
  guideWidth : Nat
  folioStart : Option Nat
  marks : MarkSet
deriving DecidableEq, Repr

/-- A source layer of a line (R93): the text as translated and the clamped flag it came with. -/
structure Source where
  text : Text
  clamped : Bool
deriving DecidableEq, Repr

/-- What the Column Fitter hands back for a line that is not clipped, less the place (R103). -/
structure Fitted where
  step : Nat
  baseText : Text
  overText : Option Text
  squeezed : Bool
  overFlag : Bool
deriving DecidableEq, Repr

/-- A placed line of a column (R132). `fit` holds the step, the printed texts and the fit flags SQUEEZED and OVER
(`overFlag`); the key flags OUT OF ORDER and DUPLICATE are those of the judgement. -/
structure Line where
  number : Nat
  baseline : Nat
  fit : Fitted
  outOfOrder : Bool
  duplicate : Bool
  displayKey : Option Text
  base : Source
  overstrike : Option Source
deriving DecidableEq, Repr

/-- The binding of a column (R115): its form, its vertical pitch and its left edge. -/
structure Binding where
  form : Nat
  pitch : Nat
  left : Nat
deriving DecidableEq, Repr

/-- A column of a sheet record (R132). -/
structure Column where
  binding : Option Binding
  closed : Bool
  lines : List Line
deriving DecidableEq, Repr

/-- The kinds of mark record (R124). -/
inductive MarkKind where
  | outOfOrder
  | duplicate
  | overLine
deriving DecidableEq, Repr

/-- A mark record (R124). -/
structure Mark where
  kind : MarkKind
  left : Nat
  baseline : Nat
deriving DecidableEq, Repr

/-- The left and right guides of a sheet (R122). -/
structure Guides where
  left : Text
  right : Text
deriving DecidableEq, Repr

/-- A sheet record (R131). The state and engine fields of the record are the slot's `SlotPhase`. -/
structure Sheet where
  seq : Word16
  folio : Option Nat
  guides : Option Guides
  seqFault : Bool
  reissue : Nat
  plan : SheetPlan
  columns : List Column
  marks : List Mark
deriving DecidableEq, Repr

/-- The state of an occupied slot with its engine field (R130); a FREE slot holds no record and is `none` in the ring. -/
inductive SlotPhase where
  | assembling
  | ready
  | sending (e : Engine)
  | sent (e : Engine)
  | finished (e : Engine)
deriving DecidableEq, Repr

/-- An occupied slot. -/
structure Occupied where
  phase : SlotPhase
  sheet : Sheet
deriving DecidableEq, Repr

/-- The Sheet Ring: its six slots in physical order (R130); `none` is FREE. -/
abbrev Ring := List (Option Occupied)

/-- What the Sheet Composer holds beside the assembling sheet, which is the ring's slot in state ASSEMBLING (R108). -/
structure Composer where
  plan : SheetPlan
  column : Nat
  nextSeq : Word16
  nextFolio : Option Nat
  waiting : Bool
deriving DecidableEq, Repr

/-! ### The Intake Queue -/

/-- A PLACED LINE entry (R32, R57). -/
structure PlacedEntry where
  form : Nat
  line : Nat
  layer : Nat
  text : Text
  clamped : Bool
  length : Nat
  pitch : LinePitch
deriving DecidableEq, Repr

/-- The validated fields of a stream table (R57). -/
inductive StreamTable where
  | collation (c : Collation)
  | fieldLayout (l : FieldLayout)
  | sheetPlan (p : SheetPlan)
  | keyReset
deriving DecidableEq, Repr

/-- An entry of the Intake Queue (R57). `fenced` marks the fenced entry of R7. -/
inductive Entry where
  | placedLine (p : PlacedEntry)
  | formEnd (f : FormEndMark)
  | streamTable (t : StreamTable) (fenced : Bool)
  | sync
deriving DecidableEq, Repr

/-! ### The Line Port -/

/-- The five orders (R208). -/
inductive OrderKind where
  | print
  | move
  | table
  | query
  | sync
deriving DecidableEq, Repr

/-- The check kinds of R14. -/
inductive CheckKind where
  | parity
  | order
  | motion
  | noStop
  | data
  | tableFormat
  | tableRange
  | engineStopped
deriving DecidableEq, Repr

/-- The check record (R14). -/
structure CheckRecord where
  kind : CheckKind
  order : Byte
  position : Option Nat
  detail : Nat
deriving DecidableEq, Repr

/-- The reply kinds of R210. -/
inductive ReplyKind where
  | done
  | check
  | notReady
deriving DecidableEq, Repr

/-- A reply byte presented (R13). -/
structure Reply where
  kind : ReplyKind
  formsEnd : Bool
  notice : Bool
  clamped : Bool
deriving DecidableEq, Repr

/-- The order in hand (the list before R1). `kind` is `none` for an order byte with a parity error or an unknown one. -/
structure Hand where
  orderByte : Byte
  kind : Option OrderKind
  kept : List Byte
  count : Nat
  parityError : Option (Nat × Byte)
  clamped : Bool
deriving DecidableEq, Repr

/-- The two phases of a withheld SYNC (R16). -/
inductive SyncPhase where
  | markerQueued
  | ringWatch
deriving DecidableEq, Repr

/-- The six port states with what each holds. WAITING holds an order byte, or a TABLE order with its kind byte (R6).
RESPONDING holds the response bytes still to be taken, the first of them on the lines, and the order's clamped flag. -/
inductive PortState where
  | idle
  | waitingOrder (orderByte : Byte) (kind : OrderKind)
  | waitingKind (hand : Hand) (kindByte : Byte)
  | takingData (hand : Hand)
  | responding (rest : List Byte) (clamped : Bool)
  | replying (reply : Reply)
  | syncWithheld (phase : SyncPhase) (clamped : Bool)
deriving DecidableEq, Repr

/-- What the Line Port holds beside the fenced entry, which is marked in the queue, and the SYNC-pending flag, which is
read from the queue (R18). `accept` is the ACCEPT line: raised for the byte last taken up. -/
structure LinePort where
  unit : BitVec 4
  check : Option CheckRecord
  fenceArmed : Bool
  port : PortState
  accept : Bool
deriving DecidableEq, Repr

/-! ### Engine links -/

/-- The engine arrangements (R140). -/
inductive Arrangement where
  | singleA
  | singleB
  | standby
  | tandem
deriving DecidableEq, Repr

/-- The LINK SETTINGS in force (R161). The settle delay is held in ms. -/
structure LinkSettings where
  arrangement : Arrangement
  advertised : ModeSet
  settleMs : Nat
  takenMs : Nat
  stackedMs : Nat
  paceWindow : Nat
  paceTarget : Nat
  degradeThreshold : Nat
deriving DecidableEq, Repr

/-- The seven link states of R149. -/
inductive LinkState where
  | off
  | offering
  | agreeing
  | settling
  | ready
  | stopped
  | broken
deriving DecidableEq, Repr

/-- A Pace Monitor (R183). `tOver` and `sOver` are the model's own: a counter has overflowed and the window's end,
which the spec takes at once, is due. -/
structure PaceMonitor where
  t : Word16
  s : BitVec 8
  shortCount : Nat
  degraded : Bool
  tOver : Bool
  sOver : Bool
deriving DecidableEq, Repr

/-- A sheet of an in-flight list (R141), with its TAKEN timer (R173) and its STACKED timer (R175): the duration in ms it
was started with, while it runs. -/
structure InFlight where
  seq : Word16
  takenTimer : Option Nat
  stackedTimer : Option Nat
deriving DecidableEq, Repr

/-- The kinds of header item (R123, R168). -/
inductive HeaderKind where
  | leftGuide
  | rightGuide
  | folio
  | seqFault
  | reissue
deriving DecidableEq, Repr

/-- A header item: its kind, the point where it begins, its glyphs and its decimal digits. -/
structure HeaderItem where
  kind : HeaderKind
  x : Nat
  y : Nat
  glyphs : Text
  digits : List Nat
deriving DecidableEq, Repr

/-- The layer a RUN frame prints (R169). -/
inductive RunLayer where
  | base
  | overstrike
deriving DecidableEq, Repr

/-- The frames a link sends (R150, R167 to R170). -/
inductive Frame where
  | offer (modes : ModeSet) (ack : Bool)
  | sheetBegin (seq : Word16) (folio : Option Nat) (reissue : Option Nat) (mode : Mode) (width height : Nat)
      (items : List HeaderItem)
  | run (left baseline step : Nat) (layer : RunLayer) (text : Text)
  | mark (m : Mark)
  | sheetEnd (seq : Word16) (runs marks : Nat)
deriving DecidableEq, Repr

/-- A transfer whose SHEET END has not been sent (R167): its sheet and its frames after SHEET BEGIN. -/
structure Transfer where
  seq : Word16
  opening : Frame
  rest : List Frame
deriving DecidableEq, Repr

/-- The timers of a link's state: for each running timer, the duration in ms it was started with. -/
structure LinkTimers where
  offerRepeat : Option Nat
  offerWindow : Option Nat
  ackWindow : Option Nat
  settle : Option Nat
  silence : Option Nat
  breakEnd : Option Nat
deriving DecidableEq, Repr

/-- What an Engine Link holds (R149, R141, R177, R183). `lastSent` is the model's view of the wire: the frames the link
sent at its latest sending. -/
structure Link where
  state : LinkState
  keptSet : Option ModeSet
  offerCount : Nat
  offersSeen : Bool
  idleSeen : Bool
  agreedSet : Option ModeSet
  mode : Option Mode
  plain : Bool
  draining : Bool
  hasBeenReady : Bool
  stopCause : Option StopCause
  inFlight : List InFlight
  writing : List Transfer
  timers : LinkTimers
  pace : PaceMonitor
  lastSent : List Frame
deriving DecidableEq, Repr

/-- What the Sheet Dispatcher remembers (R139); the arrangement is the one of the LINK SETTINGS in force. -/
structure Dispatcher where
  active : Engine
  lastGranted : Engine
deriving DecidableEq, Repr

/-! ### Notices and counters -/

/-- A set of notice sources: bit k is source k (R201). -/
abbrev NoticeSet := BitVec 10

/-- The ten notice sources of R201. -/
inductive Source10 where
  | engineStoppedA
  | engineStoppedB
  | engineRestored
  | failover
  | degraded
  | listingOrder
  | ringFull
  | folioLimit
  | negotiationFault
  | tableRefused
deriving DecidableEq, Repr

/-- The Notice Unit (R202 to R206). `confirmed` is the clearing mode; `burst` the burst timer with its duration while it
runs; `pattern` is present while class 2 or 3 is shown and says whether its on period runs. -/
structure NoticeUnit where
  mask : NoticeSet
  pending : NoticeSet
  confirmed : Bool
  burst : Option Nat
  pattern : Option Bool
deriving DecidableEq, Repr

/-- The sixteen counters, in the order of R200. -/
inductive Counter where
  | linesAccepted
  | ordersRefused
  | unprintable
  | placedLines
  | overstrikeMerges
  | keyedLines
  | outOfOrder
  | duplicates
  | overLines
  | squeezedLines
  | depthClipped
  | sheetsCommitted
  | stackedA
  | stackedB
  | reissued
  | strays
deriving DecidableEq, Repr

/-- The values of the sixteen counters; counter k is entry k. -/
abbrev Counters := Vector Word32 16

end Sys2Proof.Machine
end

