-- ==== Sys2Proof/Machine/Bytes.lean ====
section
/-! DEFINITION. Byte order and parity on the Line Port. -/

namespace Sys2Proof.Machine

/-- A number of one byte; values above 255 do not occur where it is used. -/
def byteOf (n : Nat) : Byte := BitVec.ofNat 8 n

/-- R193: a two-byte value is sent more significant byte first. -/
def be16 (n : Nat) : List Byte := [byteOf (n / 256), byteOf n]

/-- R193: a four-byte value is sent most significant byte first. -/
def be32 (n : Nat) : List Byte := be16 (n / 65536) ++ be16 n

/-- R193: a flag is 1 when set and 0 when clear. -/
def flagByte (b : Bool) : Byte := if b then 1 else 0

/-- A byte of a list, counted from 0; a byte that is not there reads as 0. -/
def byteAt (body : List Byte) (i : Nat) : Nat := (body.getD i 0).toNat

/-- A two-byte field that begins at index `i`, more significant byte first. -/
def wordAt (body : List Byte) (i : Nat) : Nat := byteAt body i * 256 + byteAt body (i + 1)

/-- How many of the eight data lines carry a one. -/
def onesIn (d : Byte) : Nat := (List.range 8).countP fun i => d.getLsbD i

/-- R3: the eight data lines and the parity line together carry an odd number of ones. -/
def parityGood (d : Byte) (parity : Bool) : Bool := (onesIn d + parity.toNat) % 2 == 1

/-- The level of the PARITY line for a byte the part presents. -/
def oddParity (d : Byte) : Bool := onesIn d % 2 == 0

/-- R14, R91: a detail or a byte position held at 255. -/
def held255 (n : Nat) : Nat := min 255 n

end Sys2Proof.Machine
end

