-- ==== Sys2Proof/Machine/Reset.lean ====
section
/-! DEFINITION. The value each block takes at hardware reset, with the defaults of every table, and the link state that
both resets build on. -/

namespace Sys2Proof.Machine

/-- R43: the entry of host code `k` in the default map. -/
def defaultMapEntry (k : Nat) : MapEntry :=
  if k = 32 then .blank
  else if 33 ≤ k ∧ k ≤ 126 then .glyph (Fin.ofNat 240 (k - 33))
  else .unprintable

/-- R43: the default map. -/
def defaultMap : CharMap where
  action := .blank
  substitute := 0
  entries := Vector.ofFn fun k => defaultMapEntry k.val

/-- R22: the FORMS table after hardware reset. -/
def defaultForms : FormsTable where
  length := 66
  pitch := .lpi6
  endChannel := some 12
  stops := [⟨1, 1⟩, ⟨60, 12⟩]

/-- R24, R25, R39, R40: the position both resets leave, under the table given. -/
def formsAtStart (t : FormsTable) : Forms where
  table := t
  form := 1
  line := 1
  touched := false
  layers := 0
  owed := none

/-- R72: in the default collation glyph g ranks g + 1. -/
def defaultCollation : Collation := Vector.ofFn fun g => some (g.val + 1)

/-- R75: the field layout after hardware reset. -/
def defaultLayout : FieldLayout where
  keyStart := 1
  keyLength := 20
  zone := none

/-- R89, R109: the plan the GANG strap selects. -/
def defaultPlan (gang : Bool) : SheetPlan where
  gang := if gang then 3 else 1
  sheetWidth := 10200
  sheetHeight := 13200
  leftMargin := 600
  topMargin := 600
  cellWidth := if gang then 80 else 68
  columnWidth := if gang then 3000 else 9000
  gutter := if gang then 240 else 0
  headerDepth := 480
  columnDepth := 12000
  maxStep := 2
  guideWidth := 24
  folioStart := some 1
  marks := ⟨true, true, true⟩

/-- R129: the composer after either reset, under the plan given. -/
def composerAtStart (p : SheetPlan) : Composer where
  plan := p
  column := 1
  nextSeq := 1
  nextFolio := p.folioStart
  waiting := false

/-- R138: a ring with every slot FREE. -/
def emptyRing : Ring := List.replicate Config.ringSlots none

/-- 00_scope, straps: 0 SINGLE A, 1 SINGLE B, 2 STANDBY, 3 TANDEM. R162 encodes the table's field in the same way. -/
def arrangementOf (n : Nat) : Arrangement :=
  match n with
  | 0 => .singleA
  | 1 => .singleB
  | 2 => .standby
  | _ => .tandem

/-- R161: the LINK SETTINGS after hardware reset. -/
def defaultSettings (arrangement : Arrangement) : LinkSettings where
  arrangement := arrangement
  advertised := 15
  settleMs := 0
  takenMs := 5000
  stackedMs := 20000
  paceWindow := 3000
  paceTarget := 4
  degradeThreshold := 3

/-- R160: an arrangement uses a link when it may give that link's engine sheets. -/
def Arrangement.uses : Arrangement → Engine → Bool
  | .singleA, .a => true
  | .singleA, .b => false
  | .singleB, .a => false
  | .singleB, .b => true
  | .standby, _ => true
  | .tandem, _ => true

/-- R183: a reload loads T with 65536 less the pace window and S with 256 less the pace target, and leaves the
short-window count and the degraded flag. -/
def PaceMonitor.reload (cfg : LinkSettings) (p : PaceMonitor) : PaceMonitor :=
  { p with
    t := BitVec.ofNat 16 (65536 - cfg.paceWindow)
    s := BitVec.ofNat 8 (256 - cfg.paceTarget)
    tOver := false
    sOver := false }

/-- R188: a Pace Monitor after a reset: reloaded, with no short window and not degraded. -/
def paceAtStart (cfg : LinkSettings) : PaceMonitor :=
  PaceMonitor.reload cfg ⟨0, 0, 0, false, false, false⟩

/-- No timer runs. -/
def noTimers : LinkTimers := ⟨none, none, none, none, none, none⟩

/-- R165, R188: a link that is OFF with nothing in flight, as either reset builds it. -/
def linkAtStart (cfg : LinkSettings) : Link where
  state := .off
  keptSet := none
  offerCount := 0
  offersSeen := false
  idleSeen := false
  agreedSet := none
  mode := none
  plain := false
  draining := false
  hasBeenReady := false
  stopCause := none
  inFlight := []
  writing := []
  timers := noTimers
  pace := paceAtStart cfg
  lastSent := []

/-- R152: what entering OFFERING does when no engine OFFER caused it: the marks of the last agreement are cleared, the
offer window and the repetition start, and the link sends its OFFER with ack 0. -/
def Link.enterOffering (cfg : LinkSettings) (l : Link) : Link :=
  { l with
    state := .offering
    keptSet := none
    offerCount := 0
    offersSeen := false
    idleSeen := false
    agreedSet := none
    mode := none
    plain := false
    draining := false
    stopCause := none
    timers := { noTimers with
      offerRepeat := some Config.offerRepeatMs, offerWindow := some Config.offerWindowMs }
    lastSent := [.offer cfg.advertised false] }

/-- R165: the link after hardware reset: OFFERING when the arrangement uses it, else OFF. -/
def linkAtReset (cfg : LinkSettings) (e : Engine) : Link :=
  if cfg.arrangement.uses e then (linkAtStart cfg).enterOffering cfg else linkAtStart cfg

/-- R207: the Notice Unit after hardware reset. -/
def noticesAtReset : NoticeUnit where
  mask := 1023
  pending := 0
  confirmed := false
  burst := none
  pattern := none

/-- R21: the Line Port after hardware reset, with the unit address of the straps. -/
def portAtReset (unit : BitVec 4) : LinePort where
  unit := unit
  check := none
  fenceArmed := false
  port := .idle
  accept := false

/-- R139: the dispatcher after either reset. -/
def dispatcherAtStart : Dispatcher := ⟨.a, .b⟩

/-- R200: every counter at 0. -/
def countersAtReset : Counters := Vector.replicate 16 0

end Sys2Proof.Machine
end

