-- ==== Sys2Proof/Machine/State.lean ====
section
/-! DEFINITION. The whole state of the part as plain data, the reasons a step can stop, and the state after hardware
reset. INVENTORY.md lists every field with the rule that names it and its reset value. -/

namespace Sys2Proof.Machine

/-- The faults of a step. There is none: the spec gives the part no event at which it stops, and every rule's effect is
total. -/
inductive Fault
deriving DecidableEq, Repr

/-- The refusals of a step. -/
inductive Refusal where
  /-- Raised by exec's arms for a row with no meaning; no arm raises it in this model. Safe. -/
  | notModelled (mnemonic : String)
  /-- Raised by the meaning of STOP for a cause that no STOP frame carries (R177: JAM and TIMEOUT are causes the link
  sets for itself). Safe: the spec knows no such frame, and no claim about a next state holds there. -/
  | noSuchFrame
deriving DecidableEq, Repr

/-- The state of the Abrisel 740, and last the commands that wait, first in first out. -/
structure State where
  lp : LinePort
  map : CharMap
  forms : Forms
  queue : List Entry
  keys : KeyComparator
  composer : Composer
  ring : Ring
  settings : LinkSettings
  dispatcher : Dispatcher
  linkA : Link
  linkB : Link
  notices : NoticeUnit
  counters : Counters
  pending : List Instr
deriving DecidableEq, Repr

/-- Hardware reset under the straps given: every block at the value its chapter states (R21, R39, R43, R70, R88, R129,
R138, R139, R165, R188, R200, R207). -/
def State.atReset (straps : Straps) : State :=
  let cfg := defaultSettings (arrangementOf straps.arrangement.toNat)
  { lp := portAtReset straps.unit
    map := defaultMap
    forms := formsAtStart defaultForms
    queue := []
    keys := ⟨defaultCollation, defaultLayout, none⟩
    composer := composerAtStart (defaultPlan straps.gang)
    ring := emptyRing
    settings := cfg
    dispatcher := dispatcherAtStart
    linkA := linkAtReset cfg .a
    linkB := linkAtReset cfg .b
    notices := noticesAtReset
    counters := countersAtReset
    pending := [] }

/-- The machine right after hardware reset with every strap at 0: unit address 0, SINGLE A, GANG 0 (DESIGN CHOICE: the
straps belong to the board; notes/assumptions/1.md). -/
def State.reset : State := State.atReset ⟨0, 0, false⟩

end Sys2Proof.Machine
end

