-- ==== Sys2Proof/Machine/Operands.lean ====
section
/-! DEFINITION. The bytes the part takes, read: the order byte, the motion byte, the record header, the body of each
table kind with its range tests, and the same bodies written for QUERY TABLE. -/

namespace Sys2Proof.Machine

/-- R208: the order byte names the order. -/
def orderNamed (b : Byte) : Option OrderKind :=
  if b = 80 then some .print
  else if b = 77 then some .move
  else if b = 84 then some .table
  else if b = 81 then some .query
  else if b = 83 then some .sync
  else none

/-- R209: a motion byte that encodes SPACE 0 to 3 or SKIP 1 to 12, read; `none` for any other byte. -/
def motionOf (b : Byte) : Option Motion :=
  let operand := b.toNat % 16
  if b.getLsbD 4 then none
  else
    match b.toNat / 32 % 4 with
    | 0 => if operand ≤ 3 then some ⟨b.getLsbD 7, .space operand⟩ else none
    | 1 => if 1 ≤ operand ∧ operand ≤ 12 then some ⟨b.getLsbD 7, .skip operand⟩ else none
    | _ => none

/-- R210: the reply byte. -/
def Reply.toByte (r : Reply) : Byte :=
  let kind := match r.kind with
    | .done => 0
    | .check => 1
    | .notReady => 2
  byteOf (kind + 4 * r.formsEnd.toNat + 8 * r.notice.toNat + 16 * r.clamped.toNat)

/-! ### Table kinds (R189) -/

/-- R189: the kind bytes 1 to 12 name a kind. -/
def kindNamed (k : Byte) : Bool := decide (1 ≤ k.toNat) && decide (k.toNat ≤ 12)

/-- R64, R189: COLLATION, FIELD LAYOUT, KEY RESET and SHEET PLAN are stream tables. -/
def kindIsStream (k : Byte) : Bool := decide (3 ≤ k.toNat) && decide (k.toNat ≤ 6)

/-- R189: the body length a kind must have. -/
def bodyLengthGood (k : Byte) (n : Nat) : Bool :=
  match k.toNat with
  | 1 => n == 258
  | 2 => decide (5 ≤ n) && decide (n ≤ 67) && n % 2 == 1
  | 3 => n == 240
  | 4 => n == 5
  | 5 => n == 0
  | 6 => n == 23
  | 7 => n == 11
  | 8 => n == 3
  | 9 => n == 2
  | 10 => n == 1
  | 11 => n == 2
  | 12 => n == 0
  | _ => false

/-- R11: the framing tests of a record, in their order; the byte position and detail of the first that fails. -/
def framingFault (kept : List Byte) : Option (Option Nat × Nat) :=
  match kept with
  | k :: hi :: lo :: body =>
    if !kindNamed k then some (some 1, k.toNat)
    else if body.length ≠ hi.toNat * 256 + lo.toNat then some (some 2, held255 body.length)
    else if !bodyLengthGood k body.length then some (some 2, k.toNat)
    else none
  | _ => some (none, 0)

/-- One row of a table of range tests: whether it fails, its byte position and its detail. -/
structure RangeTest where
  fails : Bool
  position : Nat
  detail : Nat
deriving DecidableEq, Repr

/-- The first test that fails refuses the record. -/
def firstFault (tests : List RangeTest) : Option (Nat × Nat) :=
  (tests.find? fun t => t.fails).map fun t => (t.position, t.detail)

/-- A value outside a range that includes both ends. -/
def outside (lo hi n : Nat) : Bool := decide (n < lo) || decide (hi < n)

/-- R91: the detail of a two-byte field: the value divided by 100 and rounded down, held at 255. -/
def hundreds (n : Nat) : Nat := held255 (n / 100)

/-- R91: the detail of a sum test: the excess divided by 100 and rounded up, held at 255. -/
def hundredsUp (n : Nat) : Nat := held255 ((n + 99) / 100)

/-! ### CHARACTER MAP (R44) -/

/-- R44: 0 to 239 is that glyph, 240 BLANK, 241 UNPRINTABLE (a byte above 241 is refused before it is read). -/
def mapEntryOf (v : Nat) : MapEntry :=
  if v ≤ 239 then .glyph (Fin.ofNat 240 v) else if v = 240 then .blank else .unprintable

/-- R44: a map entry as the record body encodes it. -/
def MapEntry.toByte : MapEntry → Byte
  | .glyph g => byteOf g.val
  | .blank => 240
  | .unprintable => 241

/-- R44: the range tests, the entries from code 0 upward; the position of an entry is noted as 255 from code 250 on. -/
def charMapFault (body : List Byte) : Option (Nat × Nat) :=
  firstFault <|
    [⟨decide (2 < byteAt body 0), 4, byteAt body 0⟩, ⟨decide (239 < byteAt body 1), 5, byteAt body 1⟩] ++
      (List.range 256).map fun k => ⟨decide (242 ≤ byteAt body (2 + k)), held255 (6 + k), k⟩

/-- R44: the map a valid body holds. -/
def charMapOf (body : List Byte) : CharMap where
  action := match byteAt body 0 with
    | 0 => .blank
    | 1 => .mark
    | _ => .refuse
  substitute := Fin.ofNat 240 (byteAt body 1)
  entries := Vector.ofFn fun k => mapEntryOf (byteAt body (2 + k.val))

/-- R45: the map as the record body encodes it. -/
def CharMap.toBody (m : CharMap) : List Byte :=
  let action := match m.action with
    | .blank => 0
    | .mark => 1
    | .refuse => 2
  [byteOf action, byteOf m.substitute.val] ++ m.entries.toList.map MapEntry.toByte

/-! ### FORMS (R23) -/

/-- R22: the pitch a number of lines per inch names. -/
def pitchOf (n : Nat) : Option LinePitch :=
  match n with
  | 6 => some .lpi6
  | 8 => some .lpi8
  | 10 => some .lpi10
  | _ => none

/-- R23: the pitch as the number 6, 8 or 10. -/
def LinePitch.toNat : LinePitch → Nat
  | .lpi6 => 6
  | .lpi8 => 8
  | .lpi10 => 10

/-- The pairs of line and channel bytes of a body, in order. -/
def stopPairs : List Byte → List Stop
  | l :: c :: rest => ⟨l.toNat, c.toNat⟩ :: stopPairs rest
  | _ => []

/-- R23: the line, channel and duplicate tests of each stop, made in that order before the next stop is examined; `k`
numbers the stop from 1 and `seen` holds the stops before it. -/
def stopTests (length : Nat) : Nat → List Stop → List Stop → List RangeTest
  | _, _, [] => []
  | k, seen, st :: rest =>
    [⟨st.line == 0 || decide (length < st.line), 5 + 2 * k, st.line⟩,
      ⟨st.channel == 0 || decide (12 < st.channel), 6 + 2 * k, st.channel⟩,
      ⟨seen.contains st, 5 + 2 * k, st.line⟩] ++ stopTests length (k + 1) (st :: seen) rest

/-- R23: the range tests of a FORMS body, in order. -/
def formsFault (body : List Byte) : Option (Nat × Nat) :=
  let length := byteAt body 0
  let endChannel := byteAt body 2
  let stops := stopPairs (body.drop 3)
  firstFault <|
    [⟨outside 12 144 length, 4, length⟩,
      ⟨(pitchOf (byteAt body 1)).isNone, 5, byteAt body 1⟩,
      ⟨decide (12 < endChannel), 6, endChannel⟩] ++
    stopTests length 1 [] stops ++
    [⟨endChannel != 0 && !(stops.any fun st => st.channel == endChannel), 6, endChannel⟩]

/-- R23: the table a valid body holds. -/
def formsOf (body : List Byte) : FormsTable where
  length := byteAt body 0
  pitch := (pitchOf (byteAt body 1)).getD .lpi6
  endChannel := if byteAt body 2 = 0 then none else some (byteAt body 2)
  stops := stopPairs (body.drop 3)

/-- R22, R41: the table in force, its stops in the order in which they were loaded. -/
def FormsTable.toBody (t : FormsTable) : List Byte :=
  [byteOf t.length, byteOf t.pitch.toNat, byteOf (t.endChannel.getD 0)] ++
    t.stops.flatMap fun st => [byteOf st.line, byteOf st.channel]

/-! ### COLLATION (R73) -/

/-- R73: the first entry byte from 251 to 255 refuses the record, with the glyph as the detail. -/
def collationFault (body : List Byte) : Option (Nat × Nat) :=
  firstFault <| (List.range 240).map fun g => ⟨decide (251 ≤ byteAt body g), 4 + g, g⟩

/-- R73: an entry byte of 0 is IGNORE, and 1 to 250 is that rank. -/
def rankOf (v : Nat) : Option Nat := if v = 0 then none else some v

/-- R73: the collation a valid body holds. -/
def collationOf (body : List Byte) : Collation := Vector.ofFn fun g => rankOf (byteAt body g.val)

/-- R88: 240 entries in glyph order. -/
def collationBody (c : Collation) : List Byte := c.toList.map fun r => byteOf (r.getD 0)

/-! ### FIELD LAYOUT (R76) -/

/-- R76: the range tests of a FIELD LAYOUT body, in order. -/
def layoutFault (body : List Byte) : Option (Nat × Nat) :=
  let start := byteAt body 0
  let len := byteAt body 1
  let zoneFirst := byteAt body 2
  let zoneLast := byteAt body 3
  let glyph := byteAt body 4
  let zoned := decide (1 ≤ zoneFirst) && decide (zoneFirst ≤ 160)
  firstFault
    [⟨outside 1 160 start, 4, start⟩,
      ⟨outside 1 40 len, 5, len⟩,
      ⟨decide (160 < start + len - 1), 5, len⟩,
      ⟨decide (160 < zoneFirst), 6, zoneFirst⟩,
      ⟨zoneFirst == 0 && zoneLast != 0, 7, zoneLast⟩,
      ⟨zoned && (decide (zoneLast ≤ zoneFirst) || decide (160 < zoneLast)), 7, zoneLast⟩,
      ⟨zoned && decide (239 < glyph), 8, glyph⟩]

/-- R76: the layout a valid body holds. With no zone the leader-glyph byte is not kept. -/
def layoutOf (body : List Byte) : FieldLayout where
  keyStart := byteAt body 0
  keyLength := byteAt body 1
  zone :=
    if byteAt body 2 = 0 then none
    else some ⟨byteAt body 2, byteAt body 3, Fin.ofNat 240 (byteAt body 4)⟩

/-- R88: the layout as the record body encodes it; the leader-glyph byte is 0 when there is no zone. -/
def FieldLayout.toBody (l : FieldLayout) : List Byte :=
  [byteOf l.keyStart, byteOf l.keyLength] ++
    match l.zone with
    | none => [0, 0, 0]
    | some z => [byteOf z.first, byteOf z.last, byteOf z.glyph.val]

/-! ### SHEET PLAN (R90, R91, R110) -/

/-- R110: the margin-marks byte is the sum of 1, 2 and 4. -/
def marksOf (v : Nat) : MarkSet := ⟨v.testBit 0, v.testBit 1, v.testBit 2⟩

/-- R110: the margin marks as one byte. -/
def MarkSet.toByte (m : MarkSet) : Byte :=
  byteOf (m.outOfOrder.toNat + 2 * m.duplicate.toNat + 4 * m.overLine.toNat)

/-- R90: the plan a body holds; a folio start of 0 is none. -/
def planOf (body : List Byte) : SheetPlan where
  gang := byteAt body 0
  sheetWidth := wordAt body 1
  sheetHeight := wordAt body 3
  leftMargin := wordAt body 5
  topMargin := wordAt body 7
  cellWidth := byteAt body 9
  columnWidth := wordAt body 10
  gutter := wordAt body 12
  headerDepth := wordAt body 14
  columnDepth := wordAt body 16
  maxStep := byteAt body 18
  guideWidth := byteAt body 19
  folioStart := if wordAt body 20 = 0 then none else some (wordAt body 20)
  marks := marksOf (byteAt body 22)

/-- R102: the right edge of the column area, M + G × W + (G − 1) × gutter. -/
def SheetPlan.rightEdge (p : SheetPlan) : Nat :=
  p.leftMargin + p.gang * p.columnWidth + (p.gang - 1) * p.gutter

/-- R91: T + Hd + D. -/
def SheetPlan.bottomEdge (p : SheetPlan) : Nat := p.topMargin + p.headerDepth + p.columnDepth

/-- R91 and then R110: the range tests of a SHEET PLAN body, in order. -/
def planFault (body : List Byte) : Option (Nat × Nat) :=
  let p := planOf body
  let folio := wordAt body 20
  let marks := byteAt body 22
  firstFault
    [⟨outside 1 4 p.gang, 4, p.gang⟩,
      ⟨outside 6000 13200 p.sheetWidth, 5, hundreds p.sheetWidth⟩,
      ⟨outside 8400 20400 p.sheetHeight, 7, hundreds p.sheetHeight⟩,
      ⟨decide (2400 < p.leftMargin), 9, hundreds p.leftMargin⟩,
      ⟨decide (2400 < p.topMargin), 11, hundreds p.topMargin⟩,
      ⟨outside 40 160 p.cellWidth, 13, p.cellWidth⟩,
      ⟨outside 600 9600 p.columnWidth, 14, hundreds p.columnWidth⟩,
      ⟨decide (1200 < p.gutter), 16, hundreds p.gutter⟩,
      ⟨decide (1200 < p.headerDepth), 18, hundreds p.headerDepth⟩,
      ⟨outside 1200 16800 p.columnDepth, 20, hundreds p.columnDepth⟩,
      ⟨decide (4 < p.maxStep), 22, p.maxStep⟩,
      ⟨decide (p.sheetWidth < p.rightEdge), 14, hundredsUp (p.rightEdge - p.sheetWidth)⟩,
      ⟨decide (p.sheetHeight < p.bottomEdge), 20, hundredsUp (p.bottomEdge - p.sheetHeight)⟩,
      ⟨outside 1 40 p.guideWidth, 23, p.guideWidth⟩,
      ⟨decide (9999 < folio), 24, hundreds folio⟩,
      ⟨decide (7 < marks), 26, marks⟩]

/-- R107: all fourteen fields in the order and encoding of R90. -/
def SheetPlan.toBody (p : SheetPlan) : List Byte :=
  [byteOf p.gang] ++ be16 p.sheetWidth ++ be16 p.sheetHeight ++ be16 p.leftMargin ++ be16 p.topMargin ++
    [byteOf p.cellWidth] ++ be16 p.columnWidth ++ be16 p.gutter ++ be16 p.headerDepth ++ be16 p.columnDepth ++
    [byteOf p.maxStep, byteOf p.guideWidth] ++ be16 (p.folioStart.getD 0) ++ [p.marks.toByte]

/-! ### LINK SETTINGS (R162) -/

/-- R162: the arrangement as a number. -/
def Arrangement.toNat : Arrangement → Nat
  | .singleA => 0
  | .singleB => 1
  | .standby => 2
  | .tandem => 3

/-- R162: the range tests of a LINK SETTINGS body, in order. -/
def settingsFault (body : List Byte) : Option (Nat × Nat) :=
  firstFault
    [⟨decide (3 < byteAt body 0), 4, byteAt body 0⟩,
      ⟨outside 1 15 (byteAt body 1), 5, byteAt body 1⟩,
      ⟨decide (50 < byteAt body 2), 6, byteAt body 2⟩,
      ⟨outside 1000 10000 (wordAt body 3), 7, hundreds (wordAt body 3)⟩,
      ⟨outside 5000 60000 (wordAt body 5), 9, hundreds (wordAt body 5)⟩,
      ⟨outside 100 60000 (wordAt body 7), 11, hundreds (wordAt body 7)⟩,
      ⟨byteAt body 9 == 0, 13, byteAt body 9⟩,
      ⟨outside 1 7 (byteAt body 10), 14, byteAt body 10⟩]

/-- R162: the settings a valid body holds; the settle delay comes in steps of 100 ms. -/
def settingsOf (body : List Byte) : LinkSettings where
  arrangement := arrangementOf (byteAt body 0)
  advertised := BitVec.ofNat 4 (byteAt body 1)
  settleMs := 100 * byteAt body 2
  takenMs := wordAt body 3
  stackedMs := wordAt body 5
  paceWindow := wordAt body 7
  paceTarget := byteAt body 9
  degradeThreshold := byteAt body 10

/-- R161: the settings in the order and encoding of R162. -/
def LinkSettings.toBody (c : LinkSettings) : List Byte :=
  [byteOf c.arrangement.toNat, byteOf c.advertised.toNat, byteOf (c.settleMs / 100)] ++ be16 c.takenMs ++
    be16 c.stackedMs ++ be16 c.paceWindow ++ [byteOf c.paceTarget, byteOf c.degradeThreshold]

/-! ### NOTICE CONTROL, NOTICE CLEAR, UNIT (R189, R204, R205) -/

/-- R205: the mask is tested first, then the mode. -/
def noticeControlFault (body : List Byte) : Option (Nat × Nat) :=
  firstFault
    [⟨decide (1023 < wordAt body 0), 4, hundreds (wordAt body 0)⟩, ⟨decide (1 < byteAt body 2), 6, byteAt body 2⟩]

/-- R204: a value above 1023 names a source that does not exist. -/
def noticeClearFault (body : List Byte) : Option (Nat × Nat) :=
  firstFault [⟨decide (1023 < wordAt body 0), 4, hundreds (wordAt body 0)⟩]

/-- R2, R189: a unit address above 15 is refused, with the value as the detail. -/
def unitFault (body : List Byte) : Option (Nat × Nat) :=
  firstFault [⟨decide (15 < byteAt body 0), 4, byteAt body 0⟩]

end Sys2Proof.Machine
end

