-- ==== Sys2Proof/Machine/Translate.lean ====
section
/-! DEFINITION. The Code Translator: host codes into glyphs and blanks under the character map. -/

namespace Sys2Proof.Machine

/-- R42: the map is consulted by the value of each text byte. -/
def CharMap.entry (m : CharMap) (code : Byte) : MapEntry :=
  m.entries[code.toNat]'(by have h := code.isLt; omega)

/-- R47, R49, R50: what a text byte becomes; an UNPRINTABLE code is blank under BLANK and the substitute glyph under
MARK. (Under REFUSE a text with such a code is not translated, R48.) -/
def CharMap.position (m : CharMap) (code : Byte) : Option Glyph :=
  match m.entry code with
  | .glyph g => some g
  | .blank => none
  | .unprintable =>
    match m.action with
    | .mark => some m.substitute
    | .blank => none
    | .refuse => none

/-- R48: under REFUSE, the lowest text position (from 1) whose code is UNPRINTABLE, with that code. -/
def CharMap.firstRefused (m : CharMap) (text : List Byte) : Option (Nat × Byte) :=
  if m.action = .refuse then
    (text.zipIdx.find? fun c => m.entry c.1 == .unprintable).map fun c => (c.2 + 1, c.1)
  else none

/-- R52: how many positions of a text are replaced under BLANK or MARK. -/
def CharMap.replaced (m : CharMap) (text : List Byte) : Nat :=
  text.countP fun c => m.entry c == .unprintable

/-- R51: a text trimmed of its trailing blanks. -/
def trimBlanks (t : Text) : Text := (t.reverse.dropWhile fun p => p.isNone).reverse

/-- R47, R51: the glyph text of a PRINT; its length is the printing length L. -/
def CharMap.translate (m : CharMap) (text : List Byte) : Text := trimBlanks (text.map m.position)

end Sys2Proof.Machine
end

