-- ==== Sys2Proof/Machine/Forms.lean ====
section
/-! DEFINITION. The Forms Controller: motions by single steps, placements and forms loads on the virtual form. -/

namespace Sys2Proof.Machine

/-- R22: a stop of the channel lies on the line. -/
def FormsTable.carries (t : FormsTable) (line channel : Nat) : Bool := t.stops.contains ⟨line, channel⟩

/-- R10, R28: the channel has a stop in the table. -/
def FormsTable.hasChannel (t : FormsTable) (channel : Nat) : Bool := t.stops.any fun st => st.channel == channel

/-- R24: the form after a form; 65535 wraps to 1. -/
def nextForm (form : Nat) : Nat := if form = Config.lastForm then 1 else form + 1

/-- R26: the FORM END marker of the form under the print position, with that form's length and pitch. -/
def Forms.endMark (f : Forms) : FormEndMark := ⟨f.form, f.table.length, f.table.pitch⟩

/-- R26, R35, R36: one single-line step and the marker it queues, if it crosses. -/
def Forms.stepOnce (f : Forms) : Forms × List FormEndMark :=
  if f.line < f.table.length then ({ f with line := f.line + 1, layers := 0 }, [])
  else ({ f with form := nextForm f.form, line := 1, layers := 0, touched := false }, [f.endMark])

/-- R26: a series of steps and the markers they queue, in order. -/
def Forms.steps : Nat → Forms → Forms × List FormEndMark
  | 0, f => (f, [])
  | n + 1, f =>
    let one := f.stepOnce
    let more := Forms.steps n one.1
    (more.1, one.2 ++ more.2)

/-- The line that step `k` of a motion arrives on, k from 1. -/
def Forms.arrival (f : Forms) (k : Nat) : Nat := (f.line - 1 + k) % f.table.length + 1

/-- R27, R28: how many steps a motion takes. SPACE n takes n. SKIP c takes steps until the first line arrived on that
carries a stop of c, at most a whole form round. -/
def Forms.stepCount (f : Forms) : MotionAction → Nat
  | .space n => n
  | .skip c =>
    match (List.range f.table.length).find? fun k => f.table.carries (f.arrival (k + 1)) c with
    | some k => k + 1
    | none => f.table.length

/-- R36: a motion sets the form-touched flag at its end unless its last step was the crossing, which is the step that
arrives on line 1. -/
def Forms.move (f : Forms) (action : MotionAction) : Forms × List FormEndMark :=
  let n := f.stepCount action
  let run := f.steps n
  ({ run.1 with touched := n == 0 || run.1.line != 1 }, run.2)

/-- R29: the FORMS END flag: a SPACE that arrives on a line with a stop of the end channel. -/
def Forms.formsEnd (f : Forms) (action : MotionAction) : Bool :=
  match action, f.table.endChannel with
  | .space n, some c => (List.range n).any fun k => f.table.carries (f.arrival (k + 1)) c
  | .space _, none => false
  | .skip _, _ => false

/-- R34: the layer count after one more placement. -/
def raiseLayer (layers : Nat) : Nat := min 3 (layers + 1)

/-- R32 to R34, R36: the placement of a text, and the entry it queues; a blank text is no placement. -/
def Forms.place (f : Forms) (text : Text) (clamped : Bool) : Forms × List Entry :=
  if text.isEmpty then (f, [])
  else
    ({ f with layers := raiseLayer f.layers, touched := true },
      [.placedLine ⟨f.form, f.line, raiseLayer f.layers, text, clamped, f.table.length, f.table.pitch⟩])

/-- R30, R31, R58: a PRINT's motion and placement in the order of its timing, with the entries in the order made. -/
def Forms.print (f : Forms) (m : Motion) (text : Text) (clamped : Bool) : Forms × List Entry :=
  if m.after then
    let placed := f.place text clamped
    let moved := placed.1.move m.action
    (moved.1, placed.2 ++ moved.2.map .formEnd)
  else
    let moved := f.move m.action
    let placed := moved.1.place text clamped
    (placed.1, moved.2.map .formEnd ++ placed.2)

/-- R37: a forms load: the marker that ends a touched form, if any, and the position under the new table. The owed form
end is left for the queue to settle. -/
def Forms.load (f : Forms) (t : FormsTable) : Forms × Option FormEndMark :=
  if f.touched then
    ({ f with table := t, form := nextForm f.form, line := 1, touched := false, layers := 0 }, some f.endMark)
  else ({ f with table := t, line := 1, touched := false, layers := 0 }, none)

end Sys2Proof.Machine
end

