-- ==== Sys2Proof/Machine/Keys.lean ====
section
/-! DEFINITION. The Key Comparator: the ranked key and the display key of a line, and its judgement. -/

namespace Sys2Proof.Machine

/-- R75, R79: the positions of the key field, a position beyond the text being blank. -/
def FieldLayout.keyField (l : FieldLayout) (text : Text) : Text :=
  (List.range l.keyLength).map fun i => (text[l.keyStart - 1 + i]?).join

/-- R79: what one position gives: 0 for blank, a glyph's rank, or nothing for an IGNORE glyph. -/
def rankAt (table : Collation) : Option Glyph → Option Nat
  | none => some 0
  | some g => table.get g

/-- R79: rank-0 entries at the end of the sequence are dropped. -/
def trimZeros (ks : List Nat) : List Nat := (ks.reverse.dropWhile fun r => r == 0).reverse

/-- R79: the ranked key of a line. -/
def KeyComparator.rankedKey (k : KeyComparator) (text : Text) : List Nat :=
  trimZeros ((k.layout.keyField text).filterMap (rankAt k.collation))

/-- R80: the display key of a line: its key field as glyphs, trimmed of trailing blanks. -/
def KeyComparator.displayKey (k : KeyComparator) (text : Text) : Text := trimBlanks (k.layout.keyField text)

/-- R81: two ranked keys compared rank by rank; a proper prefix is the lower key. -/
def compareKeys : List Nat → List Nat → Ordering
  | [], [] => .eq
  | [], _ :: _ => .lt
  | _ :: _, [] => .gt
  | a :: as, b :: bs => if a < b then .lt else if b < a then .gt else compareKeys as bs

/-- R82: the result for a line's ranked key against the held key; a line with an empty key is unkeyed. -/
def verdictOf (held : Option (List Nat)) (key : List Nat) : Verdict :=
  if key.isEmpty then .unkeyed
  else
    match held with
    | none => .first
    | some h =>
      match compareKeys h key with
      | .lt => .inOrder
      | .eq => .duplicate
      | .gt => .outOfOrder

/-- R82: the verdict on a line. -/
def KeyComparator.verdict (k : KeyComparator) (text : Text) : Verdict := verdictOf k.heldKey (k.rankedKey text)

/-- R82: after a keyed line the held key is that line's ranked key; an unkeyed line leaves it. -/
def KeyComparator.afterLine (k : KeyComparator) (text : Text) : KeyComparator :=
  if (k.rankedKey text).isEmpty then k else { k with heldKey := some (k.rankedKey text) }

/-- R86: the held key is cleared. -/
def KeyComparator.clearHeld (k : KeyComparator) : KeyComparator := { k with heldKey := none }

end Sys2Proof.Machine
end

