-- ==== Sys2Proof/Machine/Fit.lean ====
section
/-! DEFINITION. The Column Fitter: vertical pitch, condense step, squeeze, truncation, leader fill and position. All
lengths are integers in units of 1/1200 inch. -/

namespace Sys2Proof.Machine

/-- The exact value n / d rounded up. -/
def ceilDiv (n d : Nat) : Nat := (n + (d - 1)) / d

/-- R22: the line pitch in units. -/
def LinePitch.units : LinePitch → Nat
  | .lpi6 => 200
  | .lpi8 => 150
  | .lpi10 => 120

/-- R94: the vertical pitch V' of a column, from the form length, the line pitch and the column depth. -/
def verticalPitch (length : Nat) (pitch : LinePitch) (depth : Nat) : Nat :=
  max (min pitch.units (depth / length)) (ceilDiv (3 * pitch.units) 4)

/-- R102: the left edge of column g. -/
def SheetPlan.leftEdge (p : SheetPlan) (g : Nat) : Nat := p.leftMargin + (g - 1) * (p.columnWidth + p.gutter)

/-- R95: the baseline of line n at a vertical pitch. -/
def SheetPlan.baseline (p : SheetPlan) (n pitch : Nat) : Nat := p.topMargin + p.headerDepth + n * pitch

/-- R95: a line that falls below the column depth is clipped. -/
def SheetPlan.clips (p : SheetPlan) (n pitch : Nat) : Bool := decide (p.columnDepth < n * pitch)

/-- R96: the width of `len` positions at a step. -/
def SheetPlan.widthAt (p : SheetPlan) (len step : Nat) : Nat := ceilDiv (len * p.cellWidth * (16 - step)) 16

/-- R96: the smallest permitted step at which a printing length fits the column width. -/
def SheetPlan.chooseStep (p : SheetPlan) (len : Nat) : Option Nat :=
  (List.range (p.maxStep + 1)).find? fun s => decide (p.widthAt len s ≤ p.columnWidth)

/-- R97: the fitting count K. -/
def SheetPlan.fittingCount (p : SheetPlan) : Nat := p.columnWidth * 16 / (p.cellWidth * (16 - p.maxStep))

/-! ### The combined line (R93) -/

/-- A position of the combined line: its base layer and its overstrike layer. -/
abbrev Cell2 := Option Glyph × Option Glyph

/-- R93: the positions of both layers side by side; a position beyond a layer's own length is blank in it. -/
def combine : Text → Text → List Cell2
  | [], os => os.map fun o => (none, o)
  | b :: bs, [] => (b, none) :: combine bs []
  | b :: bs, o :: os => (b, o) :: combine bs os

/-- R93: blank in every layer. -/
def blankCell (c : Cell2) : Bool := c.1.isNone && c.2.isNone

/-- A run of positions: its first position, from 1, and its length. -/
structure Run where
  first : Nat
  length : Nat
deriving DecidableEq, Repr

/-- The runs of blank positions taken whole, left to right. The number is the position of the head of the list; `cur` is
the run that ends just before it, if any. -/
def blankRuns : Nat → Option Run → List Cell2 → List Run
  | _, none, [] => []
  | _, some r, [] => [r]
  | n, cur, c :: cs =>
    if blankCell c then
      match cur with
      | none => blankRuns (n + 1) (some ⟨n, 1⟩) cs
      | some r => blankRuns (n + 1) (some { r with length := r.length + 1 }) cs
    else
      match cur with
      | none => blankRuns (n + 1) none cs
      | some r => r :: blankRuns (n + 1) none cs

/-- R98: the fillable runs of a combined line: whole runs of blank positions inside the leader zone with a position
before and a position after. -/
def fillableRuns (zone : Option LeaderZone) (cells : List Cell2) : List Run :=
  match zone with
  | none => []
  | some z =>
    (blankRuns 1 none cells).filter fun r =>
      decide (2 ≤ r.first) && decide (r.first + r.length ≤ cells.length) && decide (z.first ≤ r.first) &&
        decide (r.first + r.length - 1 ≤ z.last)

/-- R99: the longest run, the leftmost of the longest. -/
def longestRun : List Run → Option Run
  | [] => none
  | r :: rs =>
    match longestRun rs with
    | none => some r
    | some q => if r.length < q.length then some q else some r

/-- R99: the last `m` positions of a run are removed from every layer. -/
def removeFromRun (r : Run) (m : Nat) (cells : List Cell2) : List Cell2 :=
  cells.take (r.first + r.length - 1 - m) ++ cells.drop (r.first + r.length - 1)

/-- R99: the squeeze of a line that must lose `excess` positions: what is left, and whether it was squeezed. -/
def squeeze (zone : Option LeaderZone) (excess : Nat) (cells : List Cell2) : List Cell2 × Bool :=
  match longestRun (fillableRuns zone cells) with
  | none => (cells, false)
  | some r =>
    let m := min excess (r.length - 3)
    if m = 0 then (cells, false) else (removeFromRun r m cells, true)

/-- R101: position `n` lies within positions 2 to r − 1 of a run. -/
def innerPosition (runs : List Run) (n : Nat) : Bool :=
  runs.any fun r => decide (r.first < n) && decide (n + 1 < r.first + r.length)

/-- R101: the leader glyph in the base layer of the inner positions of every fillable run; a run of 1 or 2 positions has
none. -/
def leaderFill (zone : Option LeaderZone) (cells : List Cell2) : List Cell2 :=
  match zone with
  | none => cells
  | some z =>
    let runs := fillableRuns zone cells
    cells.zipIdx.map fun c => if innerPosition runs (c.2 + 1) then (some z.glyph, c.1.2) else c.1

/-- R92, R96, R97, R99, R100: the cells, step and flags after the condense step and the overflow stage. -/
def overflowStage (p : SheetPlan) (zone : Option LeaderZone) (cells : List Cell2) :
    List Cell2 × Nat × Bool × Bool :=
  match p.chooseStep cells.length with
  | some s => (cells, s, false, false)
  | none =>
    let k := p.fittingCount
    let sq := squeeze zone (cells.length - k) cells
    if k < sq.1.length then (sq.1.take k, p.maxStep, sq.2, true) else (sq.1, p.maxStep, sq.2, false)

/-- R92 stages 2 to 4, R103: the fit of a line from its source layers. OVER is set by a truncation, and on a line with a
source layer whose clamped flag is set. -/
def fitSources (p : SheetPlan) (zone : Option LeaderZone) (base : Source) (overstrike : Option Source) : Fitted :=
  let cells := combine base.text ((overstrike.map fun o => o.text).getD [])
  let stage := overflowStage p zone cells
  let filled := leaderFill zone stage.1
  { step := stage.2.1
    baseText := filled.map Prod.fst
    overText := overstrike.map fun _ => filled.map Prod.snd
    squeezed := stage.2.2.1
    overFlag := stage.2.2.2 || base.clamped || (overstrike.map fun o => o.clamped).getD false }

/-! ### The merge of an overstrike (R118) -/

/-- R118, layer 3: at each position where the text is not blank its glyph replaces the position struck before. -/
def strikeText : Text → Text → Text
  | old, [] => old
  | [], t :: ts => t :: strikeText [] ts
  | o :: os, t :: ts => (if t.isSome then t else o) :: strikeText os ts

/-- R93, R118: the overstrike source of a line after an overstrike of a layer merges. -/
def mergeSource (old : Option Source) (layer : Nat) (text : Text) (clamped : Bool) : Source :=
  match old with
  | none => ⟨text, clamped⟩
  | some o => if layer = 2 then ⟨text, clamped⟩ else ⟨strikeText o.text text, o.clamped || clamped⟩

end Sys2Proof.Machine
end

