-- ==== Sys2Proof/Machine/Ops.lean ====
section
/-! DEFINITION. The named operations over the whole state: the links by engine, the counters, the Intake Queue, the
slots of the Sheet Ring and the opening of a sheet. -/

namespace Sys2Proof.Machine

/-! ### Links by engine -/

/-- The link of an engine. -/
def State.link (s : State) : Engine → Link
  | .a => s.linkA
  | .b => s.linkB

/-- The state with the link of an engine replaced. -/
def State.setLink (s : State) (e : Engine) (l : Link) : State :=
  match e with
  | .a => { s with linkA := l }
  | .b => { s with linkB := l }

/-- The state with the link of an engine changed. -/
def State.modLink (s : State) (e : Engine) (f : Link → Link) : State := s.setLink e (f (s.link e))

/-- The other engine. -/
def otherEngine : Engine → Engine
  | .a => .b
  | .b => .a

/-! ### Counters (R200) -/

/-- R200: the number k of a counter. -/
def Counter.index : Counter → Fin 16
  | .linesAccepted => 0
  | .ordersRefused => 1
  | .unprintable => 2
  | .placedLines => 3
  | .overstrikeMerges => 4
  | .keyedLines => 5
  | .outOfOrder => 6
  | .duplicates => 7
  | .overLines => 8
  | .squeezedLines => 9
  | .depthClipped => 10
  | .sheetsCommitted => 11
  | .stackedA => 12
  | .stackedB => 13
  | .reissued => 14
  | .strays => 15

/-- R200: a counter after `n` more counts; it holds at 4,294,967,295. -/
def countUp (v : Word32) (n : Nat) : Word32 := BitVec.ofNat 32 (min 4294967295 (v.toNat + n))

/-- The value of a counter. -/
def State.counter (s : State) (c : Counter) : Word32 := s.counters.get c.index

/-- `n` counts of a counter. -/
def State.count (s : State) (c : Counter) (n : Nat) : State :=
  { s with counters := s.counters.set c.index.val (countUp (s.counters.get c.index) n) c.index.isLt }

/-- R191: counter k becomes 0 when the value holds 2 to the power k. -/
def clearNamed (named : Nat) (cs : Counters) : Counters :=
  Vector.ofFn fun k => if named.testBit k.val then 0 else cs.get k

/-! ### The Intake Queue (R56) -/

/-- R56: the free entries are 16 less the occupancy. -/
def State.freeEntries (s : State) : Nat := Config.queueCapacity - s.queue.length

/-- R58: entries join at the tail, in the order made. -/
def State.enqueue (s : State) (es : List Entry) : State := { s with queue := s.queue ++ es }

/-- R61: the head leaves. What the removal brings about at the Line Port and for an owed form end are due steps. -/
def State.removeHead (s : State) : State := { s with queue := s.queue.tail }

/-- The entry is the fenced entry of R7. -/
def Entry.isFenced : Entry → Bool
  | .streamTable _ fenced => fenced
  | .placedLine _ => false
  | .formEnd _ => false
  | .sync => false

/-- R7: the fenced entry waits in the queue. -/
def State.fenceHolds (s : State) : Bool := s.queue.any Entry.isFenced

/-- R18: the SYNC-pending flag: at least one SYNC marker waits in the queue. -/
def State.syncPending (s : State) : Bool := s.queue.contains .sync

/-! ### The slots of the ring (R130, R133) -/

/-- R112: a slot is FREE. -/
def ringHasFree (r : Ring) : Bool := r.any fun o => o.isNone

/-- R17: how many sheets the ring holds, in any state other than FREE. -/
def sheetsIn (r : Ring) : Nat := r.countP fun o => o.isSome

/-- R194: how many slots are in a state given by a test on the phase. -/
def slotsIn (r : Ring) (p : SlotPhase → Bool) : Nat :=
  r.countP fun o => match o with
    | some x => p x.phase
    | none => false

/-- R111: the sheet takes the lowest-numbered FREE slot. -/
def fillFirst (o : Occupied) : Ring → Ring
  | [] => []
  | none :: r => some o :: r
  | some x :: r => some x :: fillFirst o r

/-- Every occupied slot changed in one way; a FREE slot stays FREE. -/
def mapSlots (f : Occupied → Occupied) (r : Ring) : Ring := r.map fun o => o.map f

/-- The assembling sheet, if there is one (R108). -/
def assemblingSheet : Ring → Option Sheet
  | [] => none
  | none :: r => assemblingSheet r
  | some o :: r => if o.phase = .assembling then some o.sheet else assemblingSheet r

/-- A change of the assembling sheet. -/
def onAssembling (f : Sheet → Sheet) (o : Occupied) : Occupied :=
  if o.phase = .assembling then { o with sheet := f o.sheet } else o

/-- The state with the assembling sheet changed. -/
def State.modSheet (s : State) (f : Sheet → Sheet) : State := { s with ring := mapSlots (onAssembling f) s.ring }

/-- R133: how many sheets were opened since a sheet was, counting it: 1 for the newest sheet of the run. -/
def State.age (s : State) (seq : Word16) : Nat := (s.composer.nextSeq - seq).toNat

/-- R133: the oldest sheet that meets a test, by the run of sequence numbers. -/
def oldestOf (age : Word16 → Nat) (p : Occupied → Bool) : Ring → Option Occupied
  | [] => none
  | none :: r => oldestOf age p r
  | some o :: r =>
    if p o then
      match oldestOf age p r with
      | none => some o
      | some q => if age q.sheet.seq ≤ age o.sheet.seq then some o else some q
    else oldestOf age p r

/-- The slot of a sheet becomes FREE and holds no record. -/
def dropSheet (seq : Word16) (r : Ring) : Ring :=
  r.map fun o => match o with
    | some x => if x.sheet.seq = seq then none else some x
    | none => none

/-- The slot is FINISHED. -/
def SlotPhase.isFinished : SlotPhase → Bool
  | .finished _ => true
  | .assembling => false
  | .ready => false
  | .sending _ => false
  | .sent _ => false

/-- The sheet is in flight on an engine (R130). -/
def SlotPhase.inFlightOn (e : Engine) : SlotPhase → Bool
  | .sending x => decide (x = e)
  | .sent x => decide (x = e)
  | .finished _ => false
  | .assembling => false
  | .ready => false

/-- R135: while the oldest sheet of the ring is FINISHED its slot is freed, one after another. -/
def freeFinished (age : Word16 → Nat) : Nat → Ring → Ring
  | 0, r => r
  | n + 1, r =>
    match oldestOf age (fun _ => true) r with
    | none => r
    | some o => if o.phase.isFinished then freeFinished age n (dropSheet o.sheet.seq r) else r

/-! ### Opening a sheet (R111) -/

/-- R111: a column that is unbound, open and holds no lines. -/
def emptyColumn : Column := ⟨none, false, []⟩

/-- R111: the record of a sheet newly opened. -/
def newSheet (c : Composer) : Sheet where
  seq := c.nextSeq
  folio := c.nextFolio
  guides := none
  seqFault := false
  reissue := 0
  plan := c.plan
  columns := List.replicate c.plan.gang emptyColumn
  marks := []

/-- R114: the next folio after a sheet has taken one; 9999 stays. -/
def advanceFolio : Option Nat → Option Nat
  | none => none
  | some n => some (if n < Config.lastFolio then n + 1 else Config.lastFolio)

/-- R111, R112: a sheet is opened in the lowest FREE slot; the sequence number and the folio advance, and the
waiting-for-slot flag clears. -/
def State.openSheet (s : State) : State :=
  { s with
    ring := fillFirst ⟨.assembling, newSheet s.composer⟩ s.ring
    composer := { s.composer with
      column := 1
      nextSeq := s.composer.nextSeq + 1
      nextFolio := advanceFolio s.composer.nextFolio
      waiting := false } }

/-- R112, R135: a composer that waits opens its sheet in a slot freed at this moment. -/
def State.wakeComposer (s : State) : State :=
  if s.composer.waiting && ringHasFree s.ring then s.openSheet else s

end Sys2Proof.Machine
end

