-- ==== Sys2Proof/Machine/Flags.lean ====
section
/-! DEFINITION. The Notice Unit: the conditions, the pending set, the NOTICE flag and the operator call line. -/

namespace Sys2Proof.Machine

/-- R201: the number of a source. -/
def Source10.number : Source10 → Nat
  | .engineStoppedA => 0
  | .engineStoppedB => 1
  | .engineRestored => 2
  | .failover => 3
  | .degraded => 4
  | .listingOrder => 5
  | .ringFull => 6
  | .folioLimit => 7
  | .negotiationFault => 8
  | .tableRefused => 9

/-- R201: source k stands for 2 to the power k. -/
def Source10.bit (x : Source10) : NoticeSet := BitVec.ofNat 10 (2 ^ x.number)

/-- The set of the sources listed. -/
def setOf : List Source10 → NoticeSet
  | [] => 0
  | x :: xs => x.bit ||| setOf xs

/-- The source is in the set. -/
def inSet (k : NoticeSet) (x : Source10) : Bool := k.getLsbD x.number

/-- A source alone when a condition holds, else the empty set. -/
def bitIf (x : Source10) (b : Bool) : NoticeSet := if b then x.bit else 0

/-- R201: the condition sources. -/
def conditionSources : NoticeSet :=
  setOf [.engineStoppedA, .engineStoppedB, .degraded, .ringFull, .folioLimit]

/-- R206: the sources of each class. -/
def classSources : Nat → NoticeSet
  | 1 => setOf [.engineStoppedA, .engineStoppedB]
  | 2 => setOf [.ringFull]
  | 3 => setOf [.degraded, .negotiationFault, .tableRefused]
  | 4 => setOf [.listingOrder, .folioLimit, .engineRestored, .failover]
  | _ => 0

/-! ### Conditions -/

/-- R180: ENGINE STOPPED holds on a link the arrangement uses that is STOPPED, or in BREAK or OFFERING after it has been
READY. -/
def engineStoppedHolds (cfg : LinkSettings) (e : Engine) (l : Link) : Bool :=
  cfg.arrangement.uses e &&
    match l.state with
    | .stopped => true
    | .broken => l.hasBeenReady
    | .offering => l.hasBeenReady
    | .off => false
    | .agreeing => false
    | .settling => false
    | .ready => false

/-- R187: the degraded flag is set on a link the arrangement uses. -/
def degradedHolds (s : State) : Bool :=
  (s.settings.arrangement.uses .a && s.linkA.pace.degraded) ||
    (s.settings.arrangement.uses .b && s.linkB.pace.degraded)

/-- R196, R201: the condition sources whose condition is true. -/
def State.conditions (s : State) : NoticeSet :=
  bitIf .engineStoppedA (engineStoppedHolds s.settings .a s.linkA) |||
    bitIf .engineStoppedB (engineStoppedHolds s.settings .b s.linkB) |||
    bitIf .degraded (degradedHolds s) |||
    bitIf .ringFull s.composer.waiting |||
    bitIf .folioLimit (s.composer.nextFolio == some Config.lastFolio)

/-! ### The operator call line (R206) -/

/-- The sources both enabled and pending. -/
def NoticeUnit.live (n : NoticeUnit) : NoticeSet := n.mask &&& n.pending

/-- R206: the lowest-numbered class with a source both enabled and pending; 0 when there is none. -/
def NoticeUnit.shownClass (n : NoticeUnit) : Nat :=
  if n.live &&& classSources 1 ≠ 0 then 1
  else if n.live &&& classSources 2 ≠ 0 then 2
  else if n.live &&& classSources 3 ≠ 0 then 3
  else if n.live &&& classSources 4 ≠ 0 then 4
  else 0

/-- R206: the burst timer and the pattern after the sources shown have changed from those of `old`: the timer starts,
from its beginning, when a class-4 source becomes live and stops when none is; a pattern starts at its on period when
the class shown changes to 2 or 3. -/
def NoticeUnit.driveCall (old new : NoticeUnit) : NoticeUnit :=
  { new with
    burst :=
      if new.live &&& ~~~old.live &&& classSources 4 ≠ 0 then some Config.burstMs
      else if new.live &&& classSources 4 = 0 then none
      else new.burst
    pattern :=
      if new.shownClass = 2 ∨ new.shownClass = 3 then
        if old.shownClass = new.shownClass then new.pattern else some true
      else none }

/-- R206: the OPERATOR CALL output. -/
def NoticeUnit.callLine (n : NoticeUnit) : Bool :=
  match n.shownClass with
  | 1 => true
  | 2 => n.pattern.getD false
  | 3 => n.pattern.getD false
  | 4 => n.burst.isSome
  | _ => false

/-- The Notice Unit with its pending set replaced. -/
def NoticeUnit.setPending (n : NoticeUnit) (p : NoticeSet) : NoticeUnit := n.driveCall { n with pending := p }

/-! ### Posts, rises and falls (R202, R203) -/

/-- R202: an event source is posted. -/
def State.post (s : State) (x : Source10) : State :=
  { s with notices := s.notices.setPending (s.notices.pending ||| x.bit) }

/-- R202, R203: the pending set after the conditions have passed from those of `before` to those of `after`: a rise
pends, and in LATCHED mode a fall clears. -/
def edgesOn (n : NoticeUnit) (before after : NoticeSet) : NoticeUnit :=
  let risen := n.pending ||| (after &&& ~~~before)
  n.setPending (if n.confirmed then risen else risen &&& ~~~(before &&& ~~~after))

/-- R202, R203: the rises and falls of the conditions between two states, settled in the later one. -/
def State.settleNotices (before after : State) : State :=
  { after with notices := edgesOn after.notices before.conditions after.conditions }

/-- R13, R202: the NOTICE flag: at least one source is both enabled and pending. -/
def State.noticeFlag (s : State) : Bool := s.notices.live != 0

end Sys2Proof.Machine
end

