-- ==== Sys2Proof/Machine/Port.lean ====
section
/-! DEFINITION. The Line Port's shared operations: presenting a reply, refusing an order, keeping a data byte, and the
judgement that every order meets at END. -/

namespace Sys2Proof.Machine

/-- The state with the port state replaced. -/
def State.setPort (s : State) (p : PortState) : State := { s with lp := { s.lp with port := p } }

/-- The state with the port state and the ACCEPT line replaced. -/
def State.setPortAccept (s : State) (p : PortState) (accept : Bool) : State :=
  { s with lp := { s.lp with port := p, accept := accept } }

/-- R13: a reply is presented; its NOTICE flag is taken from the Notice Unit at this moment. -/
def State.present (s : State) (kind : ReplyKind) (formsEnd clamped : Bool) : State :=
  s.setPort (.replying ⟨kind, formsEnd, s.noticeFlag, clamped⟩)

/-- R14, R190: an order is refused: the check record is written, the refusal counts, a TABLE order posts TABLE REFUSED,
and CHECK is presented. -/
def State.refuse (s : State) (h : Hand) (kind : CheckKind) (position : Option Nat) (detail : Nat) : State :=
  let s1 : State := { s with lp := { s.lp with check := some ⟨kind, h.orderByte, position, detail⟩ } }
  let s2 := s1.count .ordersRefused 1
  let s3 := if h.kind = some .table then s2.post .tableRefused else s2
  s3.present .check false h.clamped

/-- R10, R11: the DONE reply of an order carried out. -/
def State.done (s : State) (h : Hand) (formsEnd : Bool) : State := s.present .done formsEnd h.clamped

/-- R8: how many data bytes an order keeps; a TABLE keeps all. -/
def keepLimit : Option OrderKind → Option Nat
  | some .print => some Config.printKept
  | some .move => some 1
  | some .query => some 2
  | some .sync => some 0
  | some .table => none
  | none => some 0

/-- R8: the order keeps one more data byte. -/
def Hand.keeps (h : Hand) : Bool :=
  match keepLimit h.kind with
  | none => true
  | some n => decide (h.kept.length < n)

/-- R8: a data byte is taken: counted, and kept with its parity checked, or discarded with the clamped flag set (which an
order that names none of the five does not have). -/
def Hand.take (h : Hand) (data : Byte) (parity : Bool) : Hand :=
  if h.keeps then
    { h with
      kept := h.kept ++ [data]
      count := h.count + 1
      parityError :=
        if h.parityError.isNone && !parityGood data parity then some (held255 (h.count + 1), data)
        else h.parityError }
  else { h with count := h.count + 1, clamped := h.clamped || h.kind.isSome }

/-- R3: the order in hand when an order byte is accepted. -/
def newHand (orderByte : Byte) (kind : Option OrderKind) (parityError : Option (Nat × Byte)) : Hand :=
  ⟨orderByte, kind, [], 0, parityError, false⟩

/-- R4: the free entries an order needs at its order byte. -/
def roomNeeded : OrderKind → Nat
  | .print => 2
  | .move => 2
  | .sync => 1
  | .table => 0
  | .query => 0

/-- R4, R7: the order may be accepted now. -/
def State.accepts (s : State) (k : OrderKind) : Bool :=
  decide (roomNeeded k ≤ s.freeEntries) && !s.fenceHolds

/-- R6: a data byte that is the kind byte of a stream table, of good parity, while the queue has no free entry. -/
def State.holdsKind (s : State) (h : Hand) (data : Byte) (parity : Bool) : Bool :=
  decide (h.kind = some .table) && h.count == 0 && parityGood data parity && kindIsStream data &&
    s.freeEntries == 0

/-- END of the order in hand, for a row that `mine` says the order belongs to. END in any other port state is ignored
(R1), and an END of another row's order is that row's command. -/
def State.atEnd (s : State) (mine : Hand → Bool) (act : Hand → State → State) : State :=
  match s.lp.port with
  | .takingData h => if mine h then act h s else s
  | .idle => s
  | .waitingOrder _ _ => s
  | .waitingKind _ _ => s
  | .responding _ _ => s
  | .replying _ => s
  | .syncWithheld _ _ => s

/-- R9: the PARITY and ORDER tests, and then the order's own work. -/
def State.judge (s : State) (h : Hand) (own : State → State) : State :=
  match h.parityError with
  | some e => s.refuse h .parity (some e.1) e.2.toNat
  | none =>
    match h.kind with
    | none => s.refuse h .order none 0
    | some _ => own s

/-- The DATA lines: the byte presented while REPLY VALID is raised (R12, R13). -/
def LinePort.dataLines (lp : LinePort) : Option Byte :=
  match lp.port with
  | .responding rest _ => rest.head?
  | .replying r => some r.toByte
  | .idle => none
  | .waitingOrder _ _ => none
  | .waitingKind _ _ => none
  | .takingData _ => none
  | .syncWithheld _ _ => none

/-- The REPLY VALID line. -/
def LinePort.replyValid (lp : LinePort) : Bool := lp.dataLines.isSome

/-- The PARITY line beside the byte presented (R13). -/
def LinePort.parityLine (lp : LinePort) : Option Bool := lp.dataLines.map oddParity

end Sys2Proof.Machine
end

