-- ==== Sys2Proof/Machine/SheetFrames.lean ====
section
/-! DEFINITION. The frames a link writes a sheet with (R123, R167 to R170), read from the sheet record. -/

namespace Sys2Proof.Machine

/-- The decimal digits of a number of at most five digits, most significant first; the first argument bounds them. -/
def decimalDigits : Nat → Nat → List Nat
  | 0, _ => []
  | k + 1, n => if n < 10 then [n] else decimalDigits k (n / 10) ++ [n % 10]

/-- R123: the header baseline. -/
def SheetPlan.headerBaseline (p : SheetPlan) : Nat := p.topMargin + p.headerDepth

/-- R123: the marker baseline. -/
def SheetPlan.markerBaseline (p : SheetPlan) : Nat := p.topMargin + p.headerDepth / 2

/-- R123: the guides, the left beginning at M and the right ending at R. -/
def guideItems (p : SheetPlan) : Option Guides → List HeaderItem
  | none => []
  | some g =>
    [⟨.leftGuide, p.leftMargin, p.headerBaseline, g.left, []⟩,
      ⟨.rightGuide, max p.leftMargin (p.rightEdge - g.right.length * p.cellWidth), p.headerBaseline, g.right, []⟩]

/-- R123: the folio, centred at (M + R) / 2. -/
def folioItems (p : SheetPlan) : Option Nat → List HeaderItem
  | none => []
  | some n =>
    let digits := decimalDigits 5 n
    [⟨.folio, max p.leftMargin ((p.leftMargin + p.rightEdge) / 2 - digits.length * p.cellWidth / 2),
      p.headerBaseline, [], digits⟩]

/-- R123: the sequence-fault marker. -/
def faultItems (p : SheetPlan) (fault : Bool) : List HeaderItem :=
  if fault then [⟨.seqFault, p.leftMargin, p.markerBaseline, [], []⟩] else []

/-- R168: the reissue mark item, ending at R on the marker baseline. -/
def reissueItems (p : SheetPlan) (count : Nat) : List HeaderItem :=
  if count = 0 then []
  else
    let digits := decimalDigits 5 count
    [⟨.reissue, p.rightEdge - digits.length * p.cellWidth, p.markerBaseline, [], digits⟩]

/-- R123, R168: the header items; a header depth of 0 sends none. -/
def headerItems (sh : Sheet) : List HeaderItem :=
  if sh.plan.headerDepth = 0 then []
  else
    guideItems sh.plan sh.guides ++ folioItems sh.plan sh.folio ++ faultItems sh.plan sh.seqFault ++
      reissueItems sh.plan sh.reissue

/-- R169: M1 and M2 send the overstrike layer. -/
def sendsOverstrike : Mode → Bool
  | .fine => true
  | .standard => true
  | .proof => false
  | .plain => false

/-- R170: M1, M2 and M3 send the MARK frames. -/
def sendsMarks : Mode → Bool
  | .fine => true
  | .standard => true
  | .proof => true
  | .plain => false

/-- R169: the RUN frames of one line. -/
def lineFrames (mode : Mode) (left : Nat) (l : Line) : List Frame :=
  .run left l.baseline l.fit.step .base l.fit.baseText ::
    match l.fit.overText with
    | some t => if sendsOverstrike mode then [.run left l.baseline l.fit.step .overstrike t] else []
    | none => []

/-- R169: the RUN frames of one column; an unbound or empty column gives none. -/
def columnFrames (mode : Mode) (c : Column) : List Frame :=
  match c.binding with
  | none => []
  | some b => c.lines.flatMap (lineFrames mode b.left)

/-- R169: the RUN frames of a sheet, in column and line order. -/
def runFrames (mode : Mode) (sh : Sheet) : List Frame := sh.columns.flatMap (columnFrames mode)

/-- R170: the MARK frames of a sheet, in list order. -/
def markFrames (mode : Mode) (sh : Sheet) : List Frame :=
  if sendsMarks mode then sh.marks.map .mark else []

/-- R168: the SHEET BEGIN frame. -/
def sheetBeginFrame (mode : Mode) (sh : Sheet) : Frame :=
  .sheetBegin sh.seq sh.folio (if sh.reissue = 0 then none else some sh.reissue) mode sh.plan.sheetWidth
    sh.plan.sheetHeight (headerItems sh)

/-- R167, R170: the frames after SHEET BEGIN: RUN, MARK and SHEET END with its two counts. -/
def restFrames (mode : Mode) (sh : Sheet) : List Frame :=
  let runs := runFrames mode sh
  let marks := markFrames mode sh
  runs ++ marks ++ [.sheetEnd sh.seq runs.length marks.length]

/-- R167: the transfer a grant begins. -/
def transferOf (mode : Mode) (sh : Sheet) : Transfer := ⟨sh.seq, sheetBeginFrame mode sh, restFrames mode sh⟩

end Sys2Proof.Machine
end

