-- ==== Sys2Proof/Machine/Compose.lean ====
section
/-! DEFINITION. The Sheet Composer: the work of each kind of head entry on the assembling sheet. -/

namespace Sys2Proof.Machine

/-! ### Columns of the assembling sheet -/

/-- R115: a column bound to a form, if it is unbound. -/
def bindColumn (p : SheetPlan) (g : Nat) (form length : Nat) (pitch : LinePitch) (c : Column) : Column :=
  match c.binding with
  | some _ => c
  | none => { c with binding := some ⟨form, verticalPitch length pitch p.columnDepth, p.leftEdge g⟩ }

/-- A change of the current column of the assembling sheet. -/
def State.modColumn (s : State) (f : Column → Column) : State :=
  s.modSheet fun sh => { sh with columns := sh.columns.modify (s.composer.column - 1) f }

/-- R115: the current column is bound, if it is unbound. -/
def State.bind (s : State) (form length : Nat) (pitch : LinePitch) : State :=
  s.modColumn (bindColumn s.composer.plan s.composer.column form length pitch)

/-- The current column of the assembling sheet. -/
def State.currentColumn (s : State) : Option Column :=
  match assemblingSheet s.ring with
  | none => none
  | some sh => sh.columns[s.composer.column - 1]?

/-- R117: the last line of the current column, with the column's binding. -/
def State.lastLine (s : State) : Option (Binding × Line) :=
  match s.currentColumn with
  | none => none
  | some c =>
    match c.binding, c.lines.getLast? with
    | some b, some l => some (b, l)
    | some _, none => none
    | none, _ => none

/-- R118: a layer-2 or layer-3 entry merges into the last line of the current column when form and line agree. -/
def State.merges (s : State) (p : PlacedEntry) : Bool :=
  match s.lastLine with
  | none => false
  | some (b, l) => b.form == p.form && l.number == p.line

/-- R111, R112, R119: work that needs an assembling sheet is done on the sheet that is assembling, or on one opened for
it, or waits with the waiting-for-slot flag set and the head entry unbegun. -/
def State.withSheet (s : State) (work : State → State) : State :=
  if (assemblingSheet s.ring).isSome then work s
  else if ringHasFree s.ring then work s.openSheet
  else { s with composer := { s.composer with waiting := true } }

/-! ### Placed lines (R116, R118, R119) -/

/-- R82 to R84: the line is judged: the counters count, an OUT OF ORDER line posts LISTING ORDER, and the held key
follows the line. -/
def State.judgeLine (s : State) (text : Text) : State :=
  let s1 : State := { s with keys := s.keys.afterLine text }
  match s.keys.verdict text with
  | .unkeyed => s1
  | .first => s1.count .keyedLines 1
  | .inOrder => s1.count .keyedLines 1
  | .duplicate => (s1.count .keyedLines 1).count .duplicates 1
  | .outOfOrder => ((s1.count .keyedLines 1).count .outOfOrder 1).post .listingOrder

/-- R85, R116: the line a PLACED LINE entry gives under a verdict: fitted, with the flags and the display key of the
judgement. -/
def lineOf (plan : SheetPlan) (keys : KeyComparator) (pitch : Nat) (p : PlacedEntry) (v : Verdict) : Line where
  number := p.line
  baseline := plan.baseline p.line pitch
  fit := fitSources plan keys.layout.zone ⟨p.text, p.clamped⟩ none
  outOfOrder := v == .outOfOrder
  duplicate := v == .duplicate
  displayKey := if v = .unkeyed then none else some (keys.displayKey p.text)
  base := ⟨p.text, p.clamped⟩
  overstrike := none

/-- R117: a line added at the end of a column's list. -/
def addLine (l : Line) (c : Column) : Column := { c with lines := c.lines ++ [l] }

/-- R95, R116: the line is dropped as clipped and counted, or added to the current column. -/
def State.addOrClip (s : State) (p : PlacedEntry) (v : Verdict) : State :=
  match s.currentColumn.bind fun c => c.binding with
  | none => s
  | some b =>
    if s.composer.plan.clips p.line b.pitch then s.count .depthClipped 1
    else s.modColumn (addLine (lineOf s.composer.plan s.keys b.pitch p v))

/-- R116: a layer-1 line: sheet, binding, judgement, fit, and the entry finished. The verdict is that of the key held
before the judgement. -/
def State.placeJudged (s : State) (p : PlacedEntry) : State :=
  s.withSheet fun s1 =>
    let s2 := s1.bind p.form p.length p.pitch
    (((s2.judgeLine p.text).addOrClip p (s2.keys.verdict p.text)).count .placedLines 1).removeHead

/-- R119: an overstrike as a line of its own: as a base line, but not judged. -/
def State.placeUnjudged (s : State) (p : PlacedEntry) : State :=
  s.withSheet fun s1 =>
    (((s1.bind p.form p.length p.pitch).addOrClip p .unkeyed).count .placedLines 1).removeHead

/-- R104, R118: a line after an overstrike has merged into it: the source changed and the line fitted again. -/
def mergeLine (plan : SheetPlan) (zone : Option LeaderZone) (p : PlacedEntry) (l : Line) : Line :=
  let o := mergeSource l.overstrike p.layer p.text p.clamped
  { l with overstrike := some o, fit := fitSources plan zone l.base (some o) }

/-- The last line of a column changed. -/
def changeLast (f : Line → Line) (c : Column) : Column := { c with lines := c.lines.modify (c.lines.length - 1) f }

/-- R118: the merge of the head entry. -/
def State.merge (s : State) (p : PlacedEntry) : State :=
  (((s.modColumn (changeLast (mergeLine s.composer.plan s.keys.layout.zone p))).count .overstrikeMerges 1).count
    .placedLines 1).removeHead

/-! ### Closing (R106, R120 to R125) -/

/-- R106: the lines of a column closing are counted by their final fit. -/
def State.countFits (s : State) (ls : List Line) : State :=
  (s.count .squeezedLines (ls.countP fun l => l.fit.squeezed)).count .overLines
    (ls.countP fun l => l.fit.overFlag)

/-- The lines of a sheet in column and line order. -/
def Sheet.lines (sh : Sheet) : List Line := sh.columns.flatMap fun c => c.lines

/-- The lines of the columns still open. -/
def Sheet.openLines (sh : Sheet) : List Line := (sh.columns.filter fun c => !c.closed).flatMap fun c => c.lines

/-- R122: the guides of a sheet: the display keys of its first and last keyed lines, each cut to the guide width. -/
def Sheet.guidesOf (sh : Sheet) : Option Guides :=
  let keys := sh.lines.filterMap fun l => l.displayKey
  match keys.head?, keys.getLast? with
  | some a, some b => some ⟨a.take sh.plan.guideWidth, b.take sh.plan.guideWidth⟩
  | some _, none => none
  | none, _ => none

/-- R124: the mark records of one line, in the order OUT OF ORDER, DUPLICATE, OVER. -/
def lineMarks (m : MarkSet) (left : Nat) (l : Line) : List Mark :=
  (if l.outOfOrder && m.outOfOrder then [⟨.outOfOrder, left, l.baseline⟩] else []) ++
    (if l.duplicate && m.duplicate then [⟨.duplicate, left, l.baseline⟩] else []) ++
    (if l.fit.overFlag && m.overLine then [⟨.overLine, left, l.baseline⟩] else [])

/-- R124: the mark records of one column; an unbound column holds no line. -/
def columnMarks (m : MarkSet) (c : Column) : List Mark :=
  match c.binding with
  | none => []
  | some b => c.lines.flatMap (lineMarks m b.left)

/-- R124: the margin-mark list of a sheet. -/
def Sheet.marksOf (sh : Sheet) : List Mark := sh.columns.flatMap (columnMarks sh.plan.marks)

/-- R121: the record of a sheet at its closing. -/
def Sheet.finish (sh : Sheet) : Sheet :=
  { sh with
    columns := sh.columns.map fun c => { c with closed := true }
    seqFault := sh.lines.any fun l => l.outOfOrder
    guides := sh.guidesOf
    marks := sh.marksOf }

/-- R121: an assembling slot passes to READY with its record finished. -/
def commitSlot (o : Occupied) : Occupied := if o.phase = .assembling then ⟨.ready, o.sheet.finish⟩ else o

/-- R121: the assembling sheet is closed and committed. -/
def State.closeSheet (s : State) (sh : Sheet) : State :=
  let s1 := (s.countFits sh.openLines).count .sheetsCommitted 1
  { s1 with ring := mapSlots commitSlot s1.ring, composer := { s1.composer with column := 1 } }

/-- R125: a flush closes the assembling sheet as it stands, if there is one. -/
def State.flush (s : State) : State :=
  match assemblingSheet s.ring with
  | none => s
  | some sh => s.closeSheet sh

/-- R120: the current column is closed and its lines counted. -/
def State.closeColumn (s : State) : State :=
  match s.currentColumn with
  | none => s
  | some c => (s.countFits c.lines).modColumn fun x => { x with closed := true }

/-- R120: after the last column of the plan the sheet is closed and committed; else the next column is current. -/
def State.afterColumn (s : State) : State :=
  match assemblingSheet s.ring with
  | none => s
  | some sh =>
    if s.composer.column = sh.plan.gang then s.closeSheet sh
    else { s with composer := { s.composer with column := s.composer.column + 1 } }

/-- R120: the work of a FORM END entry. -/
def State.closeForm (s : State) (f : FormEndMark) : State :=
  s.withSheet fun s1 => ((s1.bind f.form f.length f.pitch).closeColumn).afterColumn.removeHead

/-! ### Stream tables and the SYNC marker -/

/-- R126: the flush, the new plan, the column index and the next folio. -/
def State.applyPlan (s : State) (p : SheetPlan) : State :=
  let s1 := s.flush
  { s1 with composer := { s1.composer with plan := p, column := 1, nextFolio := p.folioStart } }

/-- R74: the collation is replaced and the held key cleared. -/
def State.applyCollation (s : State) (c : Collation) : State :=
  { s with keys := { s.keys with collation := c, heldKey := none } }

/-- R77: the field layout is replaced and the held key cleared. -/
def State.applyLayout (s : State) (l : FieldLayout) : State :=
  { s with keys := { s.keys with layout := l, heldKey := none } }

/-- R16, R67: the Line Port is told that a marker has been taken; a withheld SYNC enters its ring watch when no other
marker remains. -/
def State.markerTaken (s : State) : State :=
  match s.lp.port with
  | .syncWithheld .markerQueued clamped =>
    if s.syncPending then s else s.setPort (.syncWithheld .ringWatch clamped)
  | .syncWithheld .ringWatch _ => s
  | .idle => s
  | .waitingOrder _ _ => s
  | .waitingKind _ _ => s
  | .takingData _ => s
  | .responding _ _ => s
  | .replying _ => s

end Sys2Proof.Machine
end

