-- ==== Sys2Proof/Machine/Ring.lean ====
section
/-! DEFINITION. The Sheet Ring and the Sheet Dispatcher: roles, eligible and able engines, the held condition, release,
return and grant. -/

namespace Sys2Proof.Machine

/-- R140: the role: the arrangement in force lets the engine take sheets. -/
def State.takesSheets (s : State) (e : Engine) : Bool :=
  match s.settings.arrangement with
  | .singleA => e == .a
  | .singleB => e == .b
  | .standby => s.dispatcher.active == e
  | .tandem => true

/-- R160: the arrangement in force uses the link. -/
def State.uses (s : State) (e : Engine) : Bool := s.settings.arrangement.uses e

/-- R142: the engine has a sheet SENDING. -/
def State.hasSending (s : State) (e : Engine) : Bool :=
  s.ring.any fun o => match o with
    | some x => x.phase == .sending e
    | none => false

/-- R142: an engine is eligible. -/
def State.eligible (s : State) (e : Engine) : Bool :=
  (s.link e).state == .ready && !(s.link e).draining && s.takesSheets e && !s.hasSending e &&
    decide ((s.link e).inFlight.length < Config.inFlightLimit)

/-- R147: an engine is able. -/
def State.able (s : State) (e : Engine) : Bool :=
  (s.link e).state == .ready && (s.eligible e || !(s.link e).inFlight.isEmpty)

/-- R147: the part is held when neither engine is able. -/
def State.held (s : State) : Bool := !s.able .a && !s.able .b

/-! ### Release (R134, R135) -/

/-- The number is that of a sheet in flight on the engine (R141). -/
def State.holdsSeq (s : State) (e : Engine) (seq : Word16) : Bool :=
  (s.link e).inFlight.any fun i => i.seq == seq

/-- R134: the slot of a sheet in flight on the engine passes to FINISHED. -/
def finishSlot (e : Engine) (seq : Word16) (o : Occupied) : Occupied :=
  if o.sheet.seq = seq ∧ o.phase.inFlightOn e then { o with phase := .finished e } else o

/-- R186: the window ends MET: the short-window count and the degraded flag clear, and both counters reload. -/
def PaceMonitor.endMet (cfg : LinkSettings) (p : PaceMonitor) : PaceMonitor :=
  PaceMonitor.reload cfg { p with shortCount := 0, degraded := false }

/-- R186: the window ends SHORT: the count rises, holding at 7, and the degraded flag sets at the threshold. -/
def PaceMonitor.endShort (cfg : LinkSettings) (p : PaceMonitor) : PaceMonitor :=
  let n := min 7 (p.shortCount + 1)
  PaceMonitor.reload cfg
    { p with shortCount := n, degraded := p.degraded || decide (cfg.degradeThreshold ≤ n) }

/-- R185: a release counts once in S; past 255 the counter overflows. A window's end still due is taken first, so that
the second of two releases counts in the new window. -/
def PaceMonitor.countRelease (cfg : LinkSettings) (p : PaceMonitor) : PaceMonitor :=
  let q := if p.sOver then p.endMet cfg else p
  if q.s = 255 then { q with s := 0, sOver := true } else { q with s := q.s + 1 }

/-- R184: a counted tick counts once in T; past 65535 the counter overflows. -/
def PaceMonitor.countTick (p : PaceMonitor) : PaceMonitor :=
  if p.t = 65535 then { p with t := 0, tOver := true } else { p with t := p.t + 1 }

/-- R174: a released sheet leaves its link's in-flight list with its timers, a transfer still writing it ends with no
further frame, and the release counts in S. -/
def Link.release (cfg : LinkSettings) (seq : Word16) (l : Link) : Link :=
  { l with
    inFlight := l.inFlight.filter fun i => i.seq != seq
    writing := l.writing.filter fun t => t.seq != seq
    pace := l.pace.countRelease cfg }

/-- R134: the sheets-stacked counter of an engine. -/
def stackedCounter : Engine → Counter
  | .a => .stackedA
  | .b => .stackedB

/-- R134, R135: the release of one sheet in flight on an engine; its slot is FINISHED, and FREE at once when it is the
oldest of the ring, with the FINISHED sheets that then become oldest; a waiting composer opens its sheet there. -/
def State.release (s : State) (e : Engine) (seq : Word16) : State :=
  let s1 := (s.modLink e (Link.release s.settings seq)).count (stackedCounter e) 1
  let s2 : State := { s1 with
    ring := freeFinished s1.age Config.ringSlots (mapSlots (finishSlot e seq) s1.ring) }
  s2.wakeComposer

/-- R174: the numbers of the sheets that a STACKED or a JAM naming one of them releases: the in-flight list up to and
including it. -/
def coveredBy (l : List InFlight) (seq : Word16) : List Word16 :=
  ((l.map fun i => i.seq).takeWhile fun q => q != seq) ++ [seq]

/-- R174: the sheets covered are released, first sheet first. -/
def State.releaseThrough (s : State) (e : Engine) (seq : Word16) : State :=
  (coveredBy (s.link e).inFlight seq).foldl (fun t q => t.release e q) s

/-! ### Return (R136) -/

/-- R136: a sheet in flight on the engine passes to READY, and its reissue count rises, holding at 255. -/
def returnSlot (e : Engine) (o : Occupied) : Occupied :=
  if o.phase.inFlightOn e then
    ⟨.ready, { o.sheet with reissue := min 255 (o.sheet.reissue + 1) }⟩
  else o

/-- R136, R171: every sheet in flight on the engine returns; its list empties and a transfer being written ends. -/
def State.returnAll (s : State) (e : Engine) : State :=
  let s1 := s.modLink e fun l => { l with inFlight := [], writing := [] }
  { s1 with ring := mapSlots (returnSlot e) s1.ring }

/-! ### Grant (R143, R144) -/

/-- R133: the oldest READY sheet. -/
def State.oldestReady (s : State) : Option Sheet :=
  (oldestOf s.age (fun o => o.phase == .ready) s.ring).map fun o => o.sheet

/-- R144: the engine granted: the only eligible one, or, when both are, the one that is not degraded, or else the one
not granted last. -/
def State.chosenEngine (s : State) : Option Engine :=
  match s.eligible .a, s.eligible .b with
  | false, false => none
  | true, false => some .a
  | false, true => some .b
  | true, true =>
    match s.linkA.pace.degraded, s.linkB.pace.degraded with
    | false, true => some .a
    | true, false => some .b
    | false, false => some (otherEngine s.dispatcher.lastGranted)
    | true, true => some (otherEngine s.dispatcher.lastGranted)

/-- R143: the slot of the sheet granted passes from READY to SENDING. -/
def sendSlot (e : Engine) (seq : Word16) (o : Occupied) : Occupied :=
  if o.sheet.seq = seq ∧ o.phase = .ready then { o with phase := .sending e } else o

/-- R143, R167: the link of the engine granted: the sheet joins the end of the in-flight list and its transfer begins.
SHEET BEGIN is sent at once, unless an earlier sheet, TAKEN in its writing phase, is still being written. -/
def Link.beginTransfer (sh : Sheet) (l : Link) : Link :=
  let t := transferOf (l.mode.getD .plain) sh
  { l with
    inFlight := l.inFlight ++ [⟨sh.seq, none, none⟩]
    writing := l.writing ++ [t]
    lastSent := if l.writing.isEmpty then [t.opening] else l.lastSent }

/-- R137: the sheets-reissued counter counts the grant of a sheet with a reissue count of 1 or more. -/
def State.countReissue (s : State) (sh : Sheet) : State := if sh.reissue = 0 then s else s.count .reissued 1

/-- R143: the grant of a READY sheet to an engine. -/
def State.grantTo (s : State) (e : Engine) (sh : Sheet) : State :=
  let s1 := (s.countReissue sh).modLink e (Link.beginTransfer sh)
  { s1 with
    ring := mapSlots (sendSlot e sh.seq) s1.ring
    dispatcher := { s1.dispatcher with lastGranted := e } }

/-- R143: one grant, when a sheet is READY and an engine is eligible. -/
def State.grantOnce (s : State) : State :=
  match s.chosenEngine, s.oldestReady with
  | some e, some sh => s.grantTo e sh
  | some _, none => s
  | none, _ => s

/-! ### Failover (R181) -/

/-- R181: in STANDBY, when the active engine's link is not READY and the other's is, the other becomes active and
FAILOVER is posted. -/
def State.failover (s : State) : State :=
  let other := otherEngine s.dispatcher.active
  if s.settings.arrangement = .standby ∧ (s.link s.dispatcher.active).state ≠ .ready ∧ (s.link other).state = .ready then
    ({ s with dispatcher := { s.dispatcher with active := other } } : State).post .failover
  else s

end Sys2Proof.Machine
end

