-- ==== Sys2Proof/Machine/Links.lean ====
section
/-! DEFINITION. The Engine Links: entering each link state, what each engine frame and each timer does, and the
application of LINK SETTINGS. -/

namespace Sys2Proof.Machine

/-! ### Entering a state (R149, R152, R155 to R160, R177, R179) -/

/-- R149, R160: OFF: the agreement is cleared, the has-been-ready flag with it, and every timer stops. -/
def Link.enterOff (l : Link) : Link :=
  { l with
    state := .off, agreedSet := none, mode := none, plain := false, draining := false, hasBeenReady := false
    stopCause := none, timers := noTimers }

/-- R149, R159: BREAK: the agreement is cleared and the 800 ms run. -/
def Link.enterBreak (l : Link) : Link :=
  { l with
    state := .broken, agreedSet := none, mode := none, plain := false, draining := false, stopCause := none
    timers := { noTimers with breakEnd := some Config.breakMs } }

/-- R155: AGREEING: the acknowledgement window and the repetition start, and the link sends its OFFER with ack 1. -/
def Link.enterAgreeing (cfg : LinkSettings) (l : Link) : Link :=
  { l with
    state := .agreeing
    timers := { noTimers with offerRepeat := some Config.offerRepeatMs, ackWindow := some Config.ackWindowMs }
    lastSent := [.offer cfg.advertised true] }

/-- R157, R179, R183: READY: the has-been-ready flag sets, the Pace Monitor is reloaded, the stop cause ends, and of the
timers the silence timer runs on. -/
def Link.enterReady (cfg : LinkSettings) (l : Link) : Link :=
  { l with
    state := .ready, hasBeenReady := true, stopCause := none
    timers := { noTimers with silence := l.timers.silence }
    pace := l.pace.reload cfg }

/-- R156: SETTLING, or READY at once when the settle delay is 0. -/
def Link.enterSettling (cfg : LinkSettings) (l : Link) : Link :=
  let m : Link := { l with
    state := .settling
    timers := { noTimers with settle := some cfg.settleMs, silence := some Config.silenceMs } }
  if cfg.settleMs = 0 then m.enterReady cfg else m

/-- R177: STOPPED with its cause; the silence timer runs on (R157). -/
def Link.enterStopped (cause : StopCause) (l : Link) : Link :=
  { l with
    state := .stopped, stopCause := some cause
    timers := { noTimers with silence := l.timers.silence } }

/-- R157: every frame a link takes in while SETTLING, READY or STOPPED restarts its silence timer. -/
def Link.heard (l : Link) : Link :=
  match l.state with
  | .settling => { l with timers := { l.timers with silence := some Config.silenceMs } }
  | .ready => { l with timers := { l.timers with silence := some Config.silenceMs } }
  | .stopped => { l with timers := { l.timers with silence := some Config.silenceMs } }
  | .off => l
  | .offering => l
  | .agreeing => l
  | .broken => l

/-! ### Agreement (R151 to R158) -/

/-- R151: the mode of highest priority that both sets hold. -/
def resolveMode (advertised engineSet : ModeSet) : Option Mode :=
  let both := advertised &&& engineSet
  if both.getLsbD 0 then some .fine
  else if both.getLsbD 1 then some .standard
  else if both.getLsbD 2 then some .proof
  else if both.getLsbD 3 then some .plain
  else none

/-- R153: an engine OFFER counted against the kept engine set. -/
def Link.noteOffer (modes : ModeSet) (l : Link) : Link :=
  if l.keptSet = some modes then { l with offersSeen := true, offerCount := l.offerCount + 1 }
  else { l with offersSeen := true, keptSet := some modes, offerCount := 1 }

/-- R153, R154: a failed agreement: NEGOTIATION FAULT is posted and the link enters BREAK. -/
def State.negotiationFault (s : State) (e : Engine) : State :=
  (s.modLink e Link.enterBreak).post .negotiationFault

/-- R153: an engine OFFER in OFFERING; at a count of 3 the link resolves its mode. -/
def State.countOffer (s : State) (e : Engine) (modes : ModeSet) : State :=
  let l := (s.link e).noteOffer modes
  if l.offerCount < 3 then s.setLink e l
  else
    match resolveMode s.settings.advertised modes with
    | some m =>
      s.setLink e (({ l with agreedSet := some modes, mode := some m } : Link).enterAgreeing s.settings)
    | none => (s.setLink e l).negotiationFault e

/-- R152, R155, R156, R158: OFFERING restarts, and the engine's OFFER that caused it is counted as the first of three. -/
def State.restartOffering (s : State) (e : Engine) (modes : ModeSet) : State :=
  s.modLink e fun l => (l.enterOffering s.settings).noteOffer modes

/-- R155: the link sends its OFFER with ack 1 once more and enters SETTLING. -/
def State.acknowledged (s : State) (e : Engine) : State :=
  s.modLink e fun l =>
    ({ l with lastSent := [.offer s.settings.advertised true] } : Link).enterSettling s.settings

/-- R160, R164: a link that holds no sheet in flight goes OFF when the arrangement does not use it, enters OFFERING when
its drain ends here, and otherwise goes where `target` says. -/
def State.leaveWork (s : State) (e : Engine) (target : Link → Link) : State :=
  if !s.uses e then s.modLink e Link.enterOff
  else if (s.link e).draining then s.modLink e (Link.enterOffering s.settings)
  else s.modLink e target

/-- R160, R164: after a release: a link left with no sheet in flight goes OFF when it is not used, and enters OFFERING
when it is draining. -/
def State.afterRelease (s : State) (e : Engine) : State :=
  if (s.link e).inFlight.isEmpty then s.leaveWork e id else s

/-- R150, R153, R155, R156, R158: an engine's OFFER frame. -/
def State.offerFrame (s : State) (e : Engine) (modes : ModeSet) (ack : Bool) : State :=
  let l := s.link e
  match l.state with
  | .off => s
  | .offering => s.countOffer e modes
  | .agreeing =>
    if l.agreedSet = some modes then if ack then s.acknowledged e else s
    else s.restartOffering e modes
  | .settling =>
    if l.agreedSet = some modes ∧ ack then s.modLink e Link.heard else s.restartOffering e modes
  | .ready =>
    let s1 := s.returnAll e
    if s1.uses e then s1.restartOffering e modes else s1.modLink e Link.enterOff
  | .stopped =>
    let s1 := s.returnAll e
    if s1.uses e then s1.restartOffering e modes else s1.modLink e Link.enterOff
  | .broken => s

/-- R150, R154, R157: an engine's IDLE frame. -/
def State.idleFrame (s : State) (e : Engine) : State :=
  match (s.link e).state with
  | .offering => s.modLink e fun l => { l with idleSeen := true }
  | .settling => s.modLink e Link.heard
  | .ready => s.modLink e Link.heard
  | .stopped => s.modLink e Link.heard
  | .off => s
  | .agreeing => s
  | .broken => s

/-! ### TAKEN and STACKED (R172, R174, R176) -/

/-- R172: the slot of the sheet SENDING on the engine passes to SENT. -/
def takeSlot (e : Engine) (seq : Word16) (o : Occupied) : Occupied :=
  if o.sheet.seq = seq ∧ o.phase = .sending e then { o with phase := .sent e } else o

/-- R172: the sheet of this number is SENDING on the engine. -/
def State.isSending (s : State) (e : Engine) (seq : Word16) : Bool :=
  s.ring.any fun o => match o with
    | some x => x.sheet.seq == seq && x.phase == .sending e
    | none => false

/-- R172, R175: the TAKEN timer of a sheet stops and its STACKED timer starts. -/
def startStacked (ms : Nat) (seq : Word16) (i : InFlight) : InFlight :=
  if i.seq = seq then ⟨i.seq, none, some ms⟩ else i

/-- R173: the TAKEN timer of a sheet starts. -/
def startTaken (ms : Nat) (seq : Word16) (i : InFlight) : InFlight :=
  if i.seq = seq then { i with takenTimer := some ms } else i

/-- R172: the sheet SENDING on the engine passes to SENT. -/
def State.sheetTaken (s : State) (e : Engine) (seq : Word16) : State :=
  let s1 := s.modLink e fun l =>
    { l with inFlight := l.inFlight.map (startStacked s.settings.stackedMs seq) }
  { s1 with ring := mapSlots (takeSlot e seq) s1.ring }

/-- R172, R176: an engine's TAKEN frame: the sheet SENDING, a repeat for a sheet SENT, or a stray. -/
def State.takenFrame (s : State) (e : Engine) (seq : Word16) : State :=
  if (s.link e).state = .off then s
  else
    let s1 := s.modLink e Link.heard
    if s1.holdsSeq e seq then if s1.isSending e seq then s1.sheetTaken e seq else s1
    else s1.count .strays 1

/-- R143, R167, R171: the link sends the SHEET BEGIN of the transfer it now writes, when that is another one than it
wrote before. -/
def Link.beginNext (before : List Transfer) (l : Link) : Link :=
  match l.writing with
  | [] => l
  | t :: _ => if before.head?.map (fun b => b.seq) = some t.seq then l else { l with lastSent := [t.opening] }

/-- R174, R176: an engine's STACKED frame: the release of the sheet named and of every sheet before it, or a stray. When
the releases end the transfer being written, a transfer that waited behind it begins. -/
def State.stackedFrame (s : State) (e : Engine) (seq : Word16) : State :=
  if (s.link e).state = .off then s
  else
    let s1 := s.modLink e Link.heard
    if s1.holdsSeq e seq then
      ((s1.releaseThrough e seq).modLink e (Link.beginNext (s.link e).writing)).afterRelease e
    else s1.count .strays 1

/-! ### STOP, JAM, READY (R177 to R179) -/

/-- R177: an engine's STOP frame. -/
def State.stopFrame (s : State) (e : Engine) (cause : StopCause) : State :=
  let s1 := s.modLink e Link.heard
  match (s.link e).state with
  | .ready => (s1.returnAll e).leaveWork e (Link.enterStopped cause)
  | .settling => s1.modLink e (Link.enterStopped cause)
  | .stopped => s1.modLink e fun l => { l with stopCause := some cause }
  | .off => s
  | .offering => s
  | .agreeing => s
  | .broken => s

/-- R178: the sheets the JAM's number covers are released; a number that names no sheet in flight covers none. -/
def State.releaseCovered (s : State) (e : Engine) (last : Option Word16) : State :=
  match last with
  | none => s
  | some seq => if s.holdsSeq e seq then s.releaseThrough e seq else s

/-- R178: an engine's JAM frame. -/
def State.jamFrame (s : State) (e : Engine) (last : Option Word16) : State :=
  let s1 := s.modLink e Link.heard
  match (s.link e).state with
  | .ready => ((s1.releaseCovered e last).returnAll e).leaveWork e (Link.enterStopped .jam)
  | .settling => s1.modLink e (Link.enterStopped .jam)
  | .stopped => s1.modLink e fun l => { l with stopCause := some .jam }
  | .off => s
  | .offering => s
  | .agreeing => s
  | .broken => s

/-- R156, R179: an engine's READY frame. -/
def State.readyFrame (s : State) (e : Engine) : State :=
  match (s.link e).state with
  | .stopped => (s.modLink e fun l => l.heard.enterReady s.settings).post .engineRestored
  | .settling => s.modLink e Link.heard
  | .ready => s.modLink e Link.heard
  | .off => s
  | .offering => s
  | .agreeing => s
  | .broken => s

/-! ### Timers (R152 to R159, R173, R175, R184) -/

/-- R152, R155: the 50 ms repetition of the OFFER. -/
def State.repeatOffer (s : State) (e : Engine) : State :=
  match (s.link e).state with
  | .offering => s.modLink e fun l => { l with lastSent := [.offer s.settings.advertised false] }
  | .agreeing => s.modLink e fun l => { l with lastSent := [.offer s.settings.advertised true] }
  | .off => s
  | .settling => s
  | .ready => s
  | .stopped => s
  | .broken => s

/-- R154: plain detection: M4 PLAIN with no acknowledgement phase, or a fault when M4 is not advertised. -/
def State.plainDetection (s : State) (e : Engine) : State :=
  if s.settings.advertised.getLsbD 3 then
    s.modLink e fun l =>
      ({ l with mode := some .plain, plain := true, agreedSet := none } : Link).enterSettling s.settings
  else s.negotiationFault e

/-- R154: the offer window expires. -/
def State.offerWindowEnds (s : State) (e : Engine) : State :=
  let l := s.link e
  if l.state = .offering then
    if l.offersSeen then s.negotiationFault e
    else if l.idleSeen then s.plainDetection e
    else s.setLink e { l with
      offersSeen := false, idleSeen := false
      timers := { l.timers with offerWindow := some Config.offerWindowMs } }
  else s

/-- R155: the acknowledgement window expires: BREAK, with no notice. -/
def State.ackWindowEnds (s : State) (e : Engine) : State :=
  if (s.link e).state = .agreeing then s.modLink e Link.enterBreak else s

/-- R156: the settle timer expires. -/
def State.settleEnds (s : State) (e : Engine) : State :=
  if (s.link e).state = .settling then s.modLink e (Link.enterReady s.settings) else s

/-- R157, R160: the silence timer expires: every sheet in flight returns, and the link enters BREAK, or OFF when the
arrangement does not use it. -/
def State.linkLost (s : State) (e : Engine) : State :=
  if (s.link e).timers.silence.isSome then
    let s1 := s.returnAll e
    if s1.uses e then s1.modLink e Link.enterBreak else s1.modLink e Link.enterOff
  else s

/-- R159: the BREAK ends. -/
def State.breakEnds (s : State) (e : Engine) : State :=
  if (s.link e).state = .broken then s.modLink e (Link.enterOffering s.settings) else s

/-- R173, R175: a timeout: every sheet in flight returns and the link stops with the cause TIMEOUT. -/
def State.timedOut (s : State) (e : Engine) : State :=
  (s.returnAll e).leaveWork e (Link.enterStopped .timeout)

/-- R173: the TAKEN timer of the link runs for a sheet still SENDING. -/
def State.takenTimerRuns (s : State) (e : Engine) : Bool :=
  (s.link e).inFlight.any fun i => i.takenTimer.isSome && s.isSending e i.seq

/-- R175: the STACKED timer of the sheet of this number runs. -/
def State.stackedTimerRuns (s : State) (e : Engine) (seq : Word16) : Bool :=
  (s.link e).inFlight.any fun i => i.seq == seq && i.stackedTimer.isSome

/-- R167, R171, R173: the SHEET END of the transfer being written is sent, with the frames before it, and the sheet's
TAKEN timer starts when it is still SENDING. A transfer that waited behind it sends its SHEET BEGIN then. -/
def State.sendSheetEnd (s : State) (e : Engine) : State :=
  match (s.link e).writing with
  | [] => s
  | t :: more =>
    let sending := s.isSending e t.seq
    s.modLink e fun l =>
      { l with
        writing := more
        lastSent := t.rest ++ (more.head?.map fun n => n.opening).toList
        inFlight := if sending then l.inFlight.map (startTaken s.settings.takenMs t.seq) else l.inFlight }

/-- R184: a tick at one link. -/
def Link.tick (l : Link) : Link :=
  if l.state = .ready ∧ l.inFlight ≠ [] then { l with pace := l.pace.countTick } else l

/-! ### LINK SETTINGS (R163, R164) -/

/-- R160, R163: a link follows a change of arrangement. -/
def State.followArrangement (s : State) (e : Engine) : State :=
  if s.uses e then
    if (s.link e).state = .off then s.modLink e (Link.enterOffering s.settings) else s
  else if (s.link e).inFlight.isEmpty then s.modLink e Link.enterOff
  else s

/-- R163, R164: a link follows a change of the advertised set. -/
def State.followAdvertised (s : State) (e : Engine) : State :=
  match (s.link e).state with
  | .off => s
  | .broken => s
  | .offering => s.modLink e (Link.enterOffering s.settings)
  | .agreeing => s.modLink e (Link.enterOffering s.settings)
  | .settling => s.modLink e (Link.enterOffering s.settings)
  | .stopped => s.modLink e (Link.enterOffering s.settings)
  | .ready =>
    if (s.link e).inFlight.isEmpty then s.modLink e (Link.enterOffering s.settings)
    else s.modLink e fun l => { l with draining := true }

/-- R163: a link that this record stops using is not drained. -/
def State.followAdvertisedIf (s : State) (before : LinkSettings) (e : Engine) : State :=
  if before.arrangement.uses e && !s.uses e then s else s.followAdvertised e

/-- R163: the arrangement is acted on before the advertised set; an unchanged field has no further effect. DESIGN CHOICE
(notes/assumptions/14.md): for one record that changes both, R145 and R163 leave open whether a grant that the new
arrangement allows comes before the set is acted on; here it does not. Both changes are acted on, and the grants due are made
after them, so a READY link that holds no sheet enters OFFERING. -/
def State.applySettings (s : State) (c : LinkSettings) : State :=
  let old := s.settings
  let s1 : State := { s with settings := c }
  let s2 :=
    if c.arrangement = old.arrangement then s1
    else ((s1.followArrangement .a).followArrangement .b).failover
  if c.advertised = old.advertised then s2
  else ((s2.followAdvertisedIf old .a).followAdvertisedIf old .b).failover

end Sys2Proof.Machine
end

