-- ==== Sys2Proof/Machine/Due.lean ====
section
/-! DEFINITION. The due steps: the rows of the table that the spec has the part take at once when their condition comes
to hold (OWED_FORM_END, WINDOW_SHORT, WINDOW_MET, GRANT, SYNC_DONE, ENGINE_STOPPED, ORDER_ACCEPT). Each is a command of
its own; and every other command first takes all that are due, so that nothing meets the part between an event and what
the spec says follows it at once (DESIGN CHOICE, notes/assumptions/3.md). Here too: the soft reset of every block. -/

namespace Sys2Proof.Machine

/-! ### One due step each -/

/-- R38, R61: the owed marker takes a free place at the tail. -/
def State.takeOwed (s : State) : State :=
  match s.forms.owed with
  | none => s
  | some m =>
    if 0 < s.freeEntries then { s with queue := s.queue ++ [.formEnd m], forms := { s.forms with owed := none } }
    else s

/-- R186: T has overflowed: the window ends SHORT, and DEGRADED follows the flag. -/
def State.windowShort (s : State) (e : Engine) : State :=
  if (s.link e).pace.tOver then
    s.settleNotices (s.modLink e fun l => { l with pace := l.pace.endShort s.settings })
  else s

/-- R186: S has overflowed: the window ends MET, and DEGRADED follows the flag. -/
def State.windowMet (s : State) (e : Engine) : State :=
  if (s.link e).pace.sOver then
    s.settleNotices (s.modLink e fun l => { l with pace := l.pace.endMet s.settings })
  else s

/-- R16: in the ring watch, the ring is empty and the withheld SYNC is answered DONE. -/
def State.syncCompletes (s : State) : State :=
  match s.lp.port with
  | .syncWithheld .ringWatch clamped => if sheetsIn s.ring = 0 then s.present .done false clamped else s
  | .syncWithheld .markerQueued _ => s
  | .idle => s
  | .waitingOrder _ _ => s
  | .waitingKind _ _ => s
  | .takingData _ => s
  | .responding _ _ => s
  | .replying _ => s

/-- The hand that a refused SYNC is judged by: its order byte and its clamped flag. -/
def syncHand (clamped : Bool) : Hand := ⟨83, some .sync, [], 0, none, clamped⟩

/-- R17: while a SYNC is withheld, the ring holds sheets and no engine is able: CHECK, ENGINE STOPPED. -/
def State.syncFails (s : State) : State :=
  match s.lp.port with
  | .syncWithheld _ clamped =>
    if sheetsIn s.ring ≠ 0 ∧ s.held then s.refuse (syncHand clamped) .engineStopped none (sheetsIn s.ring) else s
  | .idle => s
  | .waitingOrder _ _ => s
  | .waitingKind _ _ => s
  | .takingData _ => s
  | .responding _ _ => s
  | .replying _ => s

/-- R4, R6, R7, R61: a waiting order byte is accepted once room and fence allow it, and a waiting kind byte once an entry
frees. -/
def State.acceptWaiting (s : State) : State :=
  match s.lp.port with
  | .waitingOrder b k => if s.accepts k then s.setPortAccept (.takingData (newHand b (some k) none)) true else s
  | .waitingKind h b => if 0 < s.freeEntries then s.setPortAccept (.takingData (h.take b (oddParity b))) true else s
  | .idle => s
  | .takingData _ => s
  | .responding _ _ => s
  | .replying _ => s
  | .syncWithheld _ _ => s

/-! ### All that is due -/

/-- The window ends that are due on both links; they come before a grant, which reads the degraded flags (R144). -/
def State.windowsDue (s : State) : State :=
  (((s.windowShort .a).windowShort .b).windowMet .a).windowMet .b

/-- The grants that are due: at most one to each engine (R143). -/
def State.grantsDue (s : State) : State := s.grantOnce.grantOnce

/-- Every due step, in an order in which none makes an earlier one due again. -/
def State.takeDue (s : State) : State :=
  (((s.takeOwed.windowsDue).grantsDue).syncCompletes).syncFails.acceptWaiting

/-! ### Soft reset (R20, R40, R69, R86, R129, R138, R139, R165, R188, R207) -/

/-- R165, R188: a link at a soft reset: BREAK when the arrangement uses it, else OFF, with nothing in flight, every
timer but the BREAK stopped and its Pace Monitor reloaded. -/
def softResetLink (cfg : LinkSettings) (e : Engine) (l : Link) : Link :=
  let m : Link := { linkAtStart cfg with lastSent := l.lastSent }
  if cfg.arrangement.uses e then m.enterBreak else m

/-- R207: the soft reset empties the pending set; then the conditions that rise at the reset pend. -/
def State.softResetNotices (before after : State) : State :=
  before.settleNotices { after with notices := after.notices.setPending 0 }

/-- The soft reset of every block behind the Line Port, of the queue and of the clear fence. -/
def State.softResetBlocks (s : State) : State :=
  s.softResetNotices { s with
    lp := { s.lp with fenceArmed := false }
    forms := formsAtStart s.forms.table
    queue := []
    keys := s.keys.clearHeld
    composer := composerAtStart s.composer.plan
    ring := emptyRing
    dispatcher := dispatcherAtStart
    linkA := softResetLink s.settings .a s.linkA
    linkB := softResetLink s.settings .b s.linkB }

end Sys2Proof.Machine
end

