-- ==== Sys2Proof/Machine/PortSignals.lean ====
section
/-! DEFINITION. The meanings of the host's signals on the Line Port: ORDER_BYTE, ORDER_ACCEPT, DATA_BYTE, REPLY_TAKEN,
CLEAR, LINE_RESET and HARDWARE_RESET. -/

namespace Sys2Proof.Machine

/-- What a step answers. -/
abbrev StepOutcome := Host.Outcome State Fault Refusal

/-- A command whose effect changes no notice condition: all that is due is taken first. -/
def State.run (s : State) (f : State → State) : StepOutcome := .next (f s.takeDue)

/-- A command whose effect may change a notice condition: all that is due is taken first, and the rises and falls
between the state before the effect and the state after it are settled (R202, R203). -/
def State.runNoticed (s : State) (f : State → State) : StepOutcome :=
  .next (s.takeDue.settleNotices (f s.takeDue))

/-- R3 to R5: an order byte for this unit taken up in IDLE: a byte with a parity error or naming no order is accepted at
once; a PRINT or MOVE is answered NOT READY when the part is held and fewer than 2 entries are free; an order is
accepted when room and fence allow, and otherwise waits. -/
def State.takeOrderByte (s : State) (data : Byte) (parity : Bool) : State :=
  if !parityGood data parity then s.setPortAccept (.takingData (newHand data none (some (0, data)))) true
  else
    match orderNamed data with
    | none => s.setPortAccept (.takingData (newHand data none none)) true
    | some k =>
      if (k = .print ∨ k = .move) ∧ s.held ∧ s.freeEntries < 2 then
        ({ s with lp := { s.lp with accept := false } } : State).present .notReady false false
      else if s.accepts k then s.setPortAccept (.takingData (newHand data (some k) none)) true
      else s.setPortAccept (.waitingOrder data k) false

/-- R1, R3: an order byte strobed: ignored without SELECT, for another unit, or in any state but IDLE (in WAITING its
arrival again changes nothing). -/
def State.orderByteStrobed (s : State) (select : Bool) (unit : BitVec 4) (data : Byte) (parity : Bool) : State :=
  if select && unit == s.lp.unit then
    match s.lp.port with
    | .idle => s.takeOrderByte data parity
    | .waitingOrder _ _ => s
    | .waitingKind _ _ => s
    | .takingData _ => s
    | .responding _ _ => s
    | .replying _ => s
    | .syncWithheld _ _ => s
  else s

/-- ORDER_BYTE (R3). -/
def execOrderByte (select : Bool) (unit : BitVec 4) (data : Byte) (parity : Bool) (s : State) : StepOutcome :=
  s.run fun q => q.orderByteStrobed select unit data parity

/-- ORDER_ACCEPT (R4), a due step. An owed form end takes its place first (R61). -/
def execOrderAccept (s : State) : StepOutcome := .next s.takeOwed.acceptWaiting

/-- R1, R6, R8: a data byte strobed: taken in TAKING DATA, or held as the kind byte of a stream table that finds no free
entry; ignored in every other state (in WAITING the held kind byte's arrival again changes nothing). -/
def State.dataByteStrobed (s : State) (data : Byte) (parity : Bool) : State :=
  match s.lp.port with
  | .takingData h =>
    if s.holdsKind h data parity then s.setPortAccept (.waitingKind h data) false
    else s.setPortAccept (.takingData (h.take data parity)) true
  | .idle => s
  | .waitingOrder _ _ => s
  | .waitingKind _ _ => s
  | .responding _ _ => s
  | .replying _ => s
  | .syncWithheld _ _ => s

/-- DATA_BYTE (R8). -/
def execDataByte (data : Byte) (parity : Bool) (s : State) : StepOutcome :=
  s.run fun q => q.dataByteStrobed data parity

/-- R1, R12, R13: REPLY TAKEN: the next response byte, the DONE reply after the last one, or IDLE after the reply. -/
def State.replyTakenSignal (s : State) : State :=
  match s.lp.port with
  | .responding (_ :: b :: more) clamped => s.setPort (.responding (b :: more) clamped)
  | .responding [_] clamped => s.present .done false clamped
  | .responding [] clamped => s.present .done false clamped
  | .replying _ => s.setPort .idle
  | .idle => s
  | .waitingOrder _ _ => s
  | .waitingKind _ _ => s
  | .takingData _ => s
  | .syncWithheld _ _ => s

/-- REPLY_TAKEN (R13). -/
def execReplyTaken (s : State) : StepOutcome := s.run State.replyTakenSignal

/-- R7, R19: the port clear: the transfer in hand is discarded or withdrawn, the port is IDLE, the fence is armed. -/
def State.portClear (s : State) : State :=
  { s with lp := { s.lp with port := .idle, accept := false, fenceArmed := true } }

/-- CLEAR (R19). -/
def execClear (s : State) : StepOutcome := s.run State.portClear

/-- R20: the soft reset as LINE RESET brings it: every block, and the port IDLE with any reply withdrawn. -/
def State.lineResetSignal (s : State) : State := s.softResetBlocks.setPortAccept .idle false

/-- LINE_RESET (R20). -/
def execLineReset (s : State) : StepOutcome := s.run State.lineResetSignal

/-- HARDWARE_RESET (R21): everything but the commands that wait takes its value of hardware reset under the straps. -/
def execHardwareReset (straps : Straps) (s : State) : StepOutcome :=
  .next { State.atReset straps with pending := s.pending }

end Sys2Proof.Machine
end

