-- ==== Sys2Proof/Machine/Orders.lean ====
section
/-! DEFINITION. The meanings of END for PRINT, MOVE, SYNC and unknown orders, and of the two answers to a SYNC. -/

namespace Sys2Proof.Machine

/-- UNKNOWN_ORDER (R9): END for an order byte with a parity error or naming no order. -/
def execUnknownOrder (s : State) : StepOutcome :=
  s.run fun q => q.atEnd (fun h => h.kind == none) fun h t => t.judge h id

/-- R10, R28: the motion tests: the motion, or the check kind, position and detail that refuse the order. -/
def motionOrFault (t : FormsTable) (kept : List Byte) : Except (CheckKind × Option Nat × Nat) Motion :=
  match kept with
  | [] => .error (.motion, none, 0)
  | b :: _ =>
    match motionOf b with
    | none => .error (.motion, some 1, b.toNat)
    | some m =>
      match m.action with
      | .space _ => .ok m
      | .skip c => if t.hasChannel c then .ok m else .error (.noStop, some 1, c)

/-- R30 to R33, R47, R52: the work of a PRINT that passed its tests. -/
def State.printText (s : State) (h : Hand) (m : Motion) (text : List Byte) : State :=
  let run := s.forms.print m (s.map.translate text) h.clamped
  let s1 := s.count .unprintable (s.map.replaced text)
  let s2 := ({ s1 with forms := run.1 } : State).enqueue run.2
  (s2.count .linesAccepted 1).done h (s.forms.formsEnd m.action)

/-- R10: the tests of a PRINT in order, and its work. -/
def State.endPrint (s : State) (h : Hand) : State :=
  match motionOrFault s.forms.table h.kept with
  | .error e => s.refuse h e.1 e.2.1 e.2.2
  | .ok m =>
    match s.map.firstRefused h.kept.tail with
    | some r => s.refuse h .data (some (r.1 + 1)) r.2.toNat
    | none => s.printText h m h.kept.tail

/-- PRINT (R10). -/
def execPrint (s : State) : StepOutcome :=
  s.run fun q => q.atEnd (fun h => h.kind == some .print) fun h t => t.judge h fun u => u.endPrint h

/-- R10: the tests of a MOVE in order, and its motion. -/
def State.endMove (s : State) (h : Hand) : State :=
  match motionOrFault s.forms.table h.kept with
  | .error e => s.refuse h e.1 e.2.1 e.2.2
  | .ok m =>
    let run := s.forms.move m.action
    (({ s with forms := run.1 } : State).enqueue (run.2.map .formEnd)).done h (s.forms.formsEnd m.action)

/-- MOVE (R10). -/
def execMove (s : State) : StepOutcome :=
  s.run fun q => q.atEnd (fun h => h.kind == some .move) fun h t => t.judge h fun u => u.endMove h

/-- R16: a marker is queued and the reply withheld. -/
def State.endSync (s : State) (h : Hand) : State :=
  (s.enqueue [.sync]).setPort (.syncWithheld .markerQueued h.clamped)

/-- SYNC (R16). -/
def execSync (s : State) : StepOutcome :=
  s.run fun q => q.atEnd (fun h => h.kind == some .sync) fun h t => t.judge h fun u => u.endSync h

/-- SYNC_DONE (R16), a due step. -/
def execSyncDone (s : State) : StepOutcome := .next s.syncCompletes

/-- ENGINE_STOPPED (R17), a due step. -/
def execEngineStopped (s : State) : StepOutcome := .next s.syncFails

end Sys2Proof.Machine
end

