-- ==== Sys2Proof/Machine/TableRecords.lean ====
section
/-! DEFINITION. The meanings of END for the twelve kinds of table record and for a record of no kind. -/

namespace Sys2Proof.Machine

/-- The order in hand is a TABLE whose kind byte is `kind`. -/
def Hand.isTable (kind : Nat) (h : Hand) : Bool :=
  h.kind == some .table && (h.kept.head?.map fun b => b.toNat) == some kind

/-- R190: a record judged by its framing and then by its owner's range tests, and carried out when it passes. -/
def State.endTable (s : State) (h : Hand) (fault : List Byte → Option (Nat × Nat)) (carry : List Byte → State → State) :
    State :=
  match framingFault h.kept with
  | some f => s.refuse h .tableFormat f.1 f.2
  | none =>
    match fault (h.kept.drop 3) with
    | some f => s.refuse h .tableRange (some f.1) f.2
    | none => carry (h.kept.drop 3) s

/-- A kind with no range test. -/
def noFault (_ : List Byte) : Option (Nat × Nat) := none

/-- END of a record of one kind, from the PARITY test on. -/
def State.tableRow (s : State) (kind : Nat) (fault : List Byte → Option (Nat × Nat))
    (carry : Hand → List Byte → State → State) : State :=
  s.atEnd (Hand.isTable kind) fun h t => t.judge h fun u => u.endTable h fault (carry h)

/-- R190: a front table takes effect on every block it reaches before its DONE reply is presented, so that the reply's
NOTICE flag reflects it. -/
def applyFront (apply : List Byte → State → State) (h : Hand) (body : List Byte) (s : State) : State :=
  (s.settleNotices (apply body s)).done h false

/-- R7, R11, R65: a stream table joins the tail; an armed fence makes it the fenced entry and is disarmed. -/
def queueStream (read : List Byte → StreamTable) (h : Hand) (body : List Byte) (s : State) : State :=
  let s1 := s.enqueue [.streamTable (read body) s.lp.fenceArmed]
  ({ s1 with lp := { s1.lp with fenceArmed := false } } : State).done h false

/-- TABLE_CHARACTER_MAP (R44): the whole map is replaced. -/
def execTableCharacterMap (s : State) : StepOutcome :=
  s.run fun q => q.tableRow 1 charMapFault (applyFront fun body t => { t with map := charMapOf body })

/-- R37, R38: a forms load; the marker of a touched form is queued in a free entry, or owed. -/
def State.loadForms (s : State) (t : FormsTable) : State :=
  let run := s.forms.load t
  match run.2 with
  | none => { s with forms := run.1 }
  | some m =>
    if 0 < s.freeEntries then ({ s with forms := run.1 } : State).enqueue [.formEnd m]
    else { s with forms := { run.1 with owed := some m } }

/-- TABLE_FORMS (R37). -/
def execTableForms (s : State) : StepOutcome :=
  s.run fun q => q.tableRow 2 formsFault (applyFront fun body t => t.loadForms (formsOf body))

/-- TABLE_COLLATION (R73). -/
def execTableCollation (s : State) : StepOutcome :=
  s.run fun q => q.tableRow 3 collationFault (queueStream fun body => .collation (collationOf body))

/-- TABLE_FIELD_LAYOUT (R76). -/
def execTableFieldLayout (s : State) : StepOutcome :=
  s.run fun q => q.tableRow 4 layoutFault (queueStream fun body => .fieldLayout (layoutOf body))

/-- TABLE_KEY_RESET (R87). -/
def execTableKeyReset (s : State) : StepOutcome :=
  s.run fun q => q.tableRow 5 noFault (queueStream fun _ => .keyReset)

/-- TABLE_SHEET_PLAN (R90). -/
def execTableSheetPlan (s : State) : StepOutcome :=
  s.run fun q => q.tableRow 6 planFault (queueStream fun body => .sheetPlan (planOf body))

/-- TABLE_LINK_SETTINGS (R163). -/
def execTableLinkSettings (s : State) : StepOutcome :=
  s.run fun q => q.tableRow 7 settingsFault (applyFront fun body t => t.applySettings (settingsOf body))

/-- R205: the new mask and mode; when the mode passes from CONFIRMED to LATCHED, each pending condition source whose
condition is false clears. -/
def State.applyNoticeControl (s : State) (mask : NoticeSet) (confirmed : Bool) : State :=
  let kept :=
    if s.notices.confirmed && !confirmed then s.notices.pending &&& ~~~(conditionSources &&& ~~~s.conditions)
    else s.notices.pending
  { s with notices := s.notices.driveCall { s.notices with mask := mask, confirmed := confirmed, pending := kept } }

/-- TABLE_NOTICE_CONTROL (R205). -/
def execTableNoticeControl (s : State) : StepOutcome :=
  s.run fun q => q.tableRow 8 noticeControlFault
    (applyFront fun body t => t.applyNoticeControl (BitVec.ofNat 10 (wordAt body 0)) (byteAt body 2 == 1))

/-- R204: the sources named clear, but for a condition source whose condition is true. -/
def State.applyNoticeClear (s : State) (named : NoticeSet) : State :=
  { s with notices := s.notices.setPending (s.notices.pending &&& ~~~(named &&& ~~~s.conditions)) }

/-- TABLE_NOTICE_CLEAR (R204). -/
def execTableNoticeClear (s : State) : StepOutcome :=
  s.run fun q => q.tableRow 9 noticeClearFault
    (applyFront fun body t => t.applyNoticeClear (BitVec.ofNat 10 (wordAt body 0)))

/-- TABLE_UNIT (R2). -/
def execTableUnit (s : State) : StepOutcome :=
  s.run fun q => q.tableRow 10 unitFault
    (applyFront fun body t => { t with lp := { t.lp with unit := BitVec.ofNat 4 (byteAt body 0) } })

/-- TABLE_COUNTER_CLEAR (R191). -/
def execTableCounterClear (s : State) : StepOutcome :=
  s.run fun q => q.tableRow 11 noFault
    (applyFront fun body t => { t with counters := clearNamed (wordAt body 0) t.counters })

/-- R20, R192: the DONE reply is presented, with the NOTICE flag of the moment before, and the soft reset follows; the
presented reply stays on the lines. -/
def State.resetRecord (s : State) (h : Hand) : State := (s.done h false).softResetBlocks

/-- TABLE_RESET (R192). -/
def execTableReset (s : State) : StepOutcome :=
  s.run fun q => q.tableRow 12 noFault fun h _ t => t.resetRecord h

/-- R11: a TABLE with fewer than 3 data bytes, or whose kind byte names no kind. -/
def Hand.unknownTable (h : Hand) : Bool :=
  h.kind == some .table &&
    match h.kept with
    | k :: _ :: _ :: _ => !kindNamed k
    | _ => true

/-- TABLE_KIND_UNKNOWN (R11). -/
def execTableKindUnknown (s : State) : StepOutcome :=
  s.run fun q => q.atEnd Hand.unknownTable fun h t => t.judge h fun u => u.endTable h noFault fun _ v => v

end Sys2Proof.Machine
end

