-- ==== Sys2Proof/Machine/QueryOrders.lean ====
section
/-! DEFINITION. The meanings of END for the seven selectors of QUERY and for a selector that names nothing. -/

namespace Sys2Proof.Machine

/-- R193: a QUERY TABLE second byte that names a kind: 1 to 8, or 10. -/
def tableSelectorGood (k : Byte) : Bool := (decide (1 ≤ k.toNat) && decide (k.toNat ≤ 8)) || k.toNat == 10

/-- R12, R193: the byte position and detail that refuse a selector, or none when it names something. -/
def selectorFault : List Byte → Option (Option Nat × Nat)
  | [] => some (none, 0)
  | b :: rest =>
    match b.toNat with
    | 1 => none
    | 2 => none
    | 3 => none
    | 4 => none
    | 5 =>
      match rest with
      | [] => some (some 2, 0)
      | k :: _ => if tableSelectorGood k then none else some (some 2, k.toNat)
    | 6 =>
      match rest with
      | [] => some (some 2, 0)
      | k :: _ => if k.toNat ≤ 1 then none else some (some 2, k.toNat)
    | 7 => none
    | _ => some (some 1, b.toNat)

/-- The order in hand is a QUERY whose first selector byte is `sel`. -/
def Hand.isQuery (sel : Nat) (h : Hand) : Bool :=
  h.kind == some .query && (h.kept.head?.map fun b => b.toNat) == some sel

/-- R12: the snapshot is taken and its bytes are presented one at a time. -/
def State.respond (s : State) (h : Hand) (bytes : List Byte) : State := s.setPort (.responding bytes h.clamped)

/-- R12: END of a QUERY: refused for its selector, or answered. -/
def State.endQuery (s : State) (h : Hand) (answer : State → State) : State :=
  match selectorFault h.kept with
  | some f => s.refuse h .order f.1 f.2
  | none => answer s

/-- END of a QUERY of one selector, from the PARITY test on. -/
def State.queryRow (s : State) (sel : Nat) (answer : Hand → State → State) : State :=
  s.atEnd (Hand.isQuery sel) fun h t => t.judge h fun u => u.endQuery h (answer h)

/-- The second selector byte. -/
def Hand.second (h : Hand) : Nat := byteAt h.kept 1

/-- R194: the 19 bytes of QUERY CONDITION. -/
def State.conditionBytes (s : State) : List Byte :=
  [byteOf s.queue.length, flagByte s.forms.owed.isSome,
    byteOf (s.ring.countP fun o => o.isNone),
    byteOf (slotsIn s.ring fun p => p == .assembling),
    byteOf (slotsIn s.ring fun p => p == .ready),
    byteOf (slotsIn s.ring fun p => p == .sending .a || p == .sending .b),
    byteOf (slotsIn s.ring fun p => p == .sent .a || p == .sent .b),
    byteOf (slotsIn s.ring fun p => p.isFinished),
    flagByte s.composer.waiting, flagByte s.held] ++
    be16 s.forms.form ++ [byteOf s.forms.line] ++ be16 (s.composer.nextFolio.getD 0) ++
    be16 s.composer.nextSeq.toNat ++ [flagByte s.keys.heldKey.isSome, flagByte s.syncPending]

/-- QUERY_CONDITION (R194). -/
def execQueryCondition (s : State) : StepOutcome :=
  s.run fun q => q.queryRow 1 fun h t => t.respond h t.conditionBytes

/-- R195: the number of a check kind. -/
def CheckKind.number : CheckKind → Nat
  | .parity => 1
  | .order => 2
  | .motion => 3
  | .noStop => 4
  | .data => 5
  | .tableFormat => 6
  | .tableRange => 7
  | .engineStopped => 8

/-- R195: the 5 bytes of QUERY CHECK; all 0 while the record is empty. -/
def checkBytes : Option CheckRecord → List Byte
  | none => [0, 0, 0, 0, 0]
  | some c =>
    [byteOf c.kind.number, c.order, flagByte c.position.isSome, byteOf (c.position.getD 0), byteOf c.detail]

/-- QUERY_CHECK (R195). -/
def execQueryCheck (s : State) : StepOutcome :=
  s.run fun q => q.queryRow 2 fun h t => t.respond h (checkBytes t.lp.check)

/-- R196: the 7 bytes of QUERY NOTICES. -/
def State.noticeBytes (s : State) : List Byte :=
  be16 s.notices.pending.toNat ++ be16 s.notices.mask.toNat ++ [flagByte s.notices.confirmed] ++
    be16 s.conditions.toNat

/-- R196, R203: in LATCHED mode every source reported pending becomes not pending at the snapshot. -/
def State.noticesRead (s : State) : State :=
  if s.notices.confirmed then s else { s with notices := s.notices.setPending 0 }

/-- QUERY_NOTICES (R196). -/
def execQueryNotices (s : State) : StepOutcome :=
  s.run fun q => q.queryRow 3 fun h t => t.noticesRead.respond h t.noticeBytes

/-- R200: the 64 bytes of QUERY COUNTERS, in the order of k. -/
def counterBytes (c : Counters) : List Byte := c.toList.flatMap fun v => be32 v.toNat

/-- QUERY_COUNTERS (R200). -/
def execQueryCounters (s : State) : StepOutcome :=
  s.run fun q => q.queryRow 4 fun h t => t.respond h (counterBytes t.counters)

/-- R88, R197: the body reported for each kind; KEY RESET reports the held key. -/
def State.tableBody (s : State) (kind : Nat) : List Byte :=
  match kind with
  | 1 => s.map.toBody
  | 2 => s.forms.table.toBody
  | 3 => collationBody s.keys.collation
  | 4 => s.keys.layout.toBody
  | 5 => (s.keys.heldKey.getD []).map byteOf
  | 6 => s.composer.plan.toBody
  | 7 => s.settings.toBody
  | 8 => be16 s.notices.mask.toNat ++ [flagByte s.notices.confirmed]
  | _ => [byteOf s.lp.unit.toNat]

/-- R197: a kind byte, a body length and the body. -/
def State.tableBytes (s : State) (kind : Nat) : List Byte :=
  byteOf kind :: (be16 (s.tableBody kind).length ++ s.tableBody kind)

/-- QUERY_TABLE (R197). -/
def execQueryTable (s : State) : StepOutcome :=
  s.run fun q => q.queryRow 5 fun h t => t.respond h (t.tableBytes h.second)

/-- R198: the number of a link state. -/
def LinkState.number : LinkState → Nat
  | .off => 0
  | .offering => 1
  | .agreeing => 2
  | .settling => 3
  | .ready => 4
  | .stopped => 5
  | .broken => 6

/-- R198: the resolved mode as a number, 0 for none. -/
def modeNumber : Option Mode → Nat
  | none => 0
  | some .fine => 1
  | some .standard => 2
  | some .proof => 3
  | some .plain => 4

/-- R198: the stop cause as a number, 0 for none. -/
def causeNumber : Option StopCause → Nat
  | none => 0
  | some .paperOut => 1
  | some .coverOpen => 2
  | some .engineFault => 3
  | some .jam => 4
  | some .timeout => 5

/-- R198: one in-flight sheet in 3 bytes, all 0 when absent. -/
def State.inFlightBytes (s : State) (e : Engine) (i : Option InFlight) : List Byte :=
  match i with
  | none => [0, 0, 0]
  | some x => be16 x.seq.toNat ++ [if s.isSending e x.seq then 3 else 4]

/-- R198: the 19 bytes of QUERY ENGINE. -/
def State.engineBytes (s : State) (e : Engine) : List Byte :=
  let l := s.link e
  [byteOf l.state.number, byteOf (modeNumber l.mode), flagByte l.plain, flagByte l.draining,
    byteOf (causeNumber l.stopCause), flagByte (s.takesSheets e), flagByte (s.dispatcher.active == e),
    byteOf l.inFlight.length] ++
    s.inFlightBytes e l.inFlight[0]? ++ s.inFlightBytes e l.inFlight[1]? ++ be16 l.pace.t.toNat ++
    [byteOf l.pace.s.toNat, byteOf l.pace.shortCount, flagByte l.pace.degraded]

/-- R193: 0 for engine A, 1 for engine B. -/
def engineOf (n : Nat) : Engine := if n = 0 then .a else .b

/-- QUERY_ENGINE (R198). -/
def execQueryEngine (s : State) : StepOutcome :=
  s.run fun q => q.queryRow 6 fun h t => t.respond h (t.engineBytes (engineOf h.second))

/-- R199: the state and the engine of a slot as numbers. -/
def SlotPhase.numbers : SlotPhase → Nat × Nat
  | .assembling => (1, 0)
  | .ready => (2, 0)
  | .sending .a => (3, 1)
  | .sending .b => (3, 2)
  | .sent .a => (4, 1)
  | .sent .b => (4, 2)
  | .finished .a => (5, 1)
  | .finished .b => (5, 2)

/-- R199: the 7 bytes of one slot; a FREE slot reports 0 throughout. -/
def slotBytes : Option Occupied → List Byte
  | none => [0, 0, 0, 0, 0, 0, 0]
  | some o =>
    [byteOf o.phase.numbers.1] ++ be16 o.sheet.seq.toNat ++ be16 (o.sheet.folio.getD 0) ++
      [byteOf o.phase.numbers.2, byteOf o.sheet.reissue]

/-- R199: the 42 bytes of QUERY RING, in the order of the slots. -/
def ringBytes (r : Ring) : List Byte := r.flatMap slotBytes

/-- QUERY_RING (R199). -/
def execQueryRing (s : State) : StepOutcome :=
  s.run fun q => q.queryRow 7 fun h t => t.respond h (ringBytes t.ring)

/-- SELECTOR_NAMING_NOTHING (R12). -/
def execSelectorNamingNothing (s : State) : StepOutcome :=
  s.run fun q =>
    q.atEnd (fun h => h.kind == some .query && (selectorFault h.kept).isSome) fun h t =>
      t.judge h fun u => u.endQuery h id

end Sys2Proof.Machine
end

