-- ==== Sys2Proof/Machine/ComposerSteps.lean ====
section
/-! DEFINITION. The meanings of the Sheet Composer's steps on the head of the Intake Queue, and of the owed form end. A
step whose kind of entry does not stand at the head does not arise, and leaves the state (notes/assumptions/4.md). -/

namespace Sys2Proof.Machine

/-- R60: the composer works on the head entry and on no other. -/
def State.atHead (s : State) (work : Entry → State → State) : State :=
  match s.queue with
  | [] => s
  | x :: _ => work x s

/-- OWED_FORM_END (R38), a due step. -/
def execOwedFormEnd (s : State) : StepOutcome := .next s.takeOwed

/-- R116: the work of a layer-1 PLACED LINE. -/
def workPlacedLine (x : Entry) (s : State) : State :=
  match x with
  | .placedLine p => if p.layer = 1 then s.placeJudged p else s
  | .formEnd _ => s
  | .streamTable _ _ => s
  | .sync => s

/-- PLACED_LINE (R116). -/
def execPlacedLine (s : State) : StepOutcome := s.runNoticed fun q => q.atHead workPlacedLine

/-- R118: the work of a layer-2 or layer-3 PLACED LINE that merges. -/
def workMerge (x : Entry) (s : State) : State :=
  match x with
  | .placedLine p => if p.layer ≠ 1 ∧ s.merges p then s.merge p else s
  | .formEnd _ => s
  | .streamTable _ _ => s
  | .sync => s

/-- OVERSTRIKE_MERGE (R118). -/
def execOverstrikeMerge (s : State) : StepOutcome := s.runNoticed fun q => q.atHead workMerge

/-- R119: the work of a layer-2 or layer-3 PLACED LINE that does not merge. -/
def workOwnLine (x : Entry) (s : State) : State :=
  match x with
  | .placedLine p => if p.layer ≠ 1 ∧ !s.merges p then s.placeUnjudged p else s
  | .formEnd _ => s
  | .streamTable _ _ => s
  | .sync => s

/-- LINE_OF_ITS_OWN (R119). -/
def execLineOfItsOwn (s : State) : StepOutcome := s.runNoticed fun q => q.atHead workOwnLine

/-- R120: the work of a FORM END. -/
def workFormEnd (x : Entry) (s : State) : State :=
  match x with
  | .formEnd f => s.closeForm f
  | .placedLine _ => s
  | .streamTable _ _ => s
  | .sync => s

/-- FORM_END (R120). -/
def execFormEnd (s : State) : StepOutcome := s.runNoticed fun q => q.atHead workFormEnd

/-- R67: the work of a SYNC marker: the flush, the removal, and what the Line Port makes of it. -/
def workSyncMarker (x : Entry) (s : State) : State :=
  match x with
  | .sync => s.flush.removeHead.markerTaken
  | .placedLine _ => s
  | .formEnd _ => s
  | .streamTable _ _ => s

/-- SYNC_MARKER (R67). -/
def execSyncMarker (s : State) : StepOutcome := s.runNoticed fun q => q.atHead workSyncMarker

/-- R126: the work of a SHEET PLAN. -/
def workSheetPlan (x : Entry) (s : State) : State :=
  match x with
  | .streamTable (.sheetPlan p) _ => (s.applyPlan p).removeHead
  | .streamTable (.collation _) _ => s
  | .streamTable (.fieldLayout _) _ => s
  | .streamTable .keyReset _ => s
  | .placedLine _ => s
  | .formEnd _ => s
  | .sync => s

/-- SHEET_PLAN_ENTRY (R126). -/
def execSheetPlanEntry (s : State) : StepOutcome := s.runNoticed fun q => q.atHead workSheetPlan

/-- R74: the work of a COLLATION. -/
def workCollation (x : Entry) (s : State) : State :=
  match x with
  | .streamTable (.collation c) _ => (s.applyCollation c).removeHead
  | .streamTable (.sheetPlan _) _ => s
  | .streamTable (.fieldLayout _) _ => s
  | .streamTable .keyReset _ => s
  | .placedLine _ => s
  | .formEnd _ => s
  | .sync => s

/-- COLLATION_ENTRY (R74). -/
def execCollationEntry (s : State) : StepOutcome := s.run fun q => q.atHead workCollation

/-- R77: the work of a FIELD LAYOUT. -/
def workFieldLayout (x : Entry) (s : State) : State :=
  match x with
  | .streamTable (.fieldLayout l) _ => (s.applyLayout l).removeHead
  | .streamTable (.sheetPlan _) _ => s
  | .streamTable (.collation _) _ => s
  | .streamTable .keyReset _ => s
  | .placedLine _ => s
  | .formEnd _ => s
  | .sync => s

/-- FIELD_LAYOUT_ENTRY (R77). -/
def execFieldLayoutEntry (s : State) : StepOutcome := s.run fun q => q.atHead workFieldLayout

/-- R87: the work of a KEY RESET. -/
def workKeyReset (x : Entry) (s : State) : State :=
  match x with
  | .streamTable .keyReset _ => ({ s with keys := s.keys.clearHeld } : State).removeHead
  | .streamTable (.sheetPlan _) _ => s
  | .streamTable (.collation _) _ => s
  | .streamTable (.fieldLayout _) _ => s
  | .placedLine _ => s
  | .formEnd _ => s
  | .sync => s

/-- KEY_RESET_ENTRY (R87). -/
def execKeyResetEntry (s : State) : StepOutcome := s.run fun q => q.atHead workKeyReset

end Sys2Proof.Machine
end

