-- ==== Sys2Proof/Machine/EngineSteps.lean ====
section
/-! DEFINITION. The meanings of the grant, of the end of a transfer's writing and of the engines' frames. A frame's
failover (R181) is part of its event. -/

namespace Sys2Proof.Machine

/-- GRANT (R143), a due step: one grant. The window ends that are due come first, since the choice of R144 reads the
degraded flags. -/
def execGrant (s : State) : StepOutcome := .next s.windowsDue.grantOnce

/-- SHEET_END (R167). -/
def execSheetEnd (e : Engine) (s : State) : StepOutcome := s.run fun q => q.sendSheetEnd e

/-- OFFER (R150). -/
def execOffer (e : Engine) (modes : ModeSet) (ack : Bool) (s : State) : StepOutcome :=
  s.runNoticed fun q => (q.offerFrame e modes ack).failover

/-- IDLE (R150). -/
def execIdle (e : Engine) (s : State) : StepOutcome := s.run fun q => q.idleFrame e

/-- TAKEN (R172). -/
def execTaken (e : Engine) (seq : Word16) (s : State) : StepOutcome := s.run fun q => q.takenFrame e seq

/-- STACKED (R174). -/
def execStacked (e : Engine) (seq : Word16) (s : State) : StepOutcome :=
  s.runNoticed fun q => (q.stackedFrame e seq).failover

/-- STOP (R177). A cause that no STOP frame carries is refused. -/
def execStop (e : Engine) (cause : StopCause) (s : State) : StepOutcome :=
  if cause.inStopFrame then s.runNoticed fun q => (q.stopFrame e cause).failover
  else .refused .noSuchFrame

/-- JAM (R178). -/
def execJam (e : Engine) (last : Option Word16) (s : State) : StepOutcome :=
  s.runNoticed fun q => (q.jamFrame e last).failover

/-- READY (R179). -/
def execReady (e : Engine) (s : State) : StepOutcome := s.runNoticed fun q => (q.readyFrame e).failover

end Sys2Proof.Machine
end

