-- ==== Sys2Proof/Machine/TimerSteps.lean ====
section
/-! DEFINITION. The meanings of the timers' expiries, of the tick, of the ends of a pace window and of the operator call
line's timers. An expiry of a timer that does not run does not arise (notes/assumptions/4.md). -/

namespace Sys2Proof.Machine

/-- OFFER_REPEAT (R152). -/
def execOfferRepeat (e : Engine) (s : State) : StepOutcome := s.run fun q => q.repeatOffer e

/-- OFFER_WINDOW (R154). -/
def execOfferWindow (e : Engine) (s : State) : StepOutcome :=
  s.runNoticed fun q => (q.offerWindowEnds e).failover

/-- ACKNOWLEDGEMENT_WINDOW (R155). -/
def execAcknowledgementWindow (e : Engine) (s : State) : StepOutcome := s.runNoticed fun q => q.ackWindowEnds e

/-- SETTLE_TIMER (R156). -/
def execSettleTimer (e : Engine) (s : State) : StepOutcome := s.runNoticed fun q => (q.settleEnds e).failover

/-- SILENCE_TIMER (R157). -/
def execSilenceTimer (e : Engine) (s : State) : StepOutcome := s.runNoticed fun q => (q.linkLost e).failover

/-- BREAK_END (R159). -/
def execBreakEnd (e : Engine) (s : State) : StepOutcome := s.runNoticed fun q => q.breakEnds e

/-- TAKEN_TIMEOUT (R173). -/
def execTakenTimeout (e : Engine) (s : State) : StepOutcome :=
  s.runNoticed fun q => if q.takenTimerRuns e then (q.timedOut e).failover else q

/-- STACKED_TIMEOUT (R175). -/
def execStackedTimeout (e : Engine) (seq : Word16) (s : State) : StepOutcome :=
  s.runNoticed fun q => if q.stackedTimerRuns e seq then (q.timedOut e).failover else q

/-- TICK (R184): the tick reaches the Pace Monitor of each link. -/
def execTick (s : State) : StepOutcome := s.run fun q => { q with linkA := q.linkA.tick, linkB := q.linkB.tick }

/-- WINDOW_SHORT (R186), a due step. -/
def execWindowShort (e : Engine) (s : State) : StepOutcome := .next (s.windowShort e)

/-- WINDOW_MET (R186), a due step. -/
def execWindowMet (e : Engine) (s : State) : StepOutcome := .next (s.windowMet e)

/-- R206: the burst timer stops when it expires. -/
def NoticeUnit.burstEnds (n : NoticeUnit) : NoticeUnit := { n with burst := none }

/-- BURST_TIMER (R206). -/
def execBurstTimer (s : State) : StepOutcome := s.run fun q => { q with notices := q.notices.burstEnds }

/-- R206: the on or off period of the pattern shown ends and the line toggles. -/
def NoticeUnit.patternTurns (n : NoticeUnit) : NoticeUnit := { n with pattern := n.pattern.map not }

/-- CALL_PATTERN (R206). -/
def execCallPattern (s : State) : StepOutcome := s.run fun q => { q with notices := q.notices.patternTurns }

end Sys2Proof.Machine
end

