-- ==== Sys2Proof/Machine/Dispatch.lean ====
section
/-! DEFINITION. The dispatch of a command to its meaning: one arm for each row of spec/opcode_table.json, in the table's
order. -/

namespace Sys2Proof.Machine

/-- The effect of a command on everything but the queue of commands that wait. -/
def exec (i : Instr) (s : State) : Host.Outcome State Fault Refusal :=
  match i with
  | .orderByte select unit data parity => Sys2Proof.Machine.execOrderByte select unit data parity s
  | .orderAccept => Sys2Proof.Machine.execOrderAccept s
  | .dataByte data parity => Sys2Proof.Machine.execDataByte data parity s
  | .unknownOrder => Sys2Proof.Machine.execUnknownOrder s
  | .print => Sys2Proof.Machine.execPrint s
  | .move => Sys2Proof.Machine.execMove s
  | .sync => Sys2Proof.Machine.execSync s
  | .syncDone => Sys2Proof.Machine.execSyncDone s
  | .engineStopped => Sys2Proof.Machine.execEngineStopped s
  | .tableCharacterMap => Sys2Proof.Machine.execTableCharacterMap s
  | .tableForms => Sys2Proof.Machine.execTableForms s
  | .tableCollation => Sys2Proof.Machine.execTableCollation s
  | .tableFieldLayout => Sys2Proof.Machine.execTableFieldLayout s
  | .tableKeyReset => Sys2Proof.Machine.execTableKeyReset s
  | .tableSheetPlan => Sys2Proof.Machine.execTableSheetPlan s
  | .tableLinkSettings => Sys2Proof.Machine.execTableLinkSettings s
  | .tableNoticeControl => Sys2Proof.Machine.execTableNoticeControl s
  | .tableNoticeClear => Sys2Proof.Machine.execTableNoticeClear s
  | .tableUnit => Sys2Proof.Machine.execTableUnit s
  | .tableCounterClear => Sys2Proof.Machine.execTableCounterClear s
  | .tableReset => Sys2Proof.Machine.execTableReset s
  | .queryCondition => Sys2Proof.Machine.execQueryCondition s
  | .queryCheck => Sys2Proof.Machine.execQueryCheck s
  | .queryNotices => Sys2Proof.Machine.execQueryNotices s
  | .queryCounters => Sys2Proof.Machine.execQueryCounters s
  | .queryTable => Sys2Proof.Machine.execQueryTable s
  | .queryEngine => Sys2Proof.Machine.execQueryEngine s
  | .queryRing => Sys2Proof.Machine.execQueryRing s
  | .replyTaken => Sys2Proof.Machine.execReplyTaken s
  | .clear => Sys2Proof.Machine.execClear s
  | .lineReset => Sys2Proof.Machine.execLineReset s
  | .hardwareReset straps => Sys2Proof.Machine.execHardwareReset straps s
  | .owedFormEnd => Sys2Proof.Machine.execOwedFormEnd s
  | .placedLine => Sys2Proof.Machine.execPlacedLine s
  | .overstrikeMerge => Sys2Proof.Machine.execOverstrikeMerge s
  | .lineOfItsOwn => Sys2Proof.Machine.execLineOfItsOwn s
  | .formEnd => Sys2Proof.Machine.execFormEnd s
  | .syncMarker => Sys2Proof.Machine.execSyncMarker s
  | .sheetPlanEntry => Sys2Proof.Machine.execSheetPlanEntry s
  | .collationEntry => Sys2Proof.Machine.execCollationEntry s
  | .fieldLayoutEntry => Sys2Proof.Machine.execFieldLayoutEntry s
  | .keyResetEntry => Sys2Proof.Machine.execKeyResetEntry s
  | .grant => Sys2Proof.Machine.execGrant s
  | .sheetEnd link => Sys2Proof.Machine.execSheetEnd link s
  | .offer link modes ack => Sys2Proof.Machine.execOffer link modes ack s
  | .idle link => Sys2Proof.Machine.execIdle link s
  | .taken link seq => Sys2Proof.Machine.execTaken link seq s
  | .stacked link seq => Sys2Proof.Machine.execStacked link seq s
  | .stop link cause => Sys2Proof.Machine.execStop link cause s
  | .jam link last => Sys2Proof.Machine.execJam link last s
  | .ready link => Sys2Proof.Machine.execReady link s
  | .offerRepeat link => Sys2Proof.Machine.execOfferRepeat link s
  | .offerWindow link => Sys2Proof.Machine.execOfferWindow link s
  | .acknowledgementWindow link => Sys2Proof.Machine.execAcknowledgementWindow link s
  | .settleTimer link => Sys2Proof.Machine.execSettleTimer link s
  | .silenceTimer link => Sys2Proof.Machine.execSilenceTimer link s
  | .breakEnd link => Sys2Proof.Machine.execBreakEnd link s
  | .takenTimeout link => Sys2Proof.Machine.execTakenTimeout link s
  | .stackedTimeout link seq => Sys2Proof.Machine.execStackedTimeout link seq s
  | .tick => Sys2Proof.Machine.execTick s
  | .windowShort link => Sys2Proof.Machine.execWindowShort link s
  | .windowMet link => Sys2Proof.Machine.execWindowMet link s
  | .burstTimer => Sys2Proof.Machine.execBurstTimer s
  | .callPattern => Sys2Proof.Machine.execCallPattern s
  | .tableKindUnknown => Sys2Proof.Machine.execTableKindUnknown s
  | .selectorNamingNothing => Sys2Proof.Machine.execSelectorNamingNothing s

end Sys2Proof.Machine
end

