-- ==== Sys2Proof/Safety.lean ====
section
/-! DEFINITION. What the claims call well-formed states: the bounds the spec gives each piece of state, the laws it calls
laws of the device, and the states in which nothing is due. -/

namespace Sys2Proof.Machine

/-! ### What is due -/

/-- R61: an owed form end finds a free entry. -/
def State.owedDue (s : State) : Bool := s.forms.owed.isSome && decide (0 < s.freeEntries)

/-- R186: a pace window of the link has ended. -/
def Link.windowDue (l : Link) : Bool := l.pace.tOver || l.pace.sOver

/-- R143: a sheet is READY and an engine is eligible. -/
def State.grantDue (s : State) : Bool := s.chosenEngine.isSome && s.oldestReady.isSome

/-- R16: a withheld SYNC in its ring watch finds the ring empty. -/
def State.syncDoneDue (s : State) : Bool :=
  match s.lp.port with
  | .syncWithheld .ringWatch _ => decide (sheetsIn s.ring = 0)
  | _ => false

/-- R17: a withheld SYNC finds sheets in the ring and no engine able. -/
def State.syncFailDue (s : State) : Bool :=
  match s.lp.port with
  | .syncWithheld _ _ => decide (sheetsIn s.ring ≠ 0) && s.held
  | _ => false

/-- R4, R6: a waiting order, or a waiting kind byte, finds what it waits for. -/
def State.acceptDue (s : State) : Bool :=
  match s.lp.port with
  | .waitingOrder _ k => s.accepts k
  | .waitingKind _ _ => decide (0 < s.freeEntries)
  | _ => false

/-- Nothing is due: every command's effect is then its own. -/
abbrev State.quiet (s : State) : Prop :=
  s.owedDue = false ∧ s.linkA.windowDue = false ∧ s.linkB.windowDue = false ∧ s.grantDue = false ∧
    s.syncDoneDue = false ∧ s.syncFailDue = false ∧ s.acceptDue = false

/-- The commands that are due steps themselves, and HARDWARE_RESET, which looks at nothing. Every other command takes the
due steps first (notes/assumptions/3.md). -/
def takesDueFirst : Instr → Bool
  | .orderAccept => false
  | .owedFormEnd => false
  | .windowShort _ => false
  | .windowMet _ => false
  | .grant => false
  | .syncDone => false
  | .engineStopped => false
  | .hardwareReset _ => false
  | .stop _ cause => cause.inStopFrame
  | _ => true

/-! ### What END belongs to -/

/-- The rows that are END of an order. -/
def isEndRow : Instr → Bool
  | .unknownOrder => true
  | .print => true
  | .move => true
  | .sync => true
  | .tableCharacterMap => true
  | .tableForms => true
  | .tableCollation => true
  | .tableFieldLayout => true
  | .tableKeyReset => true
  | .tableSheetPlan => true
  | .tableLinkSettings => true
  | .tableNoticeControl => true
  | .tableNoticeClear => true
  | .tableUnit => true
  | .tableCounterClear => true
  | .tableReset => true
  | .tableKindUnknown => true
  | .queryCondition => true
  | .queryCheck => true
  | .queryNotices => true
  | .queryCounters => true
  | .queryTable => true
  | .queryEngine => true
  | .queryRing => true
  | .selectorNamingNothing => true
  | _ => false

/-- END of the order in hand is this row (notes/assumptions/5.md). -/
def endsHand : Instr → Hand → Bool
  | .unknownOrder, h => h.kind == none
  | .print, h => h.kind == some .print
  | .move, h => h.kind == some .move
  | .sync, h => h.kind == some .sync
  | .tableCharacterMap, h => h.isTable 1
  | .tableForms, h => h.isTable 2
  | .tableCollation, h => h.isTable 3
  | .tableFieldLayout, h => h.isTable 4
  | .tableKeyReset, h => h.isTable 5
  | .tableSheetPlan, h => h.isTable 6
  | .tableLinkSettings, h => h.isTable 7
  | .tableNoticeControl, h => h.isTable 8
  | .tableNoticeClear, h => h.isTable 9
  | .tableUnit, h => h.isTable 10
  | .tableCounterClear, h => h.isTable 11
  | .tableReset, h => h.isTable 12
  | .tableKindUnknown, h => h.unknownTable
  | .queryCondition, h => h.isQuery 1
  | .queryCheck, h => h.isQuery 2
  | .queryNotices, h => h.isQuery 3
  | .queryCounters, h => h.isQuery 4
  | .queryTable, h => h.isQuery 5
  | .queryEngine, h => h.isQuery 6
  | .queryRing, h => h.isQuery 7
  | .selectorNamingNothing, h => h.kind == some .query && (selectorFault h.kept).isSome
  | _, _ => false

/-- R190: the range tests of each kind of record. -/
def rangeFault : Instr → List Byte → Option (Nat × Nat)
  | .tableCharacterMap => charMapFault
  | .tableForms => formsFault
  | .tableCollation => collationFault
  | .tableFieldLayout => layoutFault
  | .tableSheetPlan => planFault
  | .tableLinkSettings => settingsFault
  | .tableNoticeControl => noticeControlFault
  | .tableNoticeClear => noticeClearFault
  | .tableUnit => unitFault
  | _ => noFault

/-- R14, R15, R190: `t` is `s` after the order in hand was refused: the check record, CHECK presented, one more refused
order, TABLE REFUSED posted for a TABLE order, and nothing else. -/
abbrev State.RefusedAs (s t : State) (h : Hand) (kind : CheckKind) (position : Option Nat) (detail : Nat) : Prop :=
  t = { s with
    lp := { s.lp with
      check := some ⟨kind, h.orderByte, position, detail⟩
      port := .replying ⟨.check, false, t.noticeFlag, h.clamped⟩ }
    counters := s.counters.set 1 (countUp (s.counters.get 1) 1)
    notices :=
      if h.kind = some .table then s.notices.setPending (s.notices.pending ||| Source10.tableRefused.bit)
      else s.notices }

/-! ### Resets -/

/-- R165, R188: a link after a soft reset. -/
abbrev Link.softResetTo (cfg : LinkSettings) (used : Bool) (l m : Link) : Prop :=
  m = { state := if used then .broken else .off
        keptSet := none, offerCount := 0, offersSeen := false, idleSeen := false, agreedSet := none, mode := none
        plain := false, draining := false, hasBeenReady := false, stopCause := none, inFlight := [], writing := []
        timers := ⟨none, none, none, none, none, if used then some 800 else none⟩
        pace := ⟨BitVec.ofNat 16 (65536 - cfg.paceWindow), BitVec.ofNat 8 (256 - cfg.paceTarget), 0, false, false, false⟩
        lastSent := l.lastSent }

/-- R20, R40, R69, R86, R129, R138, R139, R165, R188, R207: `t` is `s` after a soft reset, the Line Port apart. -/
abbrev State.SoftResetTo (s t : State) : Prop :=
  t = { s with
    lp := t.lp
    forms := ⟨s.forms.table, 1, 1, false, 0, none⟩
    queue := []
    keys := { s.keys with heldKey := none }
    composer := ⟨s.composer.plan, 1, 1, s.composer.plan.folioStart, false⟩
    ring := [none, none, none, none, none, none]
    dispatcher := ⟨.a, .b⟩
    linkA := t.linkA
    linkB := t.linkB
    notices := t.notices } ∧
  s.linkA.softResetTo s.settings (s.settings.arrangement.uses .a) t.linkA ∧
  s.linkB.softResetTo s.settings (s.settings.arrangement.uses .b) t.linkB ∧
  t.notices.mask = s.notices.mask ∧ t.notices.confirmed = s.notices.confirmed ∧
  t.notices.pending = t.conditions &&& ~~~s.conditions ∧ t.conditions &&& ~~~Source10.folioLimit.bit = 0

/-! ### Ranges -/

/-- R22, R24, R25, R34: the ranges of the form length, the form number, the line and the layer count. -/
abbrev Forms.inRange (f : Forms) : Prop :=
  12 ≤ f.table.length ∧ f.table.length ≤ 144 ∧ 1 ≤ f.form ∧ f.form ≤ 65535 ∧ 1 ≤ f.line ∧ f.line ≤ f.table.length ∧
    f.layers ≤ 3

/-- R4, R6: the queue entries that the order in hand has reserved. -/
def Hand.reserves (h : Hand) : Nat :=
  match h.kind with
  | some .table =>
    match h.kept with
    | k :: _ => if kindIsStream k && h.parityError.isNone then 1 else 0
    | [] => 0
  | some k => roomNeeded k
  | none => 0

/-- The reserved entries of the port. -/
def State.reserved (s : State) : Nat :=
  match s.lp.port with
  | .takingData h => h.reserves
  | _ => 0

/-- R6, R8: what the order in hand has kept agrees with what it has counted: a TABLE keeps every byte, and one held at
its kind byte has kept none. -/
def State.handSound (s : State) : Bool :=
  match s.lp.port with
  | .takingData h => h.kind != some .table || h.count == h.kept.length
  | .waitingKind h k => h.kind == some .table && h.kept.isEmpty && h.count == 0 && kindIsStream k
  | _ => true

/-- R56, R59: the queue holds at most 16 entries, the reserved room included, and no order holds room while a form end is
owed. -/
abbrev State.queueSound (s : State) : Prop :=
  s.forms.inRange ∧ s.handSound = true ∧ s.queue.length + s.reserved ≤ 16 ∧
    (s.forms.owed.isSome = true → s.reserved = 0)

/-! ### The ring -/

/-- How many slots are ASSEMBLING. -/
def assemblingCount (r : Ring) : Nat := slotsIn r fun p => p == .assembling

/-- R108, R130: six slots, at most one ASSEMBLING, and none while the composer waits for a slot. -/
abbrev State.ringSound (s : State) : Prop :=
  s.ring.length = 6 ∧ assemblingCount s.ring ≤ 1 ∧ (s.composer.waiting = true → assemblingCount s.ring = 0)

/-- The sheets in the ring, in the order of the slots. -/
def sheetsOf (r : Ring) : List Sheet := r.filterMap fun o => o.map fun x => x.sheet

/-- R133: the ages of the sheets in the ring are distinct and run from 1, the newest, to their number. -/
abbrev State.runSound (s : State) : Prop :=
  ((sheetsOf s.ring).map fun x => s.age x.seq).Nodup ∧
    ∀ x ∈ sheetsOf s.ring, 1 ≤ s.age x.seq ∧ s.age x.seq ≤ sheetsIn s.ring

/-- The sequence numbers of the slots in flight on an engine. -/
def inFlightSlots (e : Engine) (r : Ring) : List Word16 :=
  r.filterMap fun o => match o with
    | some x => if x.phase.inFlightOn e then some x.sheet.seq else none
    | none => none

/-- R141: each link's in-flight list names the sheets in flight on its engine, and at most two of them. -/
abbrev State.flightSound (s : State) : Prop :=
  ∀ e : Engine, (s.link e).inFlight.length ≤ 2 ∧
    ∀ q : Word16, q ∈ (s.link e).inFlight.map (fun i => i.seq) ↔ q ∈ inFlightSlots e s.ring

/-- R141: the sequence numbers of the slots SENDING on an engine. -/
def sendingSlots (e : Engine) (r : Ring) : List Word16 :=
  r.filterMap fun o => match o with
    | some x => if x.phase = .sending e then some x.sheet.seq else none
    | none => none

/-- R141: no number stands twice in an in-flight list, and each engine has at most one sheet SENDING, which is the last of
its list. -/
abbrev State.flightOrdered (s : State) : Prop :=
  ∀ e : Engine, ((s.link e).inFlight.map fun i => i.seq).Nodup ∧ (sendingSlots e s.ring).length ≤ 1 ∧
    ∀ q ∈ sendingSlots e s.ring, ((s.link e).inFlight.map fun i => i.seq).getLast? = some q

/-- R111: the record of a sheet newly opened. -/
abbrev Composer.freshSheet (c : Composer) : Sheet :=
  ⟨c.nextSeq, c.nextFolio, none, false, 0, c.plan, List.replicate c.plan.gang ⟨none, false, []⟩, []⟩

/-- R111 to R114: the composer after it has opened a sheet. -/
abbrev Composer.afterOpening (c : Composer) : Composer :=
  { c with
    column := 1
    nextSeq := c.nextSeq + 1
    nextFolio := match c.nextFolio with
      | none => none
      | some n => some (if n < 9999 then n + 1 else 9999)
    waiting := false }

/-- R134, R135: the release of these sheets frees a slot: some sheet FINISHED or released has no older sheet that is
neither. -/
abbrev State.frees (s : State) (covered : List Word16) : Prop :=
  ∃ x, some x ∈ s.ring ∧ (x.phase.isFinished = true ∨ x.sheet.seq ∈ covered) ∧
    ∀ y, some y ∈ s.ring → s.age x.sheet.seq < s.age y.sheet.seq → y.phase.isFinished = true ∨ y.sheet.seq ∈ covered

/-- R63, R112, R135: between `s` and `t` these sheets were released: a composer that waits opens its sheet when a slot
is FREE, RING FULL falls, and otherwise the composer stays as it was. -/
abbrev State.EndsWait (s t : State) (covered : List Word16) : Prop :=
  (s.composer.waiting = false → t.composer = s.composer) ∧
    (s.composer.waiting = true → none ∉ s.ring → ¬s.frees covered → t.composer = s.composer) ∧
    (s.composer.waiting = true → none ∈ s.ring ∨ s.frees covered →
      t.composer = s.composer.afterOpening ∧ some ⟨.assembling, s.composer.freshSheet⟩ ∈ t.ring ∧
        assemblingSheet t.ring = some s.composer.freshSheet ∧ inSet t.conditions .ringFull = false ∧
        inSet t.notices.pending .ringFull = (s.notices.confirmed && inSet s.notices.pending .ringFull))

/-- R136: `after` is `before` with every sheet SENDING or SENT on the engine READY in its slot, its reissue count one
more, held at 255, and every other slot as it was. -/
abbrev ringReturned (e : Engine) (before after : Ring) : Prop :=
  after.length = before.length ∧ ∀ (k : Nat) (o : Option Occupied), before[k]? = some o → after[k]? = some (match o with
    | none => none
    | some x =>
      if x.phase = .sending e ∨ x.phase = .sent e then
        some ⟨.ready, { x.sheet with reissue := min 255 (x.sheet.reissue + 1) }⟩
      else some x)

/-! ### The links -/

/-- An event at one link: `t` is `s` but for the ring, the link, the active engine and what pends and calls in the Notice
Unit. -/
abbrev State.OnlyAtLink (s t : State) (e : Engine) : Prop :=
  t = { s with
    ring := t.ring
    linkA := t.linkA
    linkB := t.linkB
    dispatcher := { s.dispatcher with active := t.dispatcher.active }
    notices := t.notices } ∧
    t.link (otherEngine e) = s.link (otherEngine e) ∧ t.notices.mask = s.notices.mask ∧
    t.notices.confirmed = s.notices.confirmed

/-- R149, R157, R179, R183: `m` is `l` made READY: the Pace Monitor is reloaded, and of the timers only the silence timer
runs on. -/
abbrev Link.ReadiesTo (cfg : LinkSettings) (l m : Link) : Prop :=
  m = { l with
    state := .ready
    hasBeenReady := true
    stopCause := none
    timers := ⟨none, none, none, none, l.timers.silence, none⟩
    pace := ⟨BitVec.ofNat 16 (65536 - cfg.paceWindow), BitVec.ofNat 8 (256 - cfg.paceTarget), l.pace.shortCount,
      l.pace.degraded, false, false⟩ }

/-- R156: `m` is `l` made SETTLING, with the settle timer and the silence timer of 500 ms started, or READY at once with
the silence timer started when the settle delay is 0. -/
abbrev Link.SettlesTo (cfg : LinkSettings) (l m : Link) : Prop :=
  (cfg.settleMs ≠ 0 →
    m = { l with state := .settling, timers := ⟨none, none, none, some cfg.settleMs, some 500, none⟩ }) ∧
  (cfg.settleMs = 0 → Link.ReadiesTo cfg { l with timers := { l.timers with silence := some 500 } } m)

/-- R149, R159: `m` is `l` in BREAK: the agreement is cleared, and the 800 ms alone run. -/
abbrev Link.BreaksTo (l m : Link) : Prop :=
  m = { l with
    state := .broken, agreedSet := none, mode := none, plain := false, draining := false, stopCause := none
    timers := ⟨none, none, none, none, none, some 800⟩ }

/-! ### The device laws on the sheets -/

/-- R95, R103: a placed line keeps its step, its printed width and its baseline within its sheet's plan. -/
abbrev Line.fits (p : SheetPlan) (l : Line) : Prop :=
  l.fit.step ≤ p.maxStep ∧ p.widthAt l.fit.baseText.length l.fit.step ≤ p.columnWidth ∧
    (∀ t ∈ l.fit.overText, t.length = l.fit.baseText.length) ∧ l.baseline ≤ p.bottomEdge

/-- R89, R95, R103: every placed line of every sheet in the ring fits, and the assembling sheet is laid out under the plan
in force. -/
abbrev State.linesSound (s : State) : Prop :=
  ∀ o ∈ s.ring, ∀ x ∈ o, (x.phase = .assembling → x.sheet.plan = s.composer.plan) ∧
    ∀ l ∈ x.sheet.lines, l.fits x.sheet.plan

/-- R122: the display keys of the keyed lines of a sheet, in column and line order. -/
def Sheet.displayKeys (sh : Sheet) : List Text := sh.lines.filterMap fun l => l.displayKey

/-- R122: a sheet has guides exactly when it holds a keyed line, and they are the display keys of its first and last
keyed lines, each cut to the guide width. -/
abbrev Sheet.guided (sh : Sheet) : Prop :=
  (sh.displayKeys = [] → sh.guides = none) ∧
    ∀ a z, sh.displayKeys.head? = some a → sh.displayKeys.getLast? = some z →
      sh.guides = some ⟨a.take sh.plan.guideWidth, z.take sh.plan.guideWidth⟩

/-- R121, R122: every committed sheet has its guides. -/
abbrev State.guidesSound (s : State) : Prop :=
  ∀ o ∈ s.ring, ∀ x ∈ o, x.phase ≠ .assembling → x.sheet.guided

/-! ### Notices and tables -/

/-- R203: in LATCHED mode a pending condition source has its condition true. -/
abbrev State.latchedSound (s : State) : Prop :=
  s.notices.confirmed = false → s.notices.pending &&& conditionSources &&& ~~~s.conditions = 0

/-- R206: the burst timer runs only while a class-4 source is live, and a pattern is shown exactly when the class shown is
2 or 3. -/
abbrev NoticeUnit.callSound (n : NoticeUnit) : Prop :=
  (n.burst.isSome = true → n.live &&& classSources 4 ≠ 0) ∧
    (n.pattern.isSome = true ↔ n.shownClass = 2 ∨ n.shownClass = 3)

/-- R181: no failover is due. -/
abbrev State.failoverSettled (s : State) : Prop :=
  s.settings.arrangement = .standby → (s.link s.dispatcher.active).state ≠ .ready →
    (s.link (otherEngine s.dispatcher.active)).state ≠ .ready

/-- R22: a FORMS table within its ranges, with its stops distinct and its end channel, if any, among them. -/
abbrev FormsTable.valid (t : FormsTable) : Prop :=
  12 ≤ t.length ∧ t.length ≤ 144 ∧ 1 ≤ t.stops.length ∧ t.stops.length ≤ 32 ∧ t.stops.Nodup ∧
    (∀ st ∈ t.stops, 1 ≤ st.line ∧ st.line ≤ t.length ∧ 1 ≤ st.channel ∧ st.channel ≤ 12) ∧
    ∀ c ∈ t.endChannel, 1 ≤ c ∧ c ≤ 12 ∧ ∃ st ∈ t.stops, st.channel = c

/-- R71: every rank lies between 1 and 250. -/
abbrev collationValid (c : Collation) : Prop := ∀ g : Glyph, ∀ r ∈ c.get g, 1 ≤ r ∧ r ≤ 250

/-- R75: a field layout within its ranges. -/
abbrev FieldLayout.valid (l : FieldLayout) : Prop :=
  1 ≤ l.keyStart ∧ l.keyStart ≤ 160 ∧ 1 ≤ l.keyLength ∧ l.keyLength ≤ 40 ∧ l.keyStart + l.keyLength - 1 ≤ 160 ∧
    ∀ z ∈ l.zone, 1 ≤ z.first ∧ z.first < z.last ∧ z.last ≤ 160

/-- R89, R91, R109: a sheet plan within its ranges, its column area within the sheet's width and its depth within the
sheet's height. -/
abbrev SheetPlan.valid (p : SheetPlan) : Prop :=
  1 ≤ p.gang ∧ p.gang ≤ 4 ∧ 6000 ≤ p.sheetWidth ∧ p.sheetWidth ≤ 13200 ∧ 8400 ≤ p.sheetHeight ∧
    p.sheetHeight ≤ 20400 ∧ p.leftMargin ≤ 2400 ∧ p.topMargin ≤ 2400 ∧ 40 ≤ p.cellWidth ∧ p.cellWidth ≤ 160 ∧
    600 ≤ p.columnWidth ∧ p.columnWidth ≤ 9600 ∧ p.gutter ≤ 1200 ∧ p.headerDepth ≤ 1200 ∧ 1200 ≤ p.columnDepth ∧
    p.columnDepth ≤ 16800 ∧ p.maxStep ≤ 4 ∧ p.rightEdge ≤ p.sheetWidth ∧ p.bottomEdge ≤ p.sheetHeight ∧
    1 ≤ p.guideWidth ∧ p.guideWidth ≤ 40 ∧ ∀ n ∈ p.folioStart, 1 ≤ n ∧ n ≤ 9999

/-- R161: link settings within their ranges. -/
abbrev LinkSettings.valid (c : LinkSettings) : Prop :=
  c.advertised ≠ 0 ∧ c.settleMs ≤ 5000 ∧ c.settleMs % 100 = 0 ∧ 1000 ≤ c.takenMs ∧ c.takenMs ≤ 10000 ∧
    5000 ≤ c.stackedMs ∧ c.stackedMs ≤ 60000 ∧ 100 ≤ c.paceWindow ∧ c.paceWindow ≤ 60000 ∧ 1 ≤ c.paceTarget ∧
    c.paceTarget ≤ 255 ∧ 1 ≤ c.degradeThreshold ∧ c.degradeThreshold ≤ 7

/-- Every table in force, and every table that waits in the queue, is within its ranges. -/
abbrev State.tablesSound (s : State) : Prop :=
  s.forms.table.valid ∧ collationValid s.keys.collation ∧ s.keys.layout.valid ∧ s.composer.plan.valid ∧
    s.settings.valid ∧
    ∀ x ∈ s.queue, match x with
      | .streamTable (.collation c) _ => collationValid c
      | .streamTable (.fieldLayout l) _ => l.valid
      | .streamTable (.sheetPlan p) _ => p.valid
      | _ => True

end Sys2Proof.Machine
end

