-- ==== Sys2Proof/Certificates/Slice0/Obligations.lean ====
section
/-! DEFINITION. The statements for the provers. Each docstring names the rules of spec/ its statement rests on, and the
log entry where a clause is the model's choice. -/

open Sys2Proof Sys2Proof.Machine

/-! ### The step, the due steps, resets -/

/-- One step runs the command at the front of the queue with the rest of the queue. -/
def Obligations.StepRunsTheFrontCommand : Prop :=
  ∀ (c : Instr) (rest : List Instr) (s : State),
    step { s with pending := c :: rest } = exec c { s with pending := rest }

/-- Taking the due steps leaves none due, changes nothing in a quiet state and keeps the commands that wait; a step on an
empty queue takes them and nothing else; and every command but the due steps themselves takes them first. The model's
choice (notes/assumptions/3.md, notes/assumptions/10.md) of when R16, R17, R38, R61, R143 and R186 act. -/
def Obligations.DueStepsComeFirst : Prop :=
  ∀ s : State, s.takeDue.quiet ∧ s.takeDue.pending = s.pending ∧ (s.quiet → s.takeDue = s) ∧
    (s.pending = [] → step s = .next s.takeDue) ∧ ∀ c : Instr, takesDueFirst c = true → exec c s = exec c s.takeDue

/-- Every well-formed command answers a next state in every state, with the commands that wait as they were; the one
ill-formed command, a STOP whose cause no STOP frame carries (R177), is refused by name. The refusal is the model's
choice (notes/assumptions/12.md). -/
def Obligations.WellFormedCommandsAnswerNext : Prop :=
  ∀ (c : Instr) (s : State),
    (c.wellFormed = true → ∃ t, exec c s = .next t ∧ t.pending = s.pending) ∧
      (c.wellFormed = false → exec c s = .refused .noSuchFrame)

/-- R21: what hardware reset leaves in the Line Port. -/
def Obligations.HardwareResetLeavesThePortIdle : Prop :=
  ∀ (straps : Straps) (s : State), ∃ t, exec (.hardwareReset straps) s = .next t ∧
    t.lp.port = .idle ∧ t.lp.replyValid = false ∧ t.lp.unit = straps.unit ∧ t.lp.check = none ∧
    t.lp.fenceArmed = false ∧ t.fenceHolds = false ∧ t.syncPending = false ∧
    t.counter .linesAccepted = 0 ∧ t.counter .ordersRefused = 0

/-- R39, R43, R70, R72, R75, R89, R109, R129, R138, R139, R161, R165, R188, R200, R207: what hardware reset leaves in
every block behind the Line Port, from any state and under any straps. The fields lastSent, writing, tOver and sOver
are the model's own (notes/assumptions/8.md, notes/assumptions/25.md, notes/assumptions/30.md). -/
def Obligations.HardwareResetReachesEveryBlock : Prop :=
  ∀ (straps : Straps) (s : State), ∃ t, exec (.hardwareReset straps) s = .next t ∧ t.pending = s.pending ∧
    (∀ k : Byte, t.map.entry k =
      if k = 32 then .blank
      else if 33 ≤ k.toNat ∧ k.toNat ≤ 126 then .glyph (Fin.ofNat 240 (k.toNat - 33))
      else .unprintable) ∧
    t.map.action = .blank ∧ t.map.substitute = 0 ∧
    t.forms = ⟨⟨66, .lpi6, some 12, [⟨1, 1⟩, ⟨60, 12⟩]⟩, 1, 1, false, 0, none⟩ ∧ t.queue = [] ∧
    (∀ g : Glyph, t.keys.collation.get g = some (g.val + 1)) ∧ t.keys.layout = ⟨1, 20, none⟩ ∧ t.keys.heldKey = none ∧
    t.composer.plan =
      (if straps.gang then ⟨3, 10200, 13200, 600, 600, 80, 3000, 240, 480, 12000, 2, 24, some 1, ⟨true, true, true⟩⟩
        else ⟨1, 10200, 13200, 600, 600, 68, 9000, 0, 480, 12000, 2, 24, some 1, ⟨true, true, true⟩⟩) ∧
    t.composer.column = 1 ∧ t.composer.nextSeq = 1 ∧ t.composer.nextFolio = some 1 ∧ t.composer.waiting = false ∧
    t.ring = [none, none, none, none, none, none] ∧
    t.settings = ⟨arrangementOf straps.arrangement.toNat, 15, 0, 5000, 20000, 3000, 4, 3⟩ ∧ t.dispatcher = ⟨.a, .b⟩ ∧
    (∀ e : Engine, (t.link e).state = (if t.settings.arrangement.uses e then .offering else .off) ∧
      (t.link e).inFlight = [] ∧ (t.link e).writing = [] ∧ (t.link e).mode = none ∧ (t.link e).agreedSet = none ∧
      (t.link e).plain = false ∧ (t.link e).draining = false ∧ (t.link e).hasBeenReady = false ∧
      (t.link e).stopCause = none ∧ (t.link e).pace = ⟨62536, 252, 0, false, false, false⟩ ∧
      (t.settings.arrangement.uses e = true → (t.link e).lastSent = [.offer 15 false] ∧
        (t.link e).timers = ⟨some 50, some 2000, none, none, none, none⟩)) ∧
    t.notices = ⟨1023, 0, false, none, none⟩ ∧ t.conditions = 0 ∧ ∀ k, t.counters.get k = 0

/-- The state after hardware reset, under the straps of State.reset (notes/assumptions/1.md) and under any others, meets
every invariant stated below, and nothing is due in it. -/
def Obligations.ResetMeetsTheInvariants : Prop :=
  ∀ s : State, (s = State.reset ∨ ∃ straps, s = State.atReset straps) →
    s.quiet ∧ s.queueSound ∧ s.ringSound ∧ s.runSound ∧ s.flightSound ∧ s.flightOrdered ∧ s.linesSound ∧ s.guidesSound ∧
      s.latchedSound ∧ s.tablesSound ∧ s.notices.callSound ∧ s.failoverSettled

/-- R20, R40, R69, R86, R129, R138, R139, R165, R188, R192, R207: LINE RESET and a RESET record bring about the same
soft reset; the first leaves the port idle, and the second leaves its DONE reply on the lines with the NOTICE flag of
the moment before. The model's choice are the fields of a link that R165 does not name (notes/assumptions/28.md) and
the fall of ACCEPT (notes/assumptions/27.md). -/
def Obligations.SoftResetsDiscardTheWork : Prop :=
  ∀ s : State, s.quiet →
    (∃ t, exec .lineReset s = .next t ∧ s.SoftResetTo t ∧
      t.lp = { s.lp with port := .idle, accept := false, fenceArmed := false }) ∧
    ∀ h : Hand, s.lp.port = .takingData h → h.parityError = none → endsHand .tableReset h = true →
      framingFault h.kept = none →
      ∃ t, exec .tableReset s = .next t ∧ s.SoftResetTo t ∧
        t.lp = { s.lp with port := .replying ⟨.done, false, s.noticeFlag, h.clamped⟩, fenceArmed := false }

/-- R7, R19, R40, R68: a port clear ends the transfer in hand, arms the clear fence and touches nothing else. The fall
of ACCEPT is the model's reading (notes/assumptions/27.md). -/
def Obligations.PortClearTouchesThePortAlone : Prop :=
  ∀ s : State, s.quiet →
    exec .clear s = .next { s with lp := { s.lp with port := .idle, accept := false, fenceArmed := true } }

/-! ### The Line Port -/

/-- R208: the five order bytes; every other value is an unknown order, which END refuses with ORDER. -/
def Obligations.OrderBytesNameTheOrders : Prop :=
  orderNamed 80 = some .print ∧ orderNamed 77 = some .move ∧ orderNamed 84 = some .table ∧ orderNamed 81 = some .query ∧
    orderNamed 83 = some .sync ∧ (∀ b : Byte, b ≠ 80 → b ≠ 77 → b ≠ 84 → b ≠ 81 → b ≠ 83 → orderNamed b = none) ∧
    (∀ (s : State) (d : Byte) (p : Bool), s.quiet → s.lp.port = .idle → parityGood d p = true → orderNamed d = none →
      exec (.orderByte true s.lp.unit d p) s =
        .next { s with lp := { s.lp with port := .takingData ⟨d, none, [], 0, none, false⟩, accept := true } }) ∧
    ∀ (s : State) (h : Hand), s.quiet → s.lp.port = .takingData h → h.kind = none → h.parityError = none →
      ∃ t, exec .unknownOrder s = .next t ∧ s.RefusedAs t h .order none 0

/-- R1, R3: what the Line Port ignores: a byte strobed without SELECT or for another unit, an order byte in any state but
IDLE, a data byte or END outside TAKING DATA, REPLY TAKEN outside RESPONDING and REPLYING. An END row whose order is not the
one in hand is another row's event (notes/assumptions/5.md). -/
def Obligations.SignalsThePortIgnores : Prop :=
  ∀ s : State, s.quiet →
    (∀ select unit data parity, (select = false ∨ unit ≠ s.lp.unit ∨ s.lp.port ≠ .idle) →
      exec (.orderByte select unit data parity) s = .next s) ∧
    (∀ data parity, (∀ h, s.lp.port ≠ .takingData h) → exec (.dataByte data parity) s = .next s) ∧
    (∀ c, isEndRow c = true → (∀ h, s.lp.port = .takingData h → endsHand c h = false) → exec c s = .next s) ∧
    ((∀ rest clamped, s.lp.port ≠ .responding rest clamped) → (∀ r, s.lp.port ≠ .replying r) →
      exec .replyTaken s = .next s)

/-- R3, R4, R5, R7: an order byte for this unit in IDLE: taken at once with a parity error, answered NOT READY,
accepted, or held in WAITING. The ACCEPT line is read as notes/assumptions/7.md says, and NOT READY beside a fenced
entry as notes/assumptions/22.md says. -/
def Obligations.OrderByteIsTakenUp : Prop :=
  roomNeeded .print = 2 ∧ roomNeeded .move = 2 ∧ roomNeeded .sync = 1 ∧ roomNeeded .table = 0 ∧ roomNeeded .query = 0 ∧
    ∀ (s : State) (d : Byte) (p : Bool), s.quiet → s.lp.port = .idle →
      (parityGood d p = false → exec (.orderByte true s.lp.unit d p) s =
        .next { s with lp := { s.lp with
          port := .takingData ⟨d, none, [], 0, some (0, d), false⟩, accept := true } }) ∧
      ∀ k : OrderKind, parityGood d p = true → orderNamed d = some k →
        ((k = .print ∨ k = .move) → s.held = true → s.freeEntries < 2 → exec (.orderByte true s.lp.unit d p) s =
          .next { s with lp := { s.lp with
            port := .replying ⟨.notReady, false, s.noticeFlag, false⟩, accept := false } }) ∧
        (¬((k = .print ∨ k = .move) ∧ s.held = true ∧ s.freeEntries < 2) →
          roomNeeded k ≤ s.freeEntries → s.fenceHolds = false → exec (.orderByte true s.lp.unit d p) s =
          .next { s with lp := { s.lp with
            port := .takingData ⟨d, some k, [], 0, none, false⟩, accept := true } }) ∧
        (¬((k = .print ∨ k = .move) ∧ s.held = true ∧ s.freeEntries < 2) →
          (s.freeEntries < roomNeeded k ∨ s.fenceHolds = true) → exec (.orderByte true s.lp.unit d p) s =
          .next { s with lp := { s.lp with port := .waitingOrder d k, accept := false } })

/-- R3, R6, R8: a data byte in TAKING DATA is counted, and kept with its parity noted, or discarded with the clamped
flag set; the one exception is the kind byte of a stream table, of good parity, that meets a full queue (R6). The kind byte
of a front table or of no kind, one with a parity error, and one met by a free entry are accepted at once. -/
def Obligations.DataBytesAreKeptOrDiscarded : Prop :=
  keepLimit (some .print) = some 161 ∧ keepLimit (some .move) = some 1 ∧ keepLimit (some .query) = some 2 ∧
    keepLimit (some .sync) = some 0 ∧ keepLimit (some .table) = none ∧ keepLimit none = some 0 ∧
    (∀ d : Byte, kindIsStream d = true ↔ d = 3 ∨ d = 4 ∨ d = 5 ∨ d = 6) ∧
    (∀ s : State, s.freeEntries = 16 - s.queue.length) ∧
    (∀ (s : State) (h : Hand) (d : Byte) (p : Bool), s.holdsKind h d p = true ↔
      h.kind = some .table ∧ h.count = 0 ∧ parityGood d p = true ∧ (d = 3 ∨ d = 4 ∨ d = 5 ∨ d = 6) ∧
        16 ≤ s.queue.length) ∧
    (∀ (s : State) (h : Hand) (d : Byte) (p : Bool), s.quiet → s.lp.port = .takingData h → h.kind = some .table →
      h.count = 0 → h.kept = [] → h.parityError = none →
      parityGood d p = false ∨ (d ≠ 3 ∧ d ≠ 4 ∧ d ≠ 5 ∧ d ≠ 6) ∨ s.queue.length < 16 →
      exec (.dataByte d p) s = .next { s with lp := { s.lp with
        port := .takingData { h with
          kept := [d], count := 1, parityError := if parityGood d p then none else some (1, d) }
        accept := true } }) ∧
    ∀ (s : State) (h : Hand) (d : Byte) (p : Bool), s.quiet → s.lp.port = .takingData h →
      ¬(h.kind = some .table ∧ h.count = 0 ∧ parityGood d p = true ∧ (d = 3 ∨ d = 4 ∨ d = 5 ∨ d = 6) ∧
        16 ≤ s.queue.length) →
      ∃ g : Hand,
        exec (.dataByte d p) s = .next { s with lp := { s.lp with port := .takingData g, accept := true } } ∧
        g.orderByte = h.orderByte ∧ g.kind = h.kind ∧ g.count = h.count + 1 ∧
        ((∀ n, keepLimit h.kind = some n → h.kept.length < n) →
          g.kept = h.kept ++ [d] ∧ g.clamped = h.clamped ∧
          (∀ e, h.parityError = some e → g.parityError = some e) ∧
          (h.parityError = none → parityGood d p = true → g.parityError = none) ∧
          (h.parityError = none → parityGood d p = false → g.parityError = some (min 255 (h.count + 1), d))) ∧
        ∀ n, keepLimit h.kind = some n → n ≤ h.kept.length →
          g.kept = h.kept ∧ g.parityError = h.parityError ∧ g.clamped = (h.clamped || h.kind.isSome)

/-- R4, R6, R7, R38, R61: the kind byte of a stream table waits for a free entry; a waiting order byte waits for its
room and for the fence; and an owed form end takes the first freed place. ORDER_ACCEPT and OWED_FORM_END are due
steps. The waiting kind byte and the fence: notes/assumptions/21.md. That ORDER_ACCEPT and OWED_FORM_END change nothing
when they are not due is the model's choice (notes/assumptions/4.md). -/
def Obligations.WaitingBytesAndOwedMarkers : Prop :=
  ∀ s : State,
    (∀ h d p, s.quiet → s.lp.port = .takingData h → h.kind = some .table → h.count = 0 → kindIsStream d = true →
      parityGood d p = true → s.freeEntries = 0 →
      exec (.dataByte d p) s = .next { s with lp := { s.lp with port := .waitingKind h d, accept := false } }) ∧
    (∀ h k, s.forms.owed = none → s.lp.port = .waitingKind h k → h.kind = some .table → h.kept = [] → h.count = 0 →
      h.parityError = none → 0 < s.freeEntries →
      exec .orderAccept s = .next { s with lp := { s.lp with
        port := .takingData { h with kept := [k], count := 1 }, accept := true } }) ∧
    (∀ b k, s.forms.owed = none → s.lp.port = .waitingOrder b k → roomNeeded k ≤ s.freeEntries →
      s.fenceHolds = false →
      exec .orderAccept s = .next { s with lp := { s.lp with
        port := .takingData ⟨b, some k, [], 0, none, false⟩, accept := true } }) ∧
    (s.forms.owed = none → s.acceptDue = false → exec .orderAccept s = .next s) ∧
    (∀ m, s.forms.owed = some m → s.queue.length < 16 →
      exec .owedFormEnd s =
        .next { s with queue := s.queue ++ [.formEnd m], forms := { s.forms with owed := none } }) ∧
    ((s.forms.owed = none ∨ 16 ≤ s.queue.length) → exec .owedFormEnd s = .next s)

/-- R12, R13: REPLY TAKEN brings the next response byte, then DONE, then IDLE; and what stands on DATA meanwhile, with odd
parity on PARITY while REPLY VALID is raised. -/
def Obligations.RepliesAndResponsesAreTaken : Prop :=
  (∀ d : Byte, parityGood d (oddParity d) = true) ∧
    ∀ s : State,
      (∀ b more clamped, s.lp.port = .responding (b :: more) clamped → s.lp.dataLines = some b) ∧
      (∀ r, s.lp.port = .replying r → s.lp.dataLines = some r.toByte) ∧
      (∀ d, s.lp.dataLines = some d → s.lp.replyValid = true ∧ s.lp.parityLine = some (oddParity d)) ∧
      (s.lp.dataLines = none → s.lp.replyValid = false ∧ s.lp.parityLine = none) ∧
      (s.quiet →
        (∀ a b more clamped, s.lp.port = .responding (a :: b :: more) clamped →
          exec .replyTaken s = .next { s with lp := { s.lp with port := .responding (b :: more) clamped } }) ∧
        (∀ b clamped, s.lp.port = .responding [b] clamped →
          exec .replyTaken s =
            .next { s with lp := { s.lp with port := .replying ⟨.done, false, s.noticeFlag, clamped⟩ } }) ∧
        ∀ r, s.lp.port = .replying r → exec .replyTaken s = .next { s with lp := { s.lp with port := .idle } })

/-- R209, R210: the layouts of the motion byte and of the reply byte; any other motion byte is refused with MOTION; and a
MOVE takes no account of bit 7. -/
def Obligations.MotionAndReplyByteLayouts : Prop :=
  (∀ r : Reply,
    r.toByte.toNat =
        (match r.kind with
          | .done => 0
          | .check => 1
          | .notReady => 2) +
          (if r.formsEnd then 4 else 0) + (if r.notice then 8 else 0) + (if r.clamped then 16 else 0)) ∧
  (∀ (b : Byte) (m : Motion), motionOf b = some m ↔
    b.getLsbD 4 = false ∧ m.after = b.getLsbD 7 ∧
      ((b.toNat / 32 % 4 = 0 ∧ b.toNat % 16 ≤ 3 ∧ m.action = .space (b.toNat % 16)) ∨
        (b.toNat / 32 % 4 = 1 ∧ 1 ≤ b.toNat % 16 ∧ b.toNat % 16 ≤ 12 ∧ m.action = .skip (b.toNat % 16)))) ∧
    (∀ (c : Instr) (s : State) (h : Hand) (b : Byte), s.quiet → (c = .print ∨ c = .move) →
      s.lp.port = .takingData h → endsHand c h = true → h.parityError = none → h.kept.head? = some b →
      motionOf b = none → ∃ t, exec c s = .next t ∧ s.RefusedAs t h .motion (some 1) b.toNat) ∧
    ∀ b : Byte, (motionOf (b ^^^ 128)).map (fun m => m.action) = (motionOf b).map fun m => m.action

/-- R9, R10, R14, R28, R48, R190: the refusals of PARITY for every order, and of MOTION, NO STOP and DATA for PRINT and MOVE,
in their order; a refused order changes nothing beyond its check record, its count, its reply and TABLE REFUSED. -/
def Obligations.OrdersAreRefused : Prop :=
  ∀ (c : Instr) (s : State) (h : Hand), s.quiet → s.lp.port = .takingData h → endsHand c h = true →
    (∀ e, h.parityError = some e → ∃ t, exec c s = .next t ∧ s.RefusedAs t h .parity (some e.1) e.2.toNat) ∧
    (h.parityError = none → (c = .print ∨ c = .move) →
      (h.kept = [] → ∃ t, exec c s = .next t ∧ s.RefusedAs t h .motion none 0) ∧
      ∀ b m, h.kept.head? = some b → motionOf b = some m →
        (∀ k, m.action = .skip k → s.forms.table.hasChannel k = false →
          ∃ t, exec c s = .next t ∧ s.RefusedAs t h .noStop (some 1) k) ∧
        ((∀ k, m.action = .skip k → s.forms.table.hasChannel k = true) → c = .print →
          ∀ p code, s.map.firstRefused h.kept.tail = some (p, code) →
            ∃ t, exec c s = .next t ∧ s.RefusedAs t h .data (some (p + 1)) code.toNat))

/-- R10, R15, R30, R31, R33, R47, R52: a PRINT that passes its tests, and a MOVE: the motion and the placement in the order of
the timing, the entries queued, the counts, the reply, and nothing else. -/
def Obligations.MotionsAreCarriedOut : Prop :=
  ∀ (s : State) (h : Hand) (b : Byte) (rest : List Byte) (m : Motion), s.quiet → s.lp.port = .takingData h →
    h.parityError = none → h.kept = b :: rest → motionOf b = some m →
    (∀ k, m.action = .skip k → s.forms.table.hasChannel k = true) →
    (h.kind = some .print → s.map.firstRefused rest = none →
      ∃ t, exec .print s = .next t ∧
        t = { s with
          forms := t.forms
          queue := t.queue
          lp := { s.lp with port := .replying ⟨.done, s.forms.formsEnd m.action, s.noticeFlag, h.clamped⟩ }
          counters := ((s.count .unprintable (s.map.replaced rest)).count .linesAccepted 1).counters } ∧
        (m.after = false →
          t.forms = ((s.forms.move m.action).1.place (s.map.translate rest) h.clamped).1 ∧
          t.queue = s.queue ++ ((s.forms.move m.action).2.map .formEnd ++
            ((s.forms.move m.action).1.place (s.map.translate rest) h.clamped).2)) ∧
        (m.after = true →
          t.forms = ((s.forms.place (s.map.translate rest) h.clamped).1.move m.action).1 ∧
          t.queue = s.queue ++ ((s.forms.place (s.map.translate rest) h.clamped).2 ++
            ((s.forms.place (s.map.translate rest) h.clamped).1.move m.action).2.map .formEnd))) ∧
    (h.kind = some .move →
      exec .move s = .next { s with
        forms := (s.forms.move m.action).1
        queue := s.queue ++ (s.forms.move m.action).2.map .formEnd
        lp := { s.lp with port := .replying ⟨.done, s.forms.formsEnd m.action, s.noticeFlag, h.clamped⟩ } })

/-! ### The virtual form and the text -/

/-- R24, R26, R27, R28, R35, R36: where SPACE n and SKIP c end, the markers they queue, and the touched flag and layer count they
leave. SKIP c ends on the first line arrived on that carries a stop of c, within one form round. Either crosses the end of
the form at most once. -/
def Obligations.MotionsEndWhereTheyShould : Prop :=
  (∀ (f : FormsTable) (line channel : Nat),
    (f.carries line channel = true ↔ ∃ st ∈ f.stops, st.line = line ∧ st.channel = channel) ∧
      (f.hasChannel channel = true ↔ ∃ st ∈ f.stops, st.channel = channel)) ∧
  ∀ f : Forms, f.inRange →
    f.move (.space 0) = ({ f with touched := true }, []) ∧
    (∀ action k,
      (action = .space k ∧ 1 ≤ k ∧ k ≤ 3 ∨
        ∃ c, action = .skip c ∧ 1 ≤ k ∧ k ≤ f.table.length ∧ f.table.carries (f.arrival k) c = true ∧
          ∀ j, 1 ≤ j → j < k → f.table.carries (f.arrival j) c = false) →
      (f.line + k ≤ f.table.length → f.arrival k = f.line + k ∧
        f.move action = ({ f with line := f.line + k, layers := 0, touched := true }, [])) ∧
      (f.table.length < f.line + k → f.arrival k = f.line + k - f.table.length ∧
        f.move action =
          ({ f with
              form := if f.form = 65535 then 1 else f.form + 1
              line := f.line + k - f.table.length
              layers := 0
              touched := decide (f.line + k ≠ f.table.length + 1) },
            [⟨f.form, f.table.length, f.table.pitch⟩]))) ∧
    ∀ c, (∃ st ∈ f.table.stops, st.channel = c ∧ 1 ≤ st.line ∧ st.line ≤ f.table.length) →
      ∃ k, 1 ≤ k ∧ k ≤ f.table.length ∧ f.table.carries (f.arrival k) c = true ∧
        ∀ j, 1 ≤ j → j < k → f.table.carries (f.arrival j) c = false

/-- R29, R32, R33, R34: the FORMS END flag of a motion, and what a placement queues and changes. -/
def Obligations.FormsEndAndPlacement : Prop :=
  (∀ (f : Forms) (action : MotionAction), f.formsEnd action = true ↔
    ∃ n c k, action = .space n ∧ f.table.endChannel = some c ∧ 1 ≤ k ∧ k ≤ n ∧
      f.table.carries (f.arrival k) c = true) ∧
    ∀ (f : Forms) (clamped : Bool), f.place [] clamped = (f, []) ∧
      ∀ text : Text, text ≠ [] → ∃ layer, layer = (if f.layers < 3 then f.layers + 1 else 3) ∧
        f.place text clamped =
          ({ f with layers := layer, touched := true },
            [.placedLine ⟨f.form, f.line, layer, text, clamped, f.table.length, f.table.pitch⟩])

/-- R47 to R52: every position is translated by its own code; the text ends at its last glyph and drops blanks only; the
replaced codes are counted whether or not they are trimmed; and under REFUSE, and then only, the lowest position with an
UNPRINTABLE code refuses the text. -/
def Obligations.TranslationAndTrim : Prop :=
  ∀ (m : CharMap) (text : List Byte),
    (∀ c : Byte, m.position c = match m.entry c with
      | .glyph g => some g
      | .blank => none
      | .unprintable => if m.action = .mark then some m.substitute else none) ∧
    (m.translate text).length ≤ text.length ∧
    (∀ p, p < (m.translate text).length → (m.translate text)[p]? = (text[p]?).map m.position) ∧
    (∀ p, (m.translate text).length ≤ p → ∀ c, text[p]? = some c → m.position c = none) ∧
    (m.translate text ≠ [] → ∃ g, (m.translate text).getLast? = some (some g)) ∧
    m.replaced text = (text.filter fun c => m.entry c == .unprintable).length ∧
    (m.firstRefused text = none ↔ (m.action = .refuse → ∀ c ∈ text, m.entry c ≠ .unprintable)) ∧
    ∀ p c, m.firstRefused text = some (p, c) ↔
      m.action = .refuse ∧ 1 ≤ p ∧ text[p - 1]? = some c ∧ m.entry c = .unprintable ∧
        ∀ q d, q < p - 1 → text[q]? = some d → m.entry d ≠ .unprintable

/-! ### SYNC, tables, queries -/

/-- R16, R17, R18: a SYNC queues its marker and withholds its reply; SYNC_DONE answers it DONE in the ring watch on an empty
ring; ENGINE_STOPPED answers it CHECK while sheets stand in the ring and no engine is able. That SYNC_DONE and
ENGINE_STOPPED change nothing when they are not due is the model's choice (notes/assumptions/4.md). -/
def Obligations.SyncIsWithheldAndAnswered : Prop :=
  ∀ s : State,
    (∀ h, s.quiet → s.lp.port = .takingData h → h.kind = some .sync → h.parityError = none →
      ∃ t, exec .sync s = .next t ∧ t.syncPending = true ∧
        t = { s with queue := s.queue ++ [.sync], lp := { s.lp with port := .syncWithheld .markerQueued h.clamped } }) ∧
    (∀ clamped, s.lp.port = .syncWithheld .ringWatch clamped → sheetsIn s.ring = 0 →
      exec .syncDone s = .next { s with lp := { s.lp with port := .replying ⟨.done, false, s.noticeFlag, clamped⟩ } }) ∧
    (s.syncDoneDue = false → exec .syncDone s = .next s) ∧
    (∀ phase clamped, s.lp.port = .syncWithheld phase clamped → 1 ≤ sheetsIn s.ring → s.held = true →
      exec .engineStopped s = .next { s with
        lp := { s.lp with
          check := some ⟨.engineStopped, 83, none, sheetsIn s.ring⟩
          port := .replying ⟨.check, false, s.noticeFlag, clamped⟩ }
        counters := s.counters.set 1 (countUp (s.counters.get 1) 1) }) ∧
    (s.syncFailDue = false → exec .engineStopped s = .next s)

/-- R11, R12, R14, R189, R190, R193: the framing tests and the range tests of every TABLE row, the selector tests of every
QUERY row, and what the two rows of nothing answer. The range tests are those of R2, R23, R44, R73, R76, R91, R110, R162,
R204 and R205, in their order, with the byte position and the detail of the first that fails. -/
def Obligations.BadRecordsAndSelectorsAreRefused : Prop :=
  (∀ kept : List Byte, kept.length < 3 → framingFault kept = some (none, 0)) ∧
    (∀ (k hi lo : Byte) (body : List Byte),
      ((k = 0 ∨ 13 ≤ k.toNat) → framingFault (k :: hi :: lo :: body) = some (some 1, k.toNat)) ∧
      (1 ≤ k.toNat → k.toNat ≤ 12 → body.length ≠ hi.toNat * 256 + lo.toNat →
        framingFault (k :: hi :: lo :: body) = some (some 2, min 255 body.length)) ∧
      (1 ≤ k.toNat → k.toNat ≤ 12 → body.length = hi.toNat * 256 + lo.toNat → bodyLengthGood k body.length = false →
        framingFault (k :: hi :: lo :: body) = some (some 2, k.toNat)) ∧
      (1 ≤ k.toNat → k.toNat ≤ 12 → body.length = hi.toNat * 256 + lo.toNat → bodyLengthGood k body.length = true →
        framingFault (k :: hi :: lo :: body) = none)) ∧
    (∀ (k : Byte) (n : Nat), bodyLengthGood k n = true ↔
      (k, n) ∈ ([(1, 258), (3, 240), (4, 5), (5, 0), (6, 23), (7, 11), (8, 3), (9, 2), (10, 1), (11, 2), (12, 0)] :
        List (Byte × Nat)) ∨ k = 2 ∧ 5 ≤ n ∧ n ≤ 67 ∧ n % 2 = 1) ∧
    (selectorFault [] = some (none, 0) ∧ selectorFault [5] = some (some 2, 0) ∧ selectorFault [6] = some (some 2, 0) ∧
      ∀ (b : Byte) (rest : List Byte),
        ((b = 0 ∨ 8 ≤ b.toNat) → selectorFault (b :: rest) = some (some 1, b.toNat)) ∧
        (b ∈ ([1, 2, 3, 4, 7] : List Byte) → selectorFault (b :: rest) = none) ∧
        (b = 5 ∨ b = 6 → ∀ (x : Byte) (more : List Byte), rest = x :: more →
          selectorFault (b :: rest) =
            if b = 5 ∧ (1 ≤ x.toNat ∧ x.toNat ≤ 8 ∨ x = 10) ∨ b = 6 ∧ x.toNat ≤ 1 then none
            else some (some 2, x.toNat))) ∧
    (∀ body : List Byte,
      (unitFault body = if 15 < byteAt body 0 then some (4, byteAt body 0) else none) ∧
      (noticeClearFault body = if 1023 < wordAt body 0 then some (4, min 255 (wordAt body 0 / 100)) else none) ∧
      (noticeControlFault body =
        if 1023 < wordAt body 0 then some (4, min 255 (wordAt body 0 / 100))
        else if 1 < byteAt body 2 then some (6, byteAt body 2) else none) ∧
      (∀ g, g < 240 → 251 ≤ byteAt body g → (∀ j, j < g → byteAt body j ≤ 250) →
        collationFault body = some (4 + g, g)) ∧
      ((∀ g, g < 240 → byteAt body g ≤ 250) → collationFault body = none) ∧
      (2 < byteAt body 0 → charMapFault body = some (4, byteAt body 0)) ∧
      (byteAt body 0 ≤ 2 → 239 < byteAt body 1 → charMapFault body = some (5, byteAt body 1)) ∧
      (byteAt body 0 ≤ 2 → byteAt body 1 ≤ 239 →
        (∀ k, k < 256 → 242 ≤ byteAt body (2 + k) → (∀ j, j < k → byteAt body (2 + j) ≤ 241) →
          charMapFault body = some (min 255 (6 + k), k)) ∧
        ((∀ k, k < 256 → byteAt body (2 + k) ≤ 241) → charMapFault body = none))) ∧
    (∀ body : List Byte, ∀ start len first last glyph : Nat, start = byteAt body 0 → len = byteAt body 1 →
      first = byteAt body 2 → last = byteAt body 3 → glyph = byteAt body 4 →
      layoutFault body =
        if start = 0 ∨ 160 < start then some (4, start)
        else if len = 0 ∨ 40 < len then some (5, len)
        else if 161 < start + len then some (5, len)
        else if 160 < first then some (6, first)
        else if first = 0 ∧ last ≠ 0 then some (7, last)
        else if 1 ≤ first ∧ (last ≤ first ∨ 160 < last) then some (7, last)
        else if 1 ≤ first ∧ 239 < glyph then some (8, glyph) else none) ∧
    (∀ body : List Byte, settingsFault body =
      if 3 < byteAt body 0 then some (4, byteAt body 0)
      else if byteAt body 1 = 0 ∨ 15 < byteAt body 1 then some (5, byteAt body 1)
      else if 50 < byteAt body 2 then some (6, byteAt body 2)
      else if wordAt body 3 < 1000 ∨ 10000 < wordAt body 3 then some (7, min 255 (wordAt body 3 / 100))
      else if wordAt body 5 < 5000 ∨ 60000 < wordAt body 5 then some (9, min 255 (wordAt body 5 / 100))
      else if wordAt body 7 < 100 ∨ 60000 < wordAt body 7 then some (11, min 255 (wordAt body 7 / 100))
      else if byteAt body 9 = 0 then some (13, 0)
      else if byteAt body 10 = 0 ∨ 7 < byteAt body 10 then some (14, byteAt body 10) else none) ∧
    (∀ body : List Byte, ∀ across down : Nat,
      across = wordAt body 5 + byteAt body 0 * wordAt body 10 + (byteAt body 0 - 1) * wordAt body 12 →
      down = wordAt body 7 + wordAt body 14 + wordAt body 16 →
      planFault body =
        if byteAt body 0 = 0 ∨ 4 < byteAt body 0 then some (4, byteAt body 0)
        else if wordAt body 1 < 6000 ∨ 13200 < wordAt body 1 then some (5, min 255 (wordAt body 1 / 100))
        else if wordAt body 3 < 8400 ∨ 20400 < wordAt body 3 then some (7, min 255 (wordAt body 3 / 100))
        else if 2400 < wordAt body 5 then some (9, min 255 (wordAt body 5 / 100))
        else if 2400 < wordAt body 7 then some (11, min 255 (wordAt body 7 / 100))
        else if byteAt body 9 < 40 ∨ 160 < byteAt body 9 then some (13, byteAt body 9)
        else if wordAt body 10 < 600 ∨ 9600 < wordAt body 10 then some (14, min 255 (wordAt body 10 / 100))
        else if 1200 < wordAt body 12 then some (16, min 255 (wordAt body 12 / 100))
        else if 1200 < wordAt body 14 then some (18, min 255 (wordAt body 14 / 100))
        else if wordAt body 16 < 1200 ∨ 16800 < wordAt body 16 then some (20, min 255 (wordAt body 16 / 100))
        else if 4 < byteAt body 18 then some (22, byteAt body 18)
        else if wordAt body 1 < across then some (14, min 255 ((across - wordAt body 1 + 99) / 100))
        else if wordAt body 3 < down then some (20, min 255 ((down - wordAt body 3 + 99) / 100))
        else if byteAt body 19 = 0 ∨ 40 < byteAt body 19 then some (23, byteAt body 19)
        else if 9999 < wordAt body 20 then some (24, min 255 (wordAt body 20 / 100))
        else if 7 < byteAt body 22 then some (26, byteAt body 22) else none) ∧
    (∀ (body : List Byte) (length pitch end_ : Nat) (stops : List Stop), length = byteAt body 0 → pitch = byteAt body 1 →
      end_ = byteAt body 2 → stops = stopPairs (body.drop 3) →
      (stops.length = (body.length - 3) / 2 ∧
        ∀ i, i < stops.length → stops[i]? = some ⟨byteAt body (3 + 2 * i), byteAt body (4 + 2 * i)⟩) ∧
      (length < 12 ∨ 144 < length → formsFault body = some (4, length)) ∧
      (12 ≤ length → length ≤ 144 →
        (pitch ≠ 6 → pitch ≠ 8 → pitch ≠ 10 → formsFault body = some (5, pitch)) ∧
        (pitch = 6 ∨ pitch = 8 ∨ pitch = 10 →
          (12 < end_ → formsFault body = some (6, end_)) ∧
          (end_ ≤ 12 → ∀ good : Nat → Prop,
            (∀ i, good i ↔ ∃ st, stops[i]? = some st ∧ 1 ≤ st.line ∧ st.line ≤ length ∧ 1 ≤ st.channel ∧
              st.channel ≤ 12 ∧ st ∉ stops.take i) →
            (∀ i st, stops[i]? = some st → (∀ j, j < i → good j) →
              (st.line = 0 ∨ length < st.line → formsFault body = some (7 + 2 * i, st.line)) ∧
              (1 ≤ st.line → st.line ≤ length →
                (st.channel = 0 ∨ 12 < st.channel → formsFault body = some (8 + 2 * i, st.channel)) ∧
                (1 ≤ st.channel → st.channel ≤ 12 → st ∈ stops.take i →
                  formsFault body = some (7 + 2 * i, st.line)))) ∧
            ((∀ i, i < stops.length → good i) →
              formsFault body =
                if end_ ≠ 0 ∧ ∀ st ∈ stops, st.channel ≠ end_ then some (6, end_) else none))))) ∧
    (rangeFault .tableCharacterMap = charMapFault ∧ rangeFault .tableForms = formsFault ∧
      rangeFault .tableCollation = collationFault ∧ rangeFault .tableFieldLayout = layoutFault ∧
      rangeFault .tableSheetPlan = planFault ∧ rangeFault .tableLinkSettings = settingsFault ∧
      rangeFault .tableNoticeControl = noticeControlFault ∧ rangeFault .tableNoticeClear = noticeClearFault ∧
      rangeFault .tableUnit = unitFault ∧
      ∀ body, rangeFault .tableKeyReset body = none ∧ rangeFault .tableCounterClear body = none ∧
        rangeFault .tableReset body = none) ∧
    ∀ (c : Instr) (s : State) (h : Hand), s.quiet → s.lp.port = .takingData h → endsHand c h = true →
      h.parityError = none →
      (h.kind = some .table → ∀ f, framingFault h.kept = some f →
        ∃ t, exec c s = .next t ∧ s.RefusedAs t h .tableFormat f.1 f.2) ∧
      (h.kind = some .table → framingFault h.kept = none → ∀ f, rangeFault c (h.kept.drop 3) = some f →
        ∃ t, exec c s = .next t ∧ s.RefusedAs t h .tableRange (some f.1) f.2) ∧
      (c = .tableKindUnknown → ∃ f t, framingFault h.kept = some f ∧ exec c s = .next t ∧
        s.RefusedAs t h .tableFormat f.1 f.2) ∧
      (h.kind = some .query → ∀ f, selectorFault h.kept = some f →
        ∃ t, exec c s = .next t ∧ s.RefusedAs t h .order f.1 f.2)

/-- R7, R11, R64, R65, R73, R76, R87, R90, R110: the fields of a stream record, byte by byte; a good one joins the tail
of the queue as one entry, fenced when the fence is armed, which it disarms, and changes no table. -/
def Obligations.StreamTablesAreQueued : Prop :=
  (∀ body : List Byte,
    (∀ g : Glyph, (collationOf body).get g = if byteAt body g.val = 0 then none else some (byteAt body g.val)) ∧
      (layoutOf body).keyStart = byteAt body 0 ∧ (layoutOf body).keyLength = byteAt body 1 ∧
      (byteAt body 2 = 0 → (layoutOf body).zone = none) ∧
      (byteAt body 2 ≠ 0 → ∃ z, (layoutOf body).zone = some z ∧ z.first = byteAt body 2 ∧ z.last = byteAt body 3 ∧
        z.glyph.val = byteAt body 4 % 240) ∧
      planOf body = ⟨byteAt body 0, wordAt body 1, wordAt body 3, wordAt body 5, wordAt body 7, byteAt body 9,
        wordAt body 10, wordAt body 12, wordAt body 14, wordAt body 16, byteAt body 18, byteAt body 19,
        if wordAt body 20 = 0 then none else some (wordAt body 20), (planOf body).marks⟩ ∧
      (byteAt body 22 ≤ 7 → byteAt body 22 = (planOf body).marks.outOfOrder.toNat +
        2 * (planOf body).marks.duplicate.toNat + 4 * (planOf body).marks.overLine.toNat)) ∧
  ∀ (c : Instr) (s : State) (h : Hand) (table : StreamTable), s.quiet → s.lp.port = .takingData h →
    endsHand c h = true → h.parityError = none → framingFault h.kept = none → rangeFault c (h.kept.drop 3) = none →
    (c = .tableCollation ∧ table = .collation (collationOf (h.kept.drop 3)) ∨
      c = .tableFieldLayout ∧ table = .fieldLayout (layoutOf (h.kept.drop 3)) ∨
      c = .tableSheetPlan ∧ table = .sheetPlan (planOf (h.kept.drop 3)) ∨
      c = .tableKeyReset ∧ table = .keyReset) →
    exec c s = .next { s with
      queue := s.queue ++ [.streamTable table s.lp.fenceArmed]
      lp := { s.lp with
        fenceArmed := false
        port := .replying ⟨.done, false, s.noticeFlag, h.clamped⟩ } }

/-- R2, R44, R45, R191, R204, R205: the entries of a CHARACTER MAP record, byte by byte; and what a good CHARACTER MAP,
UNIT, COUNTER CLEAR, NOTICE CLEAR and NOTICE CONTROL record changes, and that it changes nothing else. -/
def Obligations.FrontTablesTakeEffect : Prop :=
  (∀ body : List Byte,
    (byteAt body 0 = 0 → (charMapOf body).action = .blank) ∧ (byteAt body 0 = 1 → (charMapOf body).action = .mark) ∧
      (byteAt body 0 = 2 → (charMapOf body).action = .refuse) ∧
      (byteAt body 1 ≤ 239 → (charMapOf body).substitute.val = byteAt body 1) ∧
      ∀ code : Byte, ∀ v, v = byteAt body (2 + code.toNat) →
        (∀ g : Glyph, g.val = v → (charMapOf body).entry code = .glyph g) ∧
        (v = 240 → (charMapOf body).entry code = .blank) ∧ (v = 241 → (charMapOf body).entry code = .unprintable)) ∧
  ∀ (s : State) (h : Hand) (body : List Byte), s.quiet → s.notices.callSound → s.lp.port = .takingData h →
    h.parityError = none → framingFault h.kept = none → body = h.kept.drop 3 →
    (endsHand .tableCharacterMap h = true → charMapFault body = none →
      exec .tableCharacterMap s = .next { s with
        map := charMapOf body
        lp := { s.lp with port := .replying ⟨.done, false, s.noticeFlag, h.clamped⟩ } }) ∧
    (endsHand .tableUnit h = true → unitFault body = none →
      exec .tableUnit s = .next { s with
        lp := { s.lp with
          unit := BitVec.ofNat 4 (byteAt body 0)
          port := .replying ⟨.done, false, s.noticeFlag, h.clamped⟩ } }) ∧
    (endsHand .tableCounterClear h = true →
      ∃ t, exec .tableCounterClear s = .next t ∧
        t = { s with
          counters := t.counters
          lp := { s.lp with port := .replying ⟨.done, false, s.noticeFlag, h.clamped⟩ } } ∧
        ∀ k : Fin 16, t.counters.get k = if (wordAt body 0).testBit k.val then 0 else s.counters.get k) ∧
    (endsHand .tableNoticeClear h = true → noticeClearFault body = none →
      ∃ t, exec .tableNoticeClear s = .next t ∧
        t = { s with
          notices := t.notices
          lp := { s.lp with port := .replying ⟨.done, false, t.noticeFlag, h.clamped⟩ } } ∧
        t.notices.mask = s.notices.mask ∧ t.notices.confirmed = s.notices.confirmed ∧
        ∀ x : Source10, inSet t.notices.pending x =
          (inSet s.notices.pending x && !((wordAt body 0).testBit x.number && !inSet s.conditions x))) ∧
    (endsHand .tableNoticeControl h = true → noticeControlFault body = none →
      ∃ t, exec .tableNoticeControl s = .next t ∧
        t = { s with
          notices := t.notices
          lp := { s.lp with port := .replying ⟨.done, false, t.noticeFlag, h.clamped⟩ } } ∧
        t.notices.mask = BitVec.ofNat 10 (wordAt body 0) ∧ t.notices.confirmed = (byteAt body 2 == 1) ∧
        ∀ x : Source10, inSet t.notices.pending x =
          (inSet s.notices.pending x &&
            !(s.notices.confirmed && byteAt body 2 != 1 && inSet conditionSources x && !inSet s.conditions x)))

/-- R23, R24, R37, R38: the fields of a FORMS record, byte by byte; a good one puts its table in force with line 1; a
touched form is ended by a marker, queued in a free entry or owed; an untouched form keeps its number. -/
def Obligations.FormsLoadEndsATouchedForm : Prop :=
  (∀ body : List Byte,
    (formsOf body).length = byteAt body 0 ∧
      (byteAt body 1 = 6 ∨ byteAt body 1 = 8 ∨ byteAt body 1 = 10 → (byteAt body 1, (formsOf body).pitch) ∈
        ([(6, .lpi6), (8, .lpi8), (10, .lpi10)] : List (Nat × LinePitch)))) ∧
  (∀ body : List Byte, (formsOf body).endChannel = (if byteAt body 2 = 0 then none else some (byteAt body 2)) ∧
    (formsOf body).stops.length = (body.length - 3) / 2 ∧
    ∀ i, i < (body.length - 3) / 2 →
      (formsOf body).stops[i]? = some ⟨byteAt body (3 + 2 * i), byteAt body (4 + 2 * i)⟩) ∧
  ∀ (s : State) (h : Hand) (table : FormsTable), s.quiet → s.notices.callSound → s.lp.port = .takingData h →
    endsHand .tableForms h = true → h.parityError = none → framingFault h.kept = none →
    formsFault (h.kept.drop 3) = none → table = formsOf (h.kept.drop 3) →
    ∃ t, exec .tableForms s = .next t ∧
      t = { s with
        forms := t.forms
        queue := t.queue
        lp := { s.lp with port := .replying ⟨.done, false, s.noticeFlag, h.clamped⟩ } } ∧
      (s.forms.touched = false →
        t.forms = { s.forms with table := table, line := 1, layers := 0 } ∧ t.queue = s.queue) ∧
      (s.forms.touched = true →
        t.forms = { s.forms with
          table := table
          form := if s.forms.form = 65535 then 1 else s.forms.form + 1
          line := 1
          touched := false
          layers := 0
          owed := if s.queue.length < 16 then s.forms.owed
            else some ⟨s.forms.form, s.forms.table.length, s.forms.table.pitch⟩ } ∧
        t.queue =
          if s.queue.length < 16 then s.queue ++ [.formEnd ⟨s.forms.form, s.forms.table.length, s.forms.table.pitch⟩]
          else s.queue)

/-- R160, R162, R163, R164: the fields of a LINK SETTINGS record, byte by byte; a good one replaces the settings; an unchanged arrangement and set leave the
links; a changed set restarts agreement or begins a drain by the state of each link; a changed arrangement takes links
into use or turns them off; a record that changes both acts on the arrangement first, and a link it stops using goes
OFF or works out its sheets and is not drained. The model's readings are the drain of a link that an earlier record
stopped using (notes/assumptions/13.md) and, for a record that changes both, a failover check after each of the two
changes and no grant between them (notes/assumptions/14.md): the grants that the record brings about are due when both
changes have been acted on. -/
def Obligations.LinkSettingsActOnTheLinks : Prop :=
  (∀ body : List Byte,
    settingsOf body = ⟨(settingsOf body).arrangement, BitVec.ofNat 4 (byteAt body 1), 100 * byteAt body 2, wordAt body 3,
      wordAt body 5, wordAt body 7, byteAt body 9, byteAt body 10⟩ ∧
    (byteAt body 0 ≤ 3 → (byteAt body 0, (settingsOf body).arrangement) ∈
      ([(0, .singleA), (1, .singleB), (2, .standby), (3, .tandem)] : List (Nat × Arrangement)))) ∧
  ∀ (s : State) (h : Hand) (c : LinkSettings), s.quiet → s.lp.port = .takingData h →
    endsHand .tableLinkSettings h = true → h.parityError = none → framingFault h.kept = none →
    settingsFault (h.kept.drop 3) = none → c = settingsOf (h.kept.drop 3) →
    ∃ t, exec .tableLinkSettings s = .next t ∧ t.settings = c ∧
      t = { s with
        lp := { s.lp with port := .replying ⟨.done, false, t.noticeFlag, h.clamped⟩ }
        settings := t.settings
        linkA := t.linkA
        linkB := t.linkB
        dispatcher := { s.dispatcher with active := t.dispatcher.active }
        notices := t.notices } ∧
      (c.arrangement = s.settings.arrangement → c.advertised = s.settings.advertised →
        t.linkA = s.linkA ∧ t.linkB = s.linkB ∧ t.dispatcher = s.dispatcher ∧
          t.notices.pending = s.notices.pending) ∧
      (c.arrangement = s.settings.arrangement → c.advertised ≠ s.settings.advertised → ∀ e : Engine,
        ((s.link e).state = .off ∨ (s.link e).state = .broken → t.link e = s.link e) ∧
        ((s.link e).state = .ready → (s.link e).inFlight ≠ [] → t.link e = { s.link e with draining := true }) ∧
        (((s.link e).state = .ready ∧ (s.link e).inFlight = []) ∨ (s.link e).state = .offering ∨
            (s.link e).state = .agreeing ∨ (s.link e).state = .settling ∨ (s.link e).state = .stopped →
          (t.link e).state = .offering ∧ (t.link e).offerCount = 0 ∧ (t.link e).keptSet = none ∧
            (t.link e).mode = none ∧ (t.link e).draining = false ∧ (t.link e).lastSent = [.offer c.advertised false] ∧
            (t.link e).hasBeenReady = (s.link e).hasBeenReady)) ∧
      (c.arrangement ≠ s.settings.arrangement → c.advertised = s.settings.advertised → ∀ e : Engine,
        (c.arrangement.uses e = true → (s.link e).state = .off →
          (t.link e).state = .offering ∧ (t.link e).lastSent = [.offer c.advertised false]) ∧
        (c.arrangement.uses e = true → (s.link e).state ≠ .off → t.link e = s.link e) ∧
        (c.arrangement.uses e = false → (s.link e).inFlight = [] →
          (t.link e).state = .off ∧ (t.link e).hasBeenReady = false ∧ (t.link e).pace = (s.link e).pace) ∧
        (c.arrangement.uses e = false → (s.link e).inFlight ≠ [] → t.link e = s.link e)) ∧
      (c.arrangement ≠ s.settings.arrangement → c.advertised ≠ s.settings.advertised →
        (∀ e : Engine,
          (c.arrangement.uses e = false → (s.link e).inFlight = [] →
            (t.link e).state = .off ∧ (t.link e).hasBeenReady = false ∧ (t.link e).pace = (s.link e).pace) ∧
          (c.arrangement.uses e = false → (s.link e).inFlight ≠ [] → t.link e = s.link e) ∧
          (c.arrangement.uses e = true →
            ((s.link e).state = .broken → t.link e = s.link e) ∧
            ((s.link e).state = .ready → (s.link e).inFlight ≠ [] → t.link e = { s.link e with draining := true }) ∧
            ((s.link e).state ≠ .broken → ((s.link e).state = .ready → (s.link e).inFlight = []) →
              (t.link e).state = .offering ∧ (t.link e).offerCount = 0 ∧ (t.link e).keptSet = none ∧
                (t.link e).mode = none ∧ (t.link e).draining = false ∧
                (t.link e).lastSent = [.offer c.advertised false] ∧
                (t.link e).hasBeenReady = (s.link e).hasBeenReady))) ∧
        (c.arrangement ≠ .standby → t.dispatcher = s.dispatcher) ∧
        (c.arrangement = .standby → ∀ (ready still : Engine → Prop) (first : Engine),
          (∀ x, ready x ↔ (s.link x).state = .ready) →
          (∀ x, still x ↔ (s.link x).state = .ready ∧ (s.link x).inFlight ≠ []) →
          (¬ready s.dispatcher.active ∧ ready (otherEngine s.dispatcher.active) →
            first = otherEngine s.dispatcher.active) →
          (ready s.dispatcher.active ∨ ¬ready (otherEngine s.dispatcher.active) → first = s.dispatcher.active) →
          (¬still first ∧ still (otherEngine first) → t.dispatcher.active = otherEngine first) ∧
          (still first ∨ ¬still (otherEngine first) → t.dispatcher.active = first)))

/-- R12, R88, R193 to R195, R197 to R200: the seven selectors: a snapshot is presented and nothing else changes; the
fields of the responses byte by byte: CONDITION, CHECK, COUNTERS in the order of k, ENGINE, RING and the held key (NOTICES
stands in QueryNoticesReadsAndClears, the other tables in ReportedTablesReadBack); their lengths; and the six slot counts
of QUERY CONDITION sum to the slots of the ring. -/
def Obligations.QueriesTakeASnapshot : Prop :=
  (∀ (s : State) (b : List Byte) (n : List SlotPhase → Nat), b = s.conditionBytes → s.queueSound → s.ring.length = 6 →
    (∀ f, s.composer.nextFolio = some f → f ≤ 9999) →
    (∀ ps, n ps = (s.ring.filter fun o => match o with
      | some x => ps.contains x.phase
      | none => false).length) →
    byteAt b 0 = s.queue.length ∧ byteAt b 1 = s.forms.owed.isSome.toNat ∧
      byteAt b 2 = (s.ring.filter fun o => o.isNone).length ∧ byteAt b 3 = n [.assembling] ∧ byteAt b 4 = n [.ready] ∧
      byteAt b 5 = n [.sending .a, .sending .b] ∧ byteAt b 6 = n [.sent .a, .sent .b] ∧
      byteAt b 7 = n [.finished .a, .finished .b] ∧ byteAt b 8 = s.composer.waiting.toNat ∧ byteAt b 9 = s.held.toNat ∧
      wordAt b 10 = s.forms.form ∧ byteAt b 12 = s.forms.line ∧ wordAt b 13 = s.composer.nextFolio.getD 0 ∧
      wordAt b 15 = s.composer.nextSeq.toNat ∧ byteAt b 17 = s.keys.heldKey.isSome.toNat ∧
      byteAt b 18 = (decide (.sync ∈ s.queue)).toNat) ∧
  (checkBytes none = [0, 0, 0, 0, 0] ∧
    ∀ (c : CheckRecord) (b : List Byte), b = checkBytes (some c) → (∀ p, c.position = some p → p ≤ 255) →
      c.detail ≤ 255 →
      (c.kind, byteAt b 0) ∈ ([(.parity, 1), (.order, 2), (.motion, 3), (.noStop, 4), (.data, 5), (.tableFormat, 6),
        (.tableRange, 7), (.engineStopped, 8)] : List (CheckKind × Nat)) ∧
        byteAt b 1 = c.order.toNat ∧ byteAt b 2 = c.position.isSome.toNat ∧ byteAt b 3 = c.position.getD 0 ∧
        byteAt b 4 = c.detail) ∧
  (∀ s : State, ∀ x ∈ ([(0, .linesAccepted), (1, .ordersRefused), (2, .unprintable), (3, .placedLines),
      (4, .overstrikeMerges), (5, .keyedLines), (6, .outOfOrder), (7, .duplicates), (8, .overLines), (9, .squeezedLines),
      (10, .depthClipped), (11, .sheetsCommitted), (12, .stackedA), (13, .stackedB), (14, .reissued), (15, .strays)] :
      List (Nat × Counter)),
    wordAt (counterBytes s.counters) (4 * x.1) * 65536 + wordAt (counterBytes s.counters) (4 * x.1 + 2) =
      (s.counter x.2).toNat) ∧
  (∀ (s : State) (e : Engine) (l : Link) (b : List Byte), l = s.link e → b = s.engineBytes e → l.inFlight.length ≤ 2 →
    l.pace.shortCount ≤ 7 →
    (l.state, byteAt b 0) ∈ ([(.off, 0), (.offering, 1), (.agreeing, 2), (.settling, 3), (.ready, 4), (.stopped, 5),
        (.broken, 6)] : List (LinkState × Nat)) ∧
      (l.mode, byteAt b 1) ∈ ([(none, 0), (some .fine, 1), (some .standard, 2), (some .proof, 3), (some .plain, 4)] :
        List (Option Mode × Nat)) ∧
      byteAt b 2 = l.plain.toNat ∧ byteAt b 3 = l.draining.toNat ∧
      (l.stopCause, byteAt b 4) ∈ ([(none, 0), (some .paperOut, 1), (some .coverOpen, 2), (some .engineFault, 3),
        (some .jam, 4), (some .timeout, 5)] : List (Option StopCause × Nat)) ∧
      byteAt b 5 = (s.takesSheets e).toNat ∧ byteAt b 6 = (decide (s.dispatcher.active = e)).toNat ∧
      byteAt b 7 = l.inFlight.length ∧
      (∀ k, k = 0 ∨ k = 1 →
        (l.inFlight[k]? = none → wordAt b (8 + 3 * k) = 0 ∧ byteAt b (10 + 3 * k) = 0) ∧
        ∀ i, l.inFlight[k]? = some i → wordAt b (8 + 3 * k) = i.seq.toNat ∧
          ((∃ x, some x ∈ s.ring ∧ x.sheet.seq = i.seq ∧ x.phase = .sending e) → byteAt b (10 + 3 * k) = 3) ∧
          ((∀ x, some x ∈ s.ring → x.sheet.seq = i.seq → x.phase ≠ .sending e) → byteAt b (10 + 3 * k) = 4)) ∧
      wordAt b 14 = l.pace.t.toNat ∧ byteAt b 16 = l.pace.s.toNat ∧ byteAt b 17 = l.pace.shortCount ∧
      byteAt b 18 = l.pace.degraded.toNat) ∧
  (∀ (r : Ring) (k : Nat) (b : List Byte), b = ringBytes r →
    (r[k]? = some none → ∀ j, j < 7 → byteAt b (7 * k + j) = 0) ∧
    ∀ x, r[k]? = some (some x) → (∀ f, x.sheet.folio = some f → f ≤ 9999) → x.sheet.reissue ≤ 255 →
      (x.phase, byteAt b (7 * k), byteAt b (7 * k + 5)) ∈ ([(.assembling, 1, 0), (.ready, 2, 0), (.sending .a, 3, 1),
          (.sending .b, 3, 2), (.sent .a, 4, 1), (.sent .b, 4, 2), (.finished .a, 5, 1), (.finished .b, 5, 2)] :
          List (SlotPhase × Nat × Nat)) ∧
        wordAt b (7 * k + 1) = x.sheet.seq.toNat ∧ wordAt b (7 * k + 3) = x.sheet.folio.getD 0 ∧
        byteAt b (7 * k + 6) = x.sheet.reissue) ∧
  (∀ (s : State) (ranks : List Nat), ranks = s.keys.heldKey.getD [] → ranks.length ≤ 40 → (∀ r ∈ ranks, r ≤ 250) →
    (s.tableBytes 5).length = 3 + ranks.length ∧ byteAt (s.tableBytes 5) 0 = 5 ∧
      wordAt (s.tableBytes 5) 1 = ranks.length ∧ ∀ i r, ranks[i]? = some r → byteAt (s.tableBytes 5) (3 + i) = r) ∧
  ∀ (s : State) (h : Hand), s.quiet → s.lp.port = .takingData h → h.parityError = none → selectorFault h.kept = none →
    (endsHand .queryCondition h = true →
      exec .queryCondition s = .next { s with lp := { s.lp with port := .responding s.conditionBytes h.clamped } }) ∧
    (endsHand .queryCheck h = true →
      exec .queryCheck s = .next { s with lp := { s.lp with port := .responding (checkBytes s.lp.check) h.clamped } }) ∧
    (endsHand .queryCounters h = true →
      exec .queryCounters s =
        .next { s with lp := { s.lp with port := .responding (counterBytes s.counters) h.clamped } }) ∧
    (endsHand .queryTable h = true →
      exec .queryTable s =
        .next { s with lp := { s.lp with port := .responding (s.tableBytes (byteAt h.kept 1)) h.clamped } }) ∧
    (endsHand .queryEngine h = true →
      exec .queryEngine s =
        .next { s with lp := { s.lp with
          port := .responding (s.engineBytes (if byteAt h.kept 1 = 0 then .a else .b)) h.clamped } }) ∧
    (endsHand .queryRing h = true →
      exec .queryRing s = .next { s with lp := { s.lp with port := .responding (ringBytes s.ring) h.clamped } }) ∧
    s.conditionBytes.length = 19 ∧ (checkBytes s.lp.check).length = 5 ∧ s.noticeBytes.length = 7 ∧
    (counterBytes s.counters).length = 64 ∧ (∀ e, (s.engineBytes e).length = 19) ∧
    (ringBytes s.ring).length = 7 * s.ring.length ∧
    (s.ring.length ≤ 6 → (((s.conditionBytes.drop 2).take 6).map fun b => b.toNat).sum = s.ring.length)

/-- R196, R203: QUERY NOTICES reports the pending set, the mask, the mode and the conditions of the moment; in LATCHED mode
every source becomes not pending, and in CONFIRMED mode none does. -/
def Obligations.QueryNoticesReadsAndClears : Prop :=
  ∀ (s : State) (h : Hand), s.quiet → s.lp.port = .takingData h → h.parityError = none →
    endsHand .queryNotices h = true →
    ∃ t, exec .queryNotices s = .next t ∧
      t = { s with
        notices := t.notices
        lp := { s.lp with port := .responding s.noticeBytes h.clamped } } ∧
      t.notices.mask = s.notices.mask ∧ t.notices.confirmed = s.notices.confirmed ∧
      (s.notices.confirmed = false → t.notices.pending = 0 ∧ t.notices.callLine = false) ∧
      (s.notices.confirmed = true → t.notices = s.notices) ∧
      wordAt s.noticeBytes 0 = s.notices.pending.toNat ∧ wordAt s.noticeBytes 2 = s.notices.mask.toNat ∧
      byteAt s.noticeBytes 4 = s.notices.confirmed.toNat ∧ wordAt s.noticeBytes 5 = s.conditions.toNat

/-- R197: "For every kind but KEY RESET, the response is thus a valid TABLE record of the same kind." The record QUERY TABLE
reports passes the framing and range tests of its kind and reads back as the table in force, for every table within its
ranges. -/
def Obligations.ReportedTablesReadBack : Prop :=
  ∀ s : State, s.tablesSound →
    (framingFault (s.tableBytes 1) = none ∧ charMapFault ((s.tableBytes 1).drop 3) = none ∧
      charMapOf ((s.tableBytes 1).drop 3) = s.map) ∧
    (framingFault (s.tableBytes 2) = none ∧ formsFault ((s.tableBytes 2).drop 3) = none ∧
      formsOf ((s.tableBytes 2).drop 3) = s.forms.table) ∧
    (framingFault (s.tableBytes 3) = none ∧ collationFault ((s.tableBytes 3).drop 3) = none ∧
      collationOf ((s.tableBytes 3).drop 3) = s.keys.collation) ∧
    (framingFault (s.tableBytes 4) = none ∧ layoutFault ((s.tableBytes 4).drop 3) = none ∧
      layoutOf ((s.tableBytes 4).drop 3) = s.keys.layout) ∧
    (framingFault (s.tableBytes 6) = none ∧ planFault ((s.tableBytes 6).drop 3) = none ∧
      planOf ((s.tableBytes 6).drop 3) = s.composer.plan) ∧
    (framingFault (s.tableBytes 7) = none ∧ settingsFault ((s.tableBytes 7).drop 3) = none ∧
      settingsOf ((s.tableBytes 7).drop 3) = s.settings) ∧
    (framingFault (s.tableBytes 8) = none ∧ noticeControlFault ((s.tableBytes 8).drop 3) = none ∧
      BitVec.ofNat 10 (wordAt ((s.tableBytes 8).drop 3) 0) = s.notices.mask ∧
      (byteAt ((s.tableBytes 8).drop 3) 2 == 1) = s.notices.confirmed) ∧
    (framingFault (s.tableBytes 10) = none ∧ unitFault ((s.tableBytes 10).drop 3) = none ∧
      BitVec.ofNat 4 (byteAt ((s.tableBytes 10).drop 3) 0) = s.lp.unit)

/-! ### Keys, fit, composition -/

/-- R81: ranked keys are compared rank by rank, and a proper prefix is the lower key. -/
def Obligations.RankedKeysAreCompared : Prop :=
  ∀ a b : List Nat,
    (compareKeys a b = .eq ↔ a = b) ∧
      (compareKeys a b = .lt ↔
        (∃ more, more ≠ [] ∧ b = a ++ more) ∨
          ∃ same x y as bs, a = same ++ x :: as ∧ b = same ++ y :: bs ∧ x < y) ∧
      (compareKeys a b = .gt ↔ compareKeys b a = .lt)

/-- R79, R80, R82: the ranked key of a line, position by position of the key field, with IGNORE glyphs closed up and
the rank-0 entries at the end dropped; the display key, the key field trimmed of trailing blanks; and the verdict:
unkeyed, FIRST, or by the comparison of the ranked key with the held key. A line is OUT OF ORDER exactly when its
ranked key is lower than the held key. -/
def Obligations.OutOfOrderExactlyWhenLower : Prop :=
  ∀ (k : KeyComparator) (text : Text), collationValid k.collation →
    (k.verdict text = .unkeyed ↔ k.rankedKey text = []) ∧
      (k.verdict text = .first ↔ k.rankedKey text ≠ [] ∧ k.heldKey = none) ∧
      (k.verdict text = .outOfOrder ↔ k.rankedKey text ≠ [] ∧ ∃ h, k.heldKey = some h ∧ compareKeys (k.rankedKey text) h = .lt) ∧
      (k.verdict text = .duplicate ↔ k.rankedKey text ≠ [] ∧ k.heldKey = some (k.rankedKey text)) ∧
      (k.rankedKey text).length ≤ k.layout.keyLength ∧
      (∃ field : Text, field.length = k.layout.keyLength ∧
        (∀ i, i < k.layout.keyLength → field[i]? = some ((text[k.layout.keyStart - 1 + i]?).join)) ∧
        (∃ n, field.filterMap
            (fun x => match x with
              | none => some 0
              | some g => k.collation.get g) = k.rankedKey text ++ List.replicate n 0) ∧
        ∃ n, field = k.displayKey text ++ List.replicate n none) ∧
      (k.displayKey text ≠ [] → ∃ g, (k.displayKey text).getLast? = some (some g)) ∧
      (k.rankedKey text ≠ [] → k.displayKey text ≠ []) ∧
      ∀ r, (k.rankedKey text).getLast? = some r → 1 ≤ r ∧ r ≤ 250

/-- R93, R96 to R101, R103: the condense step is the smallest permitted step at which the width does not exceed the
column width; where none fits, the line is set at the maximum step, the longest fillable run (the leftmost of the
longest) loses the excess or all but 3 of its positions, and what is still longer than the fitting count is cut with
OVER; positions 2 to r - 1 of every fillable run then take the leader glyph in the base layer. -/
def Obligations.CondenseStepIsTheSmallestThatFits : Prop :=
  (∀ (p : SheetPlan) (len : Nat),
    (∀ s, p.widthAt len s * 16 < len * p.cellWidth * (16 - s) + 16 ∧ len * p.cellWidth * (16 - s) ≤ p.widthAt len s * 16) ∧
    (∀ s, p.chooseStep len = some s ↔
      s ≤ p.maxStep ∧ p.widthAt len s ≤ p.columnWidth ∧ ∀ r, r < s → p.columnWidth < p.widthAt len r) ∧
    (p.chooseStep len = none ↔ ∀ s, s ≤ p.maxStep → p.columnWidth < p.widthAt len s) ∧
    (1 ≤ p.cellWidth → p.maxStep ≤ 4 → (len ≤ p.fittingCount ↔ p.widthAt len p.maxStep ≤ p.columnWidth))) ∧
    (∀ (zone : Option LeaderZone) (cells : List Cell2) (r : Run), r ∈ fillableRuns zone cells ↔
      ∃ z, zone = some z ∧ 2 ≤ r.first ∧ 1 ≤ r.length ∧ r.first + r.length ≤ cells.length ∧ z.first ≤ r.first ∧
        r.first + r.length - 1 ≤ z.last ∧
        (∀ i, r.first ≤ i → i < r.first + r.length → cells[i - 1]? = some (none, none)) ∧
        cells[r.first - 2]? ≠ some (none, none) ∧ cells[r.first + r.length - 1]? ≠ some (none, none)) ∧
    (∀ (p : SheetPlan) (zone : Option LeaderZone) (cells : List Cell2),
      (∀ s, p.chooseStep cells.length = some s → overflowStage p zone cells = (cells, s, false, false)) ∧
      (p.chooseStep cells.length = none → ∀ excess, excess = cells.length - p.fittingCount →
        1 ≤ excess ∧
        ((∀ r ∈ fillableRuns zone cells, r.length ≤ 3) →
          overflowStage p zone cells = (cells.take p.fittingCount, p.maxStep, false, true)) ∧
        ∀ r ∈ fillableRuns zone cells, 3 < r.length →
          (∀ q ∈ fillableRuns zone cells, q.length < r.length ∨ q.length = r.length ∧ r.first ≤ q.first) →
          ∀ m left, m = min excess (r.length - 3) →
          left = cells.take (r.first + r.length - 1 - m) ++ cells.drop (r.first + r.length - 1) →
          (excess ≤ r.length - 3 →
            left.length = p.fittingCount ∧ overflowStage p zone cells = (left, p.maxStep, true, false)) ∧
          (r.length - 3 < excess →
            overflowStage p zone cells = (left.take p.fittingCount, p.maxStep, true, true)))) ∧
    (∀ (zone : Option LeaderZone) (cells : List Cell2),
      (leaderFill zone cells).length = cells.length ∧ (zone = none → leaderFill zone cells = cells) ∧
      ∀ z i c, zone = some z → cells[i]? = some c →
        ((∃ r ∈ fillableRuns zone cells, r.first ≤ i ∧ i + 2 < r.first + r.length) →
          (leaderFill zone cells)[i]? = some (some z.glyph, c.2)) ∧
        ((∀ r ∈ fillableRuns zone cells, i < r.first ∨ r.first + r.length ≤ i + 2) →
          (leaderFill zone cells)[i]? = some c)) ∧
    (∀ a b : Text, (combine a b).length = max a.length b.length ∧
      ∀ i, i < max a.length b.length → (combine a b)[i]? = some ((a[i]?).join, (b[i]?).join)) ∧
    ∀ (p : SheetPlan) (zone : Option LeaderZone) (base : Source) (struck : Option Source) (cells : List Cell2)
      (left : List Cell2) (step : Nat) (squeezed cut : Bool),
      cells = combine base.text (match struck with
        | some o => o.text
        | none => []) →
      overflowStage p zone cells = (left, step, squeezed, cut) →
      fitSources p zone base struck =
        { step := step
          baseText := (leaderFill zone left).map fun c => c.1
          overText := match struck with
            | some _ => some ((leaderFill zone left).map fun c => c.2)
            | none => none
          squeezed := squeezed
          overFlag := cut || base.clamped || match struck with
            | some o => o.clamped
            | none => false }

/-- R78, R82 to R85, R94, R95, R102, R111, R113 to R116, R127, R202: opening a sheet: its record in the lowest FREE slot,
the next sequence number, the next folio one more, held at 9999; binding a column: its form, its pitch and its left edge,
kept from then on; the line added, with its baseline, key flags, display key and base source. PLACED_LINE on a layer-1
line: a sheet is opened if none is assembling, the column bound, the line judged against the held key, which follows it,
counted, and added to the column or dropped as clipped; an OUT OF ORDER line posts LISTING ORDER, and of the notices only
this post and the rises and falls of the conditions change; and nothing else changes. -/
def Obligations.BaseLineIsJudgedAndPlaced : Prop :=
  (∀ s : State, s.openSheet = { s with ring := s.openSheet.ring, composer := s.composer.afterOpening } ∧
    ∀ k, s.ring[k]? = some none → (∀ j, j < k → s.ring[j]? ≠ some none) →
      s.openSheet.ring = s.ring.set k (some ⟨.assembling, s.composer.freshSheet⟩)) ∧
  (∀ r : Ring, (ringHasFree r = true ↔ none ∈ r) ∧
    (assemblingSheet r = none ↔ ∀ x, some x ∈ r → x.phase ≠ .assembling) ∧
    ∀ sh, assemblingSheet r = some sh → some ⟨.assembling, sh⟩ ∈ r) ∧
  (∀ s : State, s.currentColumn = (assemblingSheet s.ring).bind fun sh => sh.columns[s.composer.column - 1]?) ∧
  (∀ (s : State) (f : Column → Column), s.modColumn f = { s with ring := s.ring.map fun o => match o with
    | none => none
    | some x =>
      if x.phase = .assembling then
        some ⟨.assembling, { x.sheet with columns := x.sheet.columns.modify (s.composer.column - 1) f }⟩
      else some x }) ∧
  (∀ (s : State) (form length : Nat) (pitch : LinePitch) (plan : SheetPlan) (v : Nat), plan = s.composer.plan →
    v = (match pitch with
      | .lpi6 => 200
      | .lpi8 => 150
      | .lpi10 => 120) →
    ∃ f, s.bind form length pitch = s.modColumn f ∧ ∀ c : Column,
      (∀ b, c.binding = some b → f c = c) ∧
      (c.binding = none → f c = { c with
        binding := some ⟨form, max (min v (plan.columnDepth / length)) ((3 * v + 3) / 4),
          plan.leftMargin + (s.composer.column - 1) * (plan.columnWidth + plan.gutter)⟩ })) ∧
  (∀ (plan : SheetPlan) (keys : KeyComparator) (pitch : Nat) (p : PlacedEntry) (v : Verdict) (c : Column) (l : Line),
    lineOf plan keys pitch p v =
        ⟨p.line, plan.topMargin + plan.headerDepth + p.line * pitch,
          fitSources plan keys.layout.zone ⟨p.text, p.clamped⟩ none, v == .outOfOrder, v == .duplicate,
          if v = .unkeyed then none else some (keys.displayKey p.text), ⟨p.text, p.clamped⟩, none⟩ ∧
      addLine l c = { c with lines := c.lines ++ [l] }) ∧
  ∀ (s s0 s1 : State) (p : PlacedEntry) (rest : List Entry) (key : List Nat) (v : Verdict), s.quiet →
    s.queue = .placedLine p :: rest → p.layer = 1 →
    ((assemblingSheet s.ring).isSome = true ∨ ringHasFree s.ring = true) →
    s0 = (if (assemblingSheet s.ring).isSome then s else s.openSheet) → s1 = s0.bind p.form p.length p.pitch →
    key = s.keys.rankedKey p.text → v = verdictOf s.keys.heldKey key →
    ∃ t, exec .placedLine s = .next t ∧
      t = { s with
        queue := rest
        keys := { s.keys with heldKey := if v = .unkeyed then s.keys.heldKey else some key }
        composer := s0.composer
        ring := t.ring
        counters := t.counters
        notices :=
          edgesOn
            (if v = .outOfOrder then s.notices.setPending (s.notices.pending ||| Source10.listingOrder.bit)
              else s.notices)
            s.conditions t.conditions } ∧
      t.counter .placedLines = countUp (s.counter .placedLines) 1 ∧
      t.counter .keyedLines = (if v = .unkeyed then s.counter .keyedLines else countUp (s.counter .keyedLines) 1) ∧
      t.counter .duplicates = (if v = .duplicate then countUp (s.counter .duplicates) 1 else s.counter .duplicates) ∧
      t.counter .outOfOrder = (if v = .outOfOrder then countUp (s.counter .outOfOrder) 1 else s.counter .outOfOrder) ∧
      (∀ k : Counter, k ≠ .placedLines → k ≠ .keyedLines → k ≠ .duplicates → k ≠ .outOfOrder → k ≠ .depthClipped →
        t.counter k = s.counter k) ∧
      inSet t.notices.pending .listingOrder = (inSet s.notices.pending .listingOrder || v == .outOfOrder) ∧
      ∀ c b, s1.currentColumn = some c → c.binding = some b →
        (s.composer.plan.columnDepth < p.line * b.pitch →
          t.ring = s1.ring ∧ t.counter .depthClipped = countUp (s.counter .depthClipped) 1) ∧
        (p.line * b.pitch ≤ s.composer.plan.columnDepth →
          t.ring = (s1.modColumn (addLine (lineOf s.composer.plan s.keys b.pitch p v))).ring ∧
            t.counter .depthClipped = s.counter .depthClipped)

/-- R63, R112, R201: a head entry that needs a sheet opened, on a ring with no FREE slot, stays at the head unbegun; the
waiting-for-slot flag sets and RING FULL rises. The end of the wait stands in StackedReleasesInOrder, JamReleasesThenReturns and
SoftResetsDiscardTheWork. -/
def Obligations.ComposerWaitsForASlot : Prop :=
  ∀ (c : Instr) (s : State) (x : Entry) (rest : List Entry), s.quiet → s.queue = x :: rest →
    assemblingSheet s.ring = none → ringHasFree s.ring = false →
    ((c = .placedLine ∧ ∃ p, x = .placedLine p ∧ p.layer = 1) ∨
      (c = .lineOfItsOwn ∧ ∃ p, x = .placedLine p ∧ p.layer ≠ 1) ∨ (c = .formEnd ∧ ∃ f, x = .formEnd f)) →
    ∃ t, exec c s = .next t ∧
      t = { s with composer := { s.composer with waiting := true }, notices := t.notices } ∧
      inSet t.conditions .ringFull = true ∧ (s.composer.waiting = false → inSet t.notices.pending .ringFull = true) ∧
      t.notices.mask = s.notices.mask ∧ t.notices.confirmed = s.notices.confirmed

/-- R93, R104, R118: OVERSTRIKE_MERGE: the last line of the current column takes the overstrike and is fitted again, with its
number, baseline, flags, display key and base source kept; the merge and the line count; the entry leaves. -/
def Obligations.OverstrikeMergesIntoItsLine : Prop :=
  (∀ (s : State) (p : PlacedEntry) (rest : List Entry) (b : Binding) (l : Line), s.quiet →
    s.queue = .placedLine p :: rest → p.layer ≠ 1 → s.lastLine = some (b, l) → b.form = p.form → l.number = p.line →
    exec .overstrikeMerge s = .next { s with
      queue := rest
      ring := (s.modColumn (changeLast (mergeLine s.composer.plan s.keys.layout.zone p))).ring
      counters := ((s.count .overstrikeMerges 1).count .placedLines 1).counters
      notices := s.notices.setPending s.notices.pending }) ∧
    ∀ (plan : SheetPlan) (zone : Option LeaderZone) (p : PlacedEntry) (l : Line),
      ∃ o, mergeLine plan zone p l = { l with overstrike := some o, fit := fitSources plan zone l.base (some o) } ∧
        ((p.layer = 2 ∨ l.overstrike = none) → o = ⟨p.text, p.clamped⟩) ∧
        ∀ old, p.layer ≠ 2 → l.overstrike = some old →
          o.clamped = (old.clamped || p.clamped) ∧ o.text.length = max old.text.length p.text.length ∧
          ∀ i : Nat, (o.text[i]?).join =
            if ((p.text[i]?).join).isSome then (p.text[i]?).join else (old.text[i]?).join

/-- R95, R105, R119, R127: LINE_OF_ITS_OWN: an overstrike that does not merge is placed as an unkeyed base line, not judged,
or dropped as clipped. -/
def Obligations.OverstrikeStandsAlone : Prop :=
  ∀ (s s0 s1 : State) (p : PlacedEntry) (rest : List Entry), s.quiet → s.queue = .placedLine p :: rest → p.layer ≠ 1 →
    s.merges p = false → ((assemblingSheet s.ring).isSome = true ∨ ringHasFree s.ring = true) →
    s0 = (if (assemblingSheet s.ring).isSome then s else s.openSheet) → s1 = s0.bind p.form p.length p.pitch →
    ∃ t, exec .lineOfItsOwn s = .next t ∧
      t = { s with
        queue := rest
        composer := s0.composer
        ring := t.ring
        counters := t.counters
        notices := edgesOn s.notices s.conditions t.conditions } ∧
      t.counter .placedLines = countUp (s.counter .placedLines) 1 ∧
      (∀ k : Counter, k ≠ .placedLines → k ≠ .depthClipped → t.counter k = s.counter k) ∧
      ∀ c b, s1.currentColumn = some c → c.binding = some b →
        (s.composer.plan.columnDepth < p.line * b.pitch →
          t.ring = s1.ring ∧ t.counter .depthClipped = countUp (s.counter .depthClipped) 1) ∧
        (p.line * b.pitch ≤ s.composer.plan.columnDepth →
          t.ring = (s1.modColumn (addLine (lineOf s.composer.plan s.keys b.pitch p .unkeyed))).ring ∧
            t.counter .depthClipped = s.counter .depthClipped)

/-- R106, R115, R120, R121, R122, R124: FORM_END closes the current column, bound if it was not, and counts its lines;
the next column is current, or after the last column of the plan the sheet is committed READY. A commitment closes
every column, sets the sequence-fault flag when a line is OUT OF ORDER, writes the guides and the mark records, in
column order, then line order, then OUT OF ORDER, DUPLICATE, OVER, and changes nothing else of the record. At a closing
each line counts once in SQUEEZED lines and once in OVER lines by its final fit. How a column is bound stands in
BaseLineIsJudgedAndPlaced. -/
def Obligations.FormEndClosesTheColumn : Prop :=
  (∀ o : Occupied, o.phase ≠ .assembling → commitSlot o = o) ∧
  (∀ sh : Sheet, ∃ fin : Sheet, commitSlot ⟨.assembling, sh⟩ = ⟨.ready, fin⟩ ∧
    fin = { sh with
      columns := sh.columns.map fun c => { c with closed := true }
      seqFault := fin.seqFault
      guides := fin.guides
      marks := fin.marks } ∧
    (fin.seqFault = true ↔ ∃ c ∈ sh.columns, ∃ l ∈ c.lines, l.outOfOrder = true) ∧
    (∀ keys, keys = (sh.columns.flatMap fun c => c.lines).filterMap (fun l => l.displayKey) →
      (keys = [] → fin.guides = none) ∧
      ∀ a z, keys.head? = some a → keys.getLast? = some z →
        fin.guides = some ⟨a.take sh.plan.guideWidth, z.take sh.plan.guideWidth⟩) ∧
    fin.marks = sh.columns.flatMap fun c =>
      match c.binding with
      | none => []
      | some b => c.lines.flatMap fun l =>
        ([(l.outOfOrder && sh.plan.marks.outOfOrder, MarkKind.outOfOrder),
          (l.duplicate && sh.plan.marks.duplicate, .duplicate),
          (l.fit.overFlag && sh.plan.marks.overLine, .overLine)].filter fun x => x.1).map
            fun x => ⟨x.2, b.left, l.baseline⟩) ∧
  (∀ (s : State) (ls : List Line), s.countFits ls = { s with counters := (s.countFits ls).counters } ∧
    (s.countFits ls).counter .squeezedLines =
      countUp (s.counter .squeezedLines) (ls.filter fun l => l.fit.squeezed).length ∧
    (s.countFits ls).counter .overLines = countUp (s.counter .overLines) (ls.filter fun l => l.fit.overFlag).length ∧
    ∀ k : Counter, k ≠ .squeezedLines → k ≠ .overLines → (s.countFits ls).counter k = s.counter k) ∧
  (∀ sh : Sheet, sh.openLines = sh.columns.flatMap fun c => if c.closed then [] else c.lines) ∧
  ∀ (s s0 s1 : State) (f : FormEndMark) (rest : List Entry) (sh closed : Sheet) (c : Column), s.quiet →
    s.queue = .formEnd f :: rest → ((assemblingSheet s.ring).isSome = true ∨ ringHasFree s.ring = true) →
    s0 = (if (assemblingSheet s.ring).isSome then s else s.openSheet) → s1 = s0.bind f.form f.length f.pitch →
    assemblingSheet s1.ring = some sh → s1.currentColumn = some c →
    assemblingSheet (s1.modColumn fun x => { x with closed := true }).ring = some closed →
    ∃ t, exec .formEnd s = .next t ∧
      t = { s with
        queue := rest
        composer := t.composer
        ring := t.ring
        counters := t.counters
        notices := edgesOn s.notices s.conditions t.conditions } ∧
      (s0.composer.column ≠ sh.plan.gang →
        t.composer = { s0.composer with column := s0.composer.column + 1 } ∧
        t.ring = (s1.modColumn fun x => { x with closed := true }).ring ∧
        t.counters = (s.countFits c.lines).counters) ∧
      (s0.composer.column = sh.plan.gang →
        t.composer = { s0.composer with column := 1 } ∧
        t.ring = mapSlots commitSlot (s1.modColumn fun x => { x with closed := true }).ring ∧
        assemblingSheet t.ring = none ∧
        t.counters = (((s.countFits c.lines).countFits closed.openLines).count .sheetsCommitted 1).counters)

/-- R67, R121, R125, R126: SYNC_MARKER and SHEET_PLAN_ENTRY flush: the assembling sheet, if there is one, is committed as it
stands; then the Line Port is told of the marker, or the new plan and its folio start are in force. -/
def Obligations.MarkersAndPlansFlush : Prop :=
  ∀ (s : State) (rest : List Entry), s.quiet →
    (s.queue = .sync :: rest →
      ∃ t, exec .syncMarker s = .next t ∧
        t = { s with
          lp := t.lp
          queue := rest
          composer := { s.composer with column := t.composer.column }
          ring := t.ring
          counters := t.counters
          notices := edgesOn s.notices s.conditions t.conditions } ∧
        (assemblingSheet s.ring = none →
          t.ring = s.ring ∧ t.composer = s.composer ∧ t.counters = s.counters) ∧
        (∀ sh, assemblingSheet s.ring = some sh →
          t.ring = mapSlots commitSlot s.ring ∧ t.composer.column = 1 ∧
          t.counters = ((s.countFits sh.openLines).count .sheetsCommitted 1).counters) ∧
        (∀ clamped, s.lp.port = .syncWithheld .markerQueued clamped → .sync ∉ rest →
          t.lp = { s.lp with port := .syncWithheld .ringWatch clamped }) ∧
        ((.sync ∈ rest ∨ ∀ clamped, s.lp.port ≠ .syncWithheld .markerQueued clamped) → t.lp = s.lp)) ∧
    (∀ p fenced, s.queue = .streamTable (.sheetPlan p) fenced :: rest →
      ∃ t, exec .sheetPlanEntry s = .next t ∧
        t = { s with
          queue := rest
          composer := { s.composer with plan := p, column := 1, nextFolio := p.folioStart }
          ring := t.ring
          counters := t.counters
          notices := edgesOn s.notices s.conditions t.conditions } ∧
        (assemblingSheet s.ring = none → t.ring = s.ring ∧ t.counters = s.counters) ∧
        ∀ sh, assemblingSheet s.ring = some sh →
          t.ring = mapSlots commitSlot s.ring ∧
          t.counters = ((s.countFits sh.openLines).count .sheetsCommitted 1).counters)

/-- R74, R77, R87: COLLATION_ENTRY, FIELD_LAYOUT_ENTRY and KEY_RESET_ENTRY replace their table whole and clear the held key;
nothing else changes but the queue. -/
def Obligations.KeyTablesAreApplied : Prop :=
  ∀ (s : State) (rest : List Entry) (fenced : Bool), s.quiet →
    (∀ c, s.queue = .streamTable (.collation c) fenced :: rest →
      exec .collationEntry s = .next { s with queue := rest, keys := { s.keys with collation := c, heldKey := none } }) ∧
    (∀ l, s.queue = .streamTable (.fieldLayout l) fenced :: rest →
      exec .fieldLayoutEntry s = .next { s with queue := rest, keys := { s.keys with layout := l, heldKey := none } }) ∧
    (s.queue = .streamTable .keyReset fenced :: rest →
      exec .keyResetEntry s = .next { s with queue := rest, keys := { s.keys with heldKey := none } })

/-! ### Dispatch and the engines -/

/-- R133, R137, R143, R167, R171, R173: GRANT gives the oldest READY sheet to the engine chosen, and SHEET_END ends
the writing of a transfer and starts the TAKEN timer of a sheet still SENDING. The frames last sent are the model's
view of the wire: that SHEET BEGIN leaves at the grant and the rest of the transfer at SHEET_END is its choice
(notes/assumptions/8.md). A transfer queued behind one still being written, and M4 PLAIN for a link with no mode, are
the model's (notes/assumptions/9.md, notes/assumptions/17.md). That a GRANT with no grant due and a SHEET_END with no
transfer in writing change nothing is the model's choice (notes/assumptions/4.md). -/
def Obligations.GrantsAndTransfers : Prop :=
  (∀ (s : State) (e : Engine) (sh : Sheet), s.linkA.windowDue = false → s.linkB.windowDue = false →
    s.chosenEngine = some e → s.oldestReady = some sh →
    s.eligible e = true ∧ some ⟨.ready, sh⟩ ∈ s.ring ∧
      (∀ x, some ⟨.ready, x⟩ ∈ s.ring → s.age x.seq ≤ s.age sh.seq) ∧
      ∃ t, exec .grant s = .next t ∧
        t = { s with
          ring := s.ring.map fun o => match o with
            | none => none
            | some x => some (if x.sheet.seq = sh.seq ∧ x.phase = .ready then ⟨.sending e, x.sheet⟩ else x)
          dispatcher := { s.dispatcher with lastGranted := e }
          linkA := t.linkA
          linkB := t.linkB
          counters := if sh.reissue = 0 then s.counters else (s.count .reissued 1).counters } ∧
        t.link (otherEngine e) = s.link (otherEngine e) ∧
        t.link e = { s.link e with
          inFlight := (s.link e).inFlight ++ [⟨sh.seq, none, none⟩]
          writing := (s.link e).writing ++ [transferOf ((s.link e).mode.getD .plain) sh]
          lastSent :=
            if (s.link e).writing = [] then [sheetBeginFrame ((s.link e).mode.getD .plain) sh]
            else (s.link e).lastSent }) ∧
    (∀ s : State, s.linkA.windowDue = false → s.linkB.windowDue = false → s.grantDue = false →
      exec .grant s = .next s) ∧
    ∀ (s : State) (e : Engine), s.quiet →
      ((s.link e).writing = [] → exec (.sheetEnd e) s = .next s) ∧
      ∀ w more, (s.link e).writing = w :: more →
        exec (.sheetEnd e) s = .next (s.setLink e { s.link e with
          writing := more
          lastSent := w.rest ++ (more.head?.map fun n => n.opening).toList
          inFlight :=
            if s.isSending e w.seq then
              (s.link e).inFlight.map fun i =>
                if i.seq = w.seq then ⟨i.seq, some s.settings.takenMs, i.stackedTimer⟩ else i
            else (s.link e).inFlight })

/-- R140, R142, R144, R147, R160: which links the arrangement uses, the role of each engine, and when an engine is
eligible, when it is able and when the part is held; the engine chosen when one or both are eligible, and the first
choice after a reset. -/
def Obligations.DispatcherChoosesTheEngine : Prop :=
  (∀ (s : State) (e : Engine),
    (s.uses e = true ↔ s.settings.arrangement = .tandem ∨ s.settings.arrangement = .standby ∨
      s.settings.arrangement = .singleA ∧ e = .a ∨ s.settings.arrangement = .singleB ∧ e = .b) ∧
    (s.takesSheets e = true ↔ s.settings.arrangement = .tandem ∨
      s.settings.arrangement = .standby ∧ s.dispatcher.active = e ∨
      s.settings.arrangement = .singleA ∧ e = .a ∨ s.settings.arrangement = .singleB ∧ e = .b) ∧
    (s.eligible e = true ↔ (s.link e).state = .ready ∧ (s.link e).draining = false ∧ s.takesSheets e = true ∧
      (∀ x, some x ∈ s.ring → x.phase ≠ .sending e) ∧ (s.link e).inFlight.length < 2) ∧
    (s.able e = true ↔ (s.link e).state = .ready ∧ (s.eligible e = true ∨ (s.link e).inFlight ≠ [])) ∧
    (s.held = true ↔ ∀ x : Engine, s.able x = false)) ∧
  (∀ s : State,
    (s.eligible .a = true → s.eligible .b = true →
      (s.linkA.pace.degraded = false → s.linkB.pace.degraded = true → s.chosenEngine = some .a) ∧
      (s.linkA.pace.degraded = true → s.linkB.pace.degraded = false → s.chosenEngine = some .b) ∧
      (s.linkA.pace.degraded = s.linkB.pace.degraded →
        s.chosenEngine = some (otherEngine s.dispatcher.lastGranted))) ∧
    (s.eligible .a = true → s.eligible .b = false → s.chosenEngine = some .a) ∧
    (s.eligible .a = false → s.eligible .b = true → s.chosenEngine = some .b) ∧
    (s.eligible .a = false → s.eligible .b = false → s.chosenEngine = none) ∧
    (s.settings.arrangement ≠ .tandem → s.eligible .a = false ∨ s.eligible .b = false)) ∧
    (∀ s t straps, exec (.hardwareReset straps) s = .next t → t.dispatcher.lastGranted = .b) ∧
    ∀ s t, exec .lineReset s = .next t → t.dispatcher.lastGranted = .b

/-- R123, R168, R169, R170: the frames of a transfer: SHEET BEGIN with the fields of the record and its header items,
each with the point where it begins; one RUN for each printed layer the mode sends of each line of a bound column, in
column and line order, the base before the overstrike; one MARK for each mark record but in M4 PLAIN; and SHEET END
with the two counts. -/
def Obligations.SheetFramesFollowTheMode : Prop :=
  (∀ (mode : Mode) (sh : Sheet),
    transferOf mode sh =
      ⟨sh.seq,
        .sheetBegin sh.seq sh.folio (if sh.reissue = 0 then none else some sh.reissue) mode sh.plan.sheetWidth
          sh.plan.sheetHeight (headerItems sh),
        runFrames mode sh ++ markFrames mode sh ++
          [.sheetEnd sh.seq (runFrames mode sh).length (markFrames mode sh).length]⟩ ∧
    runFrames mode sh =
      (sh.columns.flatMap fun c => match c.binding with
        | none => []
        | some b => c.lines.flatMap fun l =>
          Frame.run b.left l.baseline l.fit.step .base l.fit.baseText ::
            match mode, l.fit.overText with
            | .fine, some t => [.run b.left l.baseline l.fit.step .overstrike t]
            | .standard, some t => [.run b.left l.baseline l.fit.step .overstrike t]
            | _, _ => []) ∧
    markFrames mode sh = if mode = .plain then [] else sh.marks.map .mark) ∧
  (∀ n, 1 ≤ n → n < 100000 → decimalDigits 5 n = (Nat.digits 10 n).reverse) ∧
  ∀ (sh : Sheet) (p : SheetPlan) (left right base marker : Nat), p = sh.plan → left = p.leftMargin →
    right = left + p.gang * p.columnWidth + (p.gang - 1) * p.gutter → base = p.topMargin + p.headerDepth →
    marker = p.topMargin + p.headerDepth / 2 →
    (p.headerDepth = 0 → headerItems sh = []) ∧
    (p.headerDepth ≠ 0 → ∃ guides folio fault reissue : List HeaderItem,
      headerItems sh = guides ++ folio ++ fault ++ reissue ∧
      (sh.guides = none → guides = []) ∧
      (∀ g, sh.guides = some g → guides =
        [⟨.leftGuide, left, base, g.left, []⟩,
          ⟨.rightGuide, max left (right - g.right.length * p.cellWidth), base, g.right, []⟩]) ∧
      (sh.folio = none → folio = []) ∧
      (∀ n ds, sh.folio = some n → ds = decimalDigits 5 n →
        folio = [⟨.folio, max left ((left + right) / 2 - ds.length * p.cellWidth / 2), base, [], ds⟩]) ∧
      fault = (if sh.seqFault then [⟨.seqFault, left, marker, [], []⟩] else []) ∧
      (sh.reissue = 0 → reissue = []) ∧
      ∀ ds, sh.reissue ≠ 0 → ds = decimalDigits 5 sh.reissue →
        reissue = [⟨.reissue, right - ds.length * p.cellWidth, marker, [], ds⟩])

/-- R150, R157, R172, R175, R176: TAKEN, by the sheet it names, and STACKED naming no sheet in flight: the sheet passes to SENT and
its STACKED timer starts, a repeat changes nothing, and a stray counts; a link that is OFF takes in nothing. -/
def Obligations.TakenAndStrays : Prop :=
  (∀ (s : State) (e : Engine) (seq : Word16),
    (s.holdsSeq e seq = true ↔ ∃ i ∈ (s.link e).inFlight, i.seq = seq) ∧
      (s.isSending e seq = true ↔ ∃ x, some x ∈ s.ring ∧ x.sheet.seq = seq ∧ x.phase = .sending e)) ∧
  ∀ (s : State) (e : Engine) (seq : Word16), s.quiet →
    ((s.link e).state = .off → exec (.taken e seq) s = .next s ∧
      (s.notices.callSound → s.failoverSettled → exec (.stacked e seq) s = .next s)) ∧
    ((s.link e).state ≠ .off →
      (s.holdsSeq e seq = true → s.isSending e seq = true →
        ∃ t, exec (.taken e seq) s = .next t ∧
          t = { s with
            ring := s.ring.map fun o => match o with
              | none => none
              | some x => some (if x.sheet.seq = seq ∧ x.phase = .sending e then ⟨.sent e, x.sheet⟩ else x)
            linkA := t.linkA
            linkB := t.linkB } ∧
          t.link (otherEngine e) = s.link (otherEngine e) ∧
          t.link e = { (s.link e).heard with
            inFlight := (s.link e).inFlight.map fun i =>
              if i.seq = seq then ⟨i.seq, none, some s.settings.stackedMs⟩ else i }) ∧
      (s.holdsSeq e seq = true → s.isSending e seq = false →
        exec (.taken e seq) s = .next (s.setLink e (s.link e).heard)) ∧
      (s.holdsSeq e seq = false →
        exec (.taken e seq) s = .next ((s.setLink e (s.link e).heard).count .strays 1) ∧
        (s.notices.callSound → s.failoverSettled →
          exec (.stacked e seq) s = .next ((s.setLink e (s.link e).heard).count .strays 1))))

/-- R112, R134, R135, R141, R160, R164, R174, R185: STACKED naming a sheet in flight releases it and every sheet before it
in the list: they leave the list and their transfers end, each counts in the engine's counter and in S, where a release
past 255 ends the window and a second release counts in the new one. A released sheet, like one FINISHED before, leaves
the ring when every older sheet is released or FINISHED, and else stands FINISHED on its engine; every other sheet stays
as it was. A composer that waits opens its sheet in a slot freed so, and RING FULL falls; with two releases it may do so
between them (notes/assumptions/26.md). A transfer that waited behind one ended so begins with its SHEET BEGIN
(notes/assumptions/9.md). A link left with no sheet in flight goes OFF when it is not used, and OFFERING when it is
draining. The overflow flags are the model's own (notes/assumptions/25.md). -/
def Obligations.StackedReleasesInOrder : Prop :=
  (∀ (cfg : LinkSettings) (p : PaceMonitor),
    (p.sOver = false → p.s ≠ 255 → p.countRelease cfg = { p with s := p.s + 1 }) ∧
      (p.sOver = false → p.s = 255 → p.countRelease cfg = { p with s := 0, sOver := true }) ∧
      (p.sOver = true → p.countRelease cfg = PaceMonitor.countRelease cfg
        ⟨BitVec.ofNat 16 (65536 - cfg.paceWindow), BitVec.ofNat 8 (256 - cfg.paceTarget), 0, false, false, false⟩)) ∧
  (stackedCounter .a = .stackedA ∧ stackedCounter .b = .stackedB ∧
    ∀ (l : List InFlight) (seq : Word16), seq ∈ l.map (fun i => i.seq) → ∃ before after,
      l.map (fun i => i.seq) = before ++ seq :: after ∧ seq ∉ before ∧ coveredBy l seq = before ++ [seq]) ∧
  ∀ (s : State) (e : Engine) (seq : Word16) (covered : List Word16), s.quiet → (s.link e).state = .ready →
    s.holdsSeq e seq = true → s.ringSound → s.runSound → s.flightSound →
    covered = coveredBy (s.link e).inFlight seq →
    ∃ t, exec (.stacked e seq) s = .next t ∧
      t.link (otherEngine e) = s.link (otherEngine e) ∧
      (t.link e).inFlight = (s.link e).inFlight.filter (fun i => !covered.contains i.seq) ∧
      (t.link e).writing = (s.link e).writing.filter (fun w => !covered.contains w.seq) ∧
      (t.link e).pace = (PaceMonitor.countRelease s.settings)^[covered.length] (s.link e).pace ∧
      ((t.link e).inFlight ≠ [] ∨ s.uses e = true ∧ (s.link e).draining = false →
        t.link e = { s.link e with
          inFlight := (t.link e).inFlight
          writing := (t.link e).writing
          pace := (t.link e).pace
          lastSent := (t.link e).lastSent
          timers := { (s.link e).timers with silence := some 500 } } ∧
        ((t.link e).writing = [] → (t.link e).lastSent = (s.link e).lastSent) ∧
        ∀ w more, (t.link e).writing = w :: more →
          ((s.link e).writing.head?.map (fun b => b.seq) = some w.seq → (t.link e).lastSent = (s.link e).lastSent) ∧
          ((s.link e).writing.head?.map (fun b => b.seq) ≠ some w.seq → (t.link e).lastSent = [w.opening])) ∧
      ((t.link e).inFlight = [] → s.uses e = false → (t.link e).state = .off) ∧
      ((t.link e).inFlight = [] → s.uses e = true → (s.link e).draining = true →
        (t.link e).state = .offering ∧ (t.link e).draining = false ∧ (t.link e).mode = none ∧
          (t.link e).lastSent = [.offer s.settings.advertised false]) ∧
      t.counters = (s.count (stackedCounter e) covered.length).counters ∧
      (∀ x, some x ∈ s.ring → x.phase.isFinished = false → x.sheet.seq ∉ covered → some x ∈ t.ring) ∧
      (∀ x, some x ∈ s.ring → (x.phase.isFinished = true ∨ x.sheet.seq ∈ covered) →
        ((∃ y, some y ∈ s.ring ∧ y.phase.isFinished = false ∧ y.sheet.seq ∉ covered ∧
            s.age x.sheet.seq < s.age y.sheet.seq) →
          (x.sheet.seq ∈ covered → some ⟨.finished e, x.sheet⟩ ∈ t.ring) ∧
          (x.sheet.seq ∉ covered → some x ∈ t.ring)) ∧
        ((∀ y, some y ∈ s.ring → s.age x.sheet.seq < s.age y.sheet.seq →
            y.phase.isFinished = true ∨ y.sheet.seq ∈ covered) →
          ∀ z, some z ∈ t.ring → z.sheet.seq ≠ x.sheet.seq)) ∧
      s.EndsWait t covered ∧ t.ring.length = s.ring.length ∧
      t = { s with
        linkA := t.linkA
        linkB := t.linkB
        ring := t.ring
        composer := t.composer
        dispatcher := { s.dispatcher with active := t.dispatcher.active }
        counters := t.counters
        notices := t.notices }

/-- R136, R157, R160, R164, R171, R173, R175, R177: a STOP, a TAKEN timeout and a STACKED timeout on a READY link: every sheet in flight
returns to READY with its reissue count raised, and the link is STOPPED with its cause, OFFERING when it was draining, or OFF
when it is not used; STOP in the other states. That TAKEN_TIMEOUT and STACKED_TIMEOUT of a timer that does not run change
nothing is the model's choice (notes/assumptions/4.md). -/
def Obligations.StopsAndTimeoutsReturnEverySheet : Prop :=
  (∀ (s : State) (e : Engine),
    (s.takenTimerRuns e = true ↔ ∃ i ∈ (s.link e).inFlight, i.takenTimer.isSome = true ∧ s.isSending e i.seq = true) ∧
      ∀ q, s.stackedTimerRuns e q = true ↔ ∃ i ∈ (s.link e).inFlight, i.seq = q ∧ i.stackedTimer.isSome = true) ∧
  (∀ (c : Instr) (s : State) (e : Engine) (cause : StopCause), s.quiet → (s.link e).state = .ready →
    (c = .stop e cause ∧ cause.inStopFrame = true ∨
      c = .takenTimeout e ∧ s.takenTimerRuns e = true ∧ cause = .timeout ∨
      ∃ q, c = .stackedTimeout e q ∧ s.stackedTimerRuns e q = true ∧ cause = .timeout) →
    ∃ t, exec c s = .next t ∧
      t = { s with
        ring := t.ring
        linkA := t.linkA
        linkB := t.linkB
        dispatcher := { s.dispatcher with active := t.dispatcher.active }
        notices := t.notices } ∧
      ringReturned e s.ring t.ring ∧
      t.link (otherEngine e) = s.link (otherEngine e) ∧ (t.link e).inFlight = [] ∧ (t.link e).writing = [] ∧
      (s.uses e = true → (s.link e).draining = false →
        (t.link e).state = .stopped ∧ (t.link e).stopCause = some cause ∧ (t.link e).mode = (s.link e).mode) ∧
      (s.uses e = true → (s.link e).draining = true →
        (t.link e).state = .offering ∧ (t.link e).draining = false ∧ (t.link e).mode = none) ∧
      (s.uses e = false → (t.link e).state = .off)) ∧
    (∀ (s : State) (e : Engine), s.quiet → s.notices.callSound →
      (s.takenTimerRuns e = false → exec (.takenTimeout e) s = .next s) ∧
      ∀ q, s.stackedTimerRuns e q = false → exec (.stackedTimeout e q) s = .next s) ∧
    ∀ (s : State) (e : Engine) (cause : StopCause), s.quiet → cause.inStopFrame = true →
      ((s.link e).state = .settling → ∃ t, exec (.stop e cause) s = .next t ∧ s.OnlyAtLink t e ∧ t.ring = s.ring ∧
        t.link e = { s.link e with
          state := .stopped, stopCause := some cause, timers := ⟨none, none, none, none, some 500, none⟩ }) ∧
      ((s.link e).state = .stopped → ∃ t, exec (.stop e cause) s = .next t ∧ s.OnlyAtLink t e ∧ t.ring = s.ring ∧
        t.link e = { s.link e with
          stopCause := some cause, timers := { (s.link e).timers with silence := some 500 } }) ∧
      ((s.link e).state = .offering ∨ (s.link e).state = .agreeing ∨ (s.link e).state = .broken ∨
          (s.link e).state = .off → s.notices.callSound → s.failoverSettled → exec (.stop e cause) s = .next s)

/-- R112, R136, R157, R178, R185: JAM on a READY link releases the sheets its number covers, none when it names no sheet in
flight, and then returns the rest, with no stray counted; a composer that waits opens its sheet in a slot freed so, and
RING FULL falls; JAM in the other states. -/
def Obligations.JamReleasesThenReturns : Prop :=
  ∀ (s : State) (e : Engine) (last : Option Word16), s.quiet →
    ((s.link e).state = .ready → ∀ s1 : State,
      s1 = (match last with
        | some q =>
          if s.holdsSeq e q then (s.setLink e (s.link e).heard).releaseThrough e q
          else s.setLink e (s.link e).heard
        | none => s.setLink e (s.link e).heard) →
      ∃ t, exec (.jam e last) s = .next t ∧
        t = { s1 with
          ring := t.ring
          linkA := t.linkA
          linkB := t.linkB
          dispatcher := { s.dispatcher with active := t.dispatcher.active }
          notices := t.notices } ∧
        ringReturned e s1.ring t.ring ∧
        (∀ q, last = some q → s.holdsSeq e q = true → s.ringSound → s.runSound → s.flightSound →
          s.EndsWait t (coveredBy (s.link e).inFlight q)) ∧
        t.link (otherEngine e) = s.link (otherEngine e) ∧ (t.link e).inFlight = [] ∧ (t.link e).writing = [] ∧
        t.counter .strays = s.counter .strays ∧
        (s.uses e = true → (s.link e).draining = false →
          (t.link e).state = .stopped ∧ (t.link e).stopCause = some .jam) ∧
        (s.uses e = true → (s.link e).draining = true → (t.link e).state = .offering) ∧
        (s.uses e = false → (t.link e).state = .off)) ∧
    ((s.link e).state = .settling → ∃ t, exec (.jam e last) s = .next t ∧ s.OnlyAtLink t e ∧ t.ring = s.ring ∧
      t.link e = { s.link e with
        state := .stopped, stopCause := some .jam, timers := ⟨none, none, none, none, some 500, none⟩ }) ∧
    ((s.link e).state = .stopped → ∃ t, exec (.jam e last) s = .next t ∧ s.OnlyAtLink t e ∧ t.ring = s.ring ∧
      t.link e = { s.link e with
        stopCause := some .jam, timers := { (s.link e).timers with silence := some 500 } }) ∧
    ((s.link e).state = .offering ∨ (s.link e).state = .agreeing ∨ (s.link e).state = .broken ∨
        (s.link e).state = .off → s.notices.callSound → s.failoverSettled → exec (.jam e last) s = .next s)

/-- R150, R154, R156, R157, R179, R183: READY brings a STOPPED link back without agreeing again and posts ENGINE RESTORED; READY and
IDLE restart the silence timer where one is kept; IDLE is noted in OFFERING; otherwise they are ignored. -/
def Obligations.ReadyAndIdleFrames : Prop :=
  ∀ (s : State) (e : Engine), s.quiet →
    ((s.link e).state = .stopped → ∃ t, exec (.ready e) s = .next t ∧
      t = { s with
        linkA := t.linkA
        linkB := t.linkB
        dispatcher := { s.dispatcher with active := t.dispatcher.active }
        notices := t.notices } ∧
      t.link (otherEngine e) = s.link (otherEngine e) ∧
      t.link e = { s.link e with
        state := .ready
        hasBeenReady := true
        stopCause := none
        timers := ⟨none, none, none, none, some 500, none⟩
        pace := ⟨BitVec.ofNat 16 (65536 - s.settings.paceWindow), BitVec.ofNat 8 (256 - s.settings.paceTarget),
          (s.link e).pace.shortCount, (s.link e).pace.degraded, false, false⟩ } ∧
      inSet t.notices.pending .engineRestored = true) ∧
    ((s.link e).state = .settling ∨ (s.link e).state = .ready → s.notices.callSound → s.failoverSettled →
      exec (.ready e) s = .next (s.setLink e
        { s.link e with timers := { (s.link e).timers with silence := some 500 } })) ∧
    ((s.link e).state = .off ∨ (s.link e).state = .offering ∨ (s.link e).state = .agreeing ∨
        (s.link e).state = .broken → s.notices.callSound → s.failoverSettled → exec (.ready e) s = .next s) ∧
    ((s.link e).state = .offering →
      exec (.idle e) s = .next (s.setLink e { s.link e with idleSeen := true })) ∧
    ((s.link e).state = .settling ∨ (s.link e).state = .ready ∨ (s.link e).state = .stopped →
      exec (.idle e) s = .next (s.setLink e
        { s.link e with timers := { (s.link e).timers with silence := some 500 } })) ∧
    ((s.link e).state = .off ∨ (s.link e).state = .agreeing ∨ (s.link e).state = .broken →
      exec (.idle e) s = .next s)

/-- R150, R151, R153, R155, R156, R158: an engine's OFFER by the state of its link: counted, resolved at three alike, acknowledged,
ignored, or taken as a restart that returns every sheet in flight. -/
def Obligations.OfferFrames : Prop :=
  (∀ (advertised modes : ModeSet) (m : Mode), resolveMode advertised modes = some m ↔
    (advertised &&& modes).getLsbD (modeNumber (some m) - 1) = true ∧
      ∀ i, i < modeNumber (some m) - 1 → (advertised &&& modes).getLsbD i = false) ∧
    ∀ (s : State) (e : Engine) (modes : ModeSet) (ack : Bool), s.quiet → s.failoverSettled →
      ∃ t, exec (.offer e modes ack) s = .next t ∧
        t = { s with
          ring := t.ring
          linkA := t.linkA
          linkB := t.linkB
          dispatcher := { s.dispatcher with active := t.dispatcher.active }
          notices := t.notices } ∧
        t.link (otherEngine e) = s.link (otherEngine e) ∧
        ((s.link e).state ≠ .ready → (s.link e).state ≠ .stopped → t.ring = s.ring) ∧
        ((s.link e).state = .off ∨ (s.link e).state = .broken → t.link e = s.link e) ∧
        ((s.link e).state = .offering →
          (∀ n, n = (if (s.link e).keptSet = some modes then (s.link e).offerCount + 1 else 1) →
            (n < 3 → t.link e =
              { s.link e with offersSeen := true, keptSet := some modes, offerCount := n }) ∧
            (3 ≤ n → ∀ m, resolveMode s.settings.advertised modes = some m →
              (t.link e).state = .agreeing ∧ (t.link e).agreedSet = some modes ∧ (t.link e).mode = some m ∧
                (t.link e).lastSent = [.offer s.settings.advertised true] ∧
                (t.link e).timers = ⟨some 50, none, some 1000, none, none, none⟩) ∧
            (3 ≤ n → resolveMode s.settings.advertised modes = none →
              (t.link e).state = .broken ∧ (t.link e).timers = ⟨none, none, none, none, none, some 800⟩ ∧
                inSet t.notices.pending .negotiationFault = true))) ∧
        ((s.link e).state = .agreeing → (s.link e).agreedSet = some modes →
          (ack = true → Link.SettlesTo s.settings
            { s.link e with lastSent := [.offer s.settings.advertised true] } (t.link e)) ∧
          (ack = false → t.link e = s.link e)) ∧
        ((s.link e).state = .settling → (s.link e).agreedSet = some modes → ack = true →
          t.link e = { s.link e with timers := { (s.link e).timers with silence := some 500 } }) ∧
        (((s.link e).state = .agreeing ∧ (s.link e).agreedSet ≠ some modes) ∨
            ((s.link e).state = .settling ∧ ¬((s.link e).agreedSet = some modes ∧ ack = true)) ∨
            (((s.link e).state = .ready ∨ (s.link e).state = .stopped) ∧ s.uses e = true) →
          (t.link e).state = .offering ∧ (t.link e).keptSet = some modes ∧ (t.link e).offerCount = 1 ∧
            (t.link e).offersSeen = true ∧ (t.link e).idleSeen = false ∧ (t.link e).mode = none ∧
            (t.link e).lastSent = [.offer s.settings.advertised false] ∧
            (t.link e).timers = ⟨some 50, some 2000, none, none, none, none⟩) ∧
        ((s.link e).state = .ready ∨ (s.link e).state = .stopped →
          ringReturned e s.ring t.ring ∧ (t.link e).inFlight = [] ∧ (t.link e).writing = [] ∧
            (s.uses e = false → (t.link e).state = .off))

/-- R149, R152, R154 to R157, R159, R160, R183: what the six timers of a link's agreement do when they expire, at the link
and nowhere else but in the ring, the active engine and the Notice Unit; the timers that run on entering SETTLING, READY, BREAK
and OFFERING. An expiry of a timer that does not run changes nothing by the model's choice (notes/assumptions/4.md). -/
def Obligations.LinkTimersExpire : Prop :=
  ∀ (s : State) (e : Engine), s.quiet →
    ((s.link e).state = .offering →
      exec (.offerRepeat e) s =
        .next (s.setLink e { s.link e with lastSent := [.offer s.settings.advertised false] })) ∧
    ((s.link e).state = .agreeing →
      exec (.offerRepeat e) s =
        .next (s.setLink e { s.link e with lastSent := [.offer s.settings.advertised true] })) ∧
    ((s.link e).state ≠ .offering → (s.link e).state ≠ .agreeing → exec (.offerRepeat e) s = .next s) ∧
    ((s.link e).state = .offering → ∃ t, exec (.offerWindow e) s = .next t ∧ s.OnlyAtLink t e ∧ t.ring = s.ring ∧
      ((s.link e).offersSeen = true ∨
          ((s.link e).idleSeen = true ∧ s.settings.advertised.getLsbD 3 = false) →
        Link.BreaksTo (s.link e) (t.link e) ∧ inSet t.notices.pending .negotiationFault = true) ∧
      ((s.link e).offersSeen = false → (s.link e).idleSeen = true → s.settings.advertised.getLsbD 3 = true →
        Link.SettlesTo s.settings { s.link e with mode := some .plain, plain := true, agreedSet := none }
          (t.link e)) ∧
      ((s.link e).offersSeen = false → (s.link e).idleSeen = false →
        t.link e = { s.link e with timers := { (s.link e).timers with offerWindow := some 2000 } })) ∧
    ((s.link e).state = .agreeing → ∃ t, exec (.acknowledgementWindow e) s = .next t ∧ s.OnlyAtLink t e ∧
      t.ring = s.ring ∧ t.dispatcher = s.dispatcher ∧ Link.BreaksTo (s.link e) (t.link e) ∧
      inSet t.notices.pending .negotiationFault = inSet s.notices.pending .negotiationFault) ∧
    ((s.link e).state = .settling → ∃ t, exec (.settleTimer e) s = .next t ∧ s.OnlyAtLink t e ∧
      t.ring = s.ring ∧ Link.ReadiesTo s.settings (s.link e) (t.link e)) ∧
    ((s.link e).timers.silence.isSome = true → ∃ t, exec (.silenceTimer e) s = .next t ∧ s.OnlyAtLink t e ∧
      ringReturned e s.ring t.ring ∧
      (s.uses e = true → Link.BreaksTo { s.link e with inFlight := [], writing := [] } (t.link e)) ∧
      (s.uses e = false → t.link e = { s.link e with
        inFlight := [], writing := [], state := .off, agreedSet := none, mode := none, plain := false
        draining := false, hasBeenReady := false, stopCause := none
        timers := ⟨none, none, none, none, none, none⟩ })) ∧
    ((s.link e).state = .broken → ∃ t, exec (.breakEnd e) s = .next t ∧ s.OnlyAtLink t e ∧
      t.ring = s.ring ∧ t.dispatcher = s.dispatcher ∧
      t.link e = { s.link e with
        state := .offering, keptSet := none, offerCount := 0, offersSeen := false, idleSeen := false
        agreedSet := none, mode := none, plain := false, draining := false, stopCause := none
        lastSent := [.offer s.settings.advertised false]
        timers := ⟨some 50, some 2000, none, none, none, none⟩ }) ∧
    (s.notices.callSound → s.failoverSettled →
      ((s.link e).state ≠ .offering → exec (.offerWindow e) s = .next s) ∧
      ((s.link e).state ≠ .agreeing → exec (.acknowledgementWindow e) s = .next s) ∧
      ((s.link e).state ≠ .settling → exec (.settleTimer e) s = .next s) ∧
      ((s.link e).timers.silence = none → exec (.silenceTimer e) s = .next s) ∧
      ((s.link e).state ≠ .broken → exec (.breakEnd e) s = .next s))

/-- R183, R184, R185, R186, R206: TICK, WINDOW_SHORT, WINDOW_MET, BURST_TIMER and CALL_PATTERN; what the OPERATOR CALL
output shows for each class; a class-4 source that becomes both enabled and pending starts the burst timer; a class
shown that changes to 2 or 3 starts its pattern at the on period; and after every command the burst timer and the
pattern run only while the class they belong to is live or shown. The overflow flags are the model's own
(notes/assumptions/25.md). That WINDOW_SHORT and WINDOW_MET change nothing when no overflow is due is the
model's choice (notes/assumptions/4.md). -/
def Obligations.TicksWindowsAndCallTimers : Prop :=
  (∀ s : State, s.quiet →
    ∃ t, exec .tick s = .next t ∧ t = { s with linkA := t.linkA, linkB := t.linkB } ∧ ∀ e : Engine,
      ((s.link e).state = .ready → (s.link e).inFlight ≠ [] →
        t.link e = { s.link e with pace := { (s.link e).pace with
          t := (s.link e).pace.t + 1
          tOver := decide ((s.link e).pace.t = 65535) } }) ∧
      ((s.link e).state ≠ .ready ∨ (s.link e).inFlight = [] → t.link e = s.link e)) ∧
    (∀ (s : State) (e : Engine),
      ((s.link e).pace.tOver = true →
        ∃ t n, n = min 7 ((s.link e).pace.shortCount + 1) ∧ exec (.windowShort e) s = .next t ∧
          t = { s with
            linkA := t.linkA
            linkB := t.linkB
            notices := edgesOn s.notices s.conditions t.conditions } ∧
          t.link (otherEngine e) = s.link (otherEngine e) ∧
          t.link e = { s.link e with pace :=
            ⟨BitVec.ofNat 16 (65536 - s.settings.paceWindow), BitVec.ofNat 8 (256 - s.settings.paceTarget), n,
              (s.link e).pace.degraded || decide (s.settings.degradeThreshold ≤ n), false, false⟩ }) ∧
      ((s.link e).pace.tOver = false → exec (.windowShort e) s = .next s) ∧
      ((s.link e).pace.sOver = true →
        ∃ t, exec (.windowMet e) s = .next t ∧
          t = { s with
            linkA := t.linkA
            linkB := t.linkB
            notices := edgesOn s.notices s.conditions t.conditions } ∧
          t.link (otherEngine e) = s.link (otherEngine e) ∧
          t.link e = { s.link e with pace :=
            ⟨BitVec.ofNat 16 (65536 - s.settings.paceWindow), BitVec.ofNat 8 (256 - s.settings.paceTarget), 0,
              false, false, false⟩ }) ∧
      ((s.link e).pace.sOver = false → exec (.windowMet e) s = .next s)) ∧
    (∀ s : State, s.quiet →
      exec .burstTimer s = .next { s with notices := { s.notices with burst := none } } ∧
      exec .callPattern s = .next { s with notices := { s.notices with
        pattern := match s.notices.pattern with
          | some on => some !on
          | none => none } }) ∧
    (∀ (n : NoticeUnit) (live : Source10 → Prop), (∀ x, live x ↔ inSet n.mask x = true ∧ inSet n.pending x = true) →
      ∀ one two three four : Prop, (one ↔ live .engineStoppedA ∨ live .engineStoppedB) → (two ↔ live .ringFull) →
      (three ↔ live .degraded ∨ live .negotiationFault ∨ live .tableRefused) →
      (four ↔ live .listingOrder ∨ live .folioLimit ∨ live .engineRestored ∨ live .failover) →
      (one → n.shownClass = 1 ∧ n.callLine = true) ∧
      (¬one → two → n.shownClass = 2 ∧ ∀ on, n.pattern = some on → n.callLine = on) ∧
      (¬one → ¬two → three → n.shownClass = 3 ∧ ∀ on, n.pattern = some on → n.callLine = on) ∧
      (¬one → ¬two → ¬three → four → n.shownClass = 4 ∧ (n.callLine = true ↔ n.burst.isSome = true)) ∧
      (¬one → ¬two → ¬three → ¬four → n.shownClass = 0 ∧ n.callLine = false)) ∧
    ∀ (c : Instr) (s t : State), s.notices.callSound → exec c s = .next t → t.notices.callSound ∧
      (s.quiet →
        (∀ x ∈ [Source10.listingOrder, .folioLimit, .engineRestored, .failover], inSet t.notices.live x = true →
          inSet s.notices.live x = false → t.notices.burst = some 1000) ∧
        (t.notices.shownClass = 2 ∨ t.notices.shownClass = 3 → s.notices.shownClass ≠ t.notices.shownClass →
          t.notices.pattern = some true))

/-- R181: in STANDBY, when the active engine's link is not READY and the other is READY, the other becomes active and FAILOVER is
posted: at the STOP of the active engine, at the READY of the standby engine, and at any other command but a reset that changes
the active engine; and after every command no failover is due. A LINK SETTINGS record that changes the arrangement and the set
may take the new active link out of READY after the failover (notes/assumptions/14.md). -/
def Obligations.StandbyFailsOver : Prop :=
  (∀ (s t : State) (e : Engine) (cause : StopCause), s.quiet → s.settings.arrangement = .standby →
    s.dispatcher.active = e → (s.link e).state = .ready → (s.link (otherEngine e)).state = .ready →
    exec (.stop e cause) s = .next t →
    t.dispatcher = { s.dispatcher with active := otherEngine e } ∧ inSet t.notices.pending .failover = true) ∧
    (∀ (s t : State) (e : Engine), s.quiet → s.settings.arrangement = .standby → s.dispatcher.active = otherEngine e →
      (s.link (otherEngine e)).state ≠ .ready → (s.link e).state = .stopped → exec (.ready e) s = .next t →
      t.dispatcher = { s.dispatcher with active := e } ∧ inSet t.notices.pending .failover = true) ∧
    (∀ (c : Instr) (s t : State), exec c s = .next t → (∀ straps, c ≠ .hardwareReset straps) → c ≠ .lineReset →
      c ≠ .tableReset → t.dispatcher.active ≠ s.dispatcher.active →
      t.settings.arrangement = .standby ∧ inSet t.notices.pending .failover = true ∧
        t.dispatcher.active = otherEngine s.dispatcher.active ∧ (t.link s.dispatcher.active).state ≠ .ready ∧
        (c ≠ .tableLinkSettings → (t.link t.dispatcher.active).state = .ready)) ∧
    ∀ (c : Instr) (s t : State), s.failoverSettled → exec c s = .next t → t.failoverSettled

/-! ### Laws of the device, kept by every step -/

/-- R13, R202: "The NOTICE flag of a reply is set exactly when at least one notice source is both enabled and pending at the moment
the reply is presented." Every reply that a command presents has the flag of the Notice Unit after the command, but for the
reply to a RESET record, which is presented before the reset (R20). SYNC_DONE, ENGINE_STOPPED and the other due steps need
no quiet state, and the replies they present before another command stand in the first clause. -/
def Obligations.NoticeFlagTellsOfLiveSources : Prop :=
  (∀ (s : State) (r : Reply), s.takeDue.lp.port = .replying r → s.lp.port ≠ .replying r →
    (r.notice = true ↔
      ∃ x : Source10, inSet s.takeDue.notices.mask x = true ∧ inSet s.takeDue.notices.pending x = true)) ∧
  ∀ (c : Instr) (s t : State) (r : Reply), s.quiet ∨ takesDueFirst c = false → c ≠ .tableReset → exec c s = .next t → t.lp.port = .replying r →
    s.lp.port ≠ .replying r →
    (r.notice = true ↔ ∃ x : Source10, inSet t.notices.mask x = true ∧ inSet t.notices.pending x = true)

/-- R200: a count adds to its counter alone, which holds at 4,294,967,295; and "No counter decreases except by hardware
reset or COUNTER CLEAR." -/
def Obligations.CountersNeverDecrease : Prop :=
  (∀ (v : Word32) (n : Nat), (countUp v n).toNat = min 4294967295 (v.toNat + n)) ∧
  (∀ (s : State) (k d : Counter) (n : Nat), s.count k n = { s with counters := (s.count k n).counters } ∧
    (s.count k n).counter d = if d = k then countUp (s.counter d) n else s.counter d) ∧
  ∀ (c : Instr) (s t : State), exec c s = .next t → (∀ straps, c ≠ .hardwareReset straps) → c ≠ .tableCounterClear →
    ∀ k : Fin 16, (s.counters.get k).toNat ≤ (t.counters.get k).toNat

/-- R25, R38, R56, R59: the queue never holds more than 16 entries, the room an order in hand has reserved included; no order holds
room while a form end is owed; the form position stays in range; every step keeps this. -/
def Obligations.QueueAndFormStayInRange : Prop :=
  ∀ s t : State, s.queueSound → step s = .next t → t.queueSound

/-- R108, R111, R112, R130: the ring keeps its six slots with at most one ASSEMBLING, and none while the composer waits; every step
keeps this. -/
def Obligations.AtMostOneSheetAssembles : Prop :=
  ∀ s t : State, s.ringSound → step s = .next t → t.ringSound

/-- R113, R114, R133: the sheets in the ring have distinct numbers that form one run ending just below the next sequence
number; every step keeps this. Between two settings of the next folio every sheet opened takes the next sequence number and
the next folio, and both then advance, the folio holding at 9999: but for the resets and SHEET_PLAN_ENTRY, no command
changes them in any other way. -/
def Obligations.SheetNumbersFormOneRun : Prop :=
  (∀ (c : Instr) (s t : State), s.ringSound → s.runSound → exec c s = .next t → (∀ straps, c ≠ .hardwareReset straps) →
    c ≠ .lineReset → c ≠ .tableReset →
    t.composer.nextSeq = s.composer.nextSeq ∧ (c ≠ .sheetPlanEntry → t.composer.nextFolio = s.composer.nextFolio) ∨
      t.composer.nextSeq = s.composer.afterOpening.nextSeq ∧ t.composer.nextFolio = s.composer.afterOpening.nextFolio ∧
        ∃ x, some x ∈ t.ring ∧ x.sheet.seq = s.composer.nextSeq ∧ x.sheet.folio = s.composer.nextFolio) ∧
  ∀ s t : State, s.ringSound ∧ s.runSound → step s = .next t → t.runSound

/-- R141: each in-flight list holds the numbers of the sheets SENDING or SENT on its engine, at most two and none twice, and an
engine has at most one sheet SENDING, the last of its list; every step keeps this. -/
def Obligations.InFlightListsMatchTheRing : Prop :=
  ∀ s t : State, s.ringSound ∧ s.runSound ∧ s.flightSound → step s = .next t →
    t.flightSound ∧ (s.flightOrdered → t.flightOrdered)

/-- R95, R103, R122, three laws of the device: every placed line on a sheet keeps its step within the plan, its printed width within
the column and its baseline within the column depth; and every committed sheet has guides exactly when it holds a keyed line,
cut from its first and last display keys; every step keeps this. -/
def Obligations.SheetsKeepTheLayoutLaws : Prop :=
  ∀ s t : State, s.ringSound ∧ s.linesSound ∧ s.guidesSound → step s = .next t → t.linesSound ∧ t.guidesSound

/-- R114, R180, R187, R201 to R204: the numbers of the sources and when each of the five conditions holds; a condition that
rises pends, whatever the mask; in LATCHED mode a fall clears it; in CONFIRMED mode neither a fall nor a read clears
anything, and an event stays pending until it is read or cleared. R203: "So in LATCHED mode a pending condition source
always has its condition true." Every step keeps this. -/
def Obligations.LatchedConditionsAreTrue : Prop :=
  (∀ k : NoticeSet, ∀ x ∈ ([(.engineStoppedA, 0), (.engineStoppedB, 1), (.engineRestored, 2), (.failover, 3),
      (.degraded, 4), (.listingOrder, 5), (.ringFull, 6), (.folioLimit, 7), (.negotiationFault, 8), (.tableRefused, 9)] :
      List (Source10 × Nat)), inSet k x.1 = k.getLsbD x.2) ∧
  (∀ s : State,
    (∀ e x, e = .a ∧ x = .engineStoppedA ∨ e = .b ∧ x = .engineStoppedB →
      (inSet s.conditions x = true ↔ s.uses e = true ∧ ((s.link e).state = .stopped ∨
        ((s.link e).state = .broken ∨ (s.link e).state = .offering) ∧ (s.link e).hasBeenReady = true))) ∧
    (inSet s.conditions .degraded = true ↔ ∃ e, s.uses e = true ∧ (s.link e).pace.degraded = true) ∧
    (inSet s.conditions .ringFull = true ↔ s.composer.waiting = true) ∧
    (inSet s.conditions .folioLimit = true ↔ s.composer.nextFolio = some 9999) ∧
    ∀ x ∈ [Source10.engineRestored, .failover, .listingOrder, .negotiationFault, .tableRefused],
      inSet s.conditions x = false) ∧
  (∀ (c : Instr) (s t : State) (x : Source10), exec c s = .next t →
    (inSet s.conditions x = false → inSet t.conditions x = true → c ≠ .queryNotices → inSet t.notices.pending x = true) ∧
    (inSet s.conditions x = true → inSet t.conditions x = false → s.notices.confirmed = false →
      inSet t.notices.pending x = false) ∧
    (inSet s.notices.pending x = true → (∀ straps, c ≠ .hardwareReset straps) → c ≠ .lineReset → c ≠ .tableReset →
      c ≠ .tableNoticeClear → c ≠ .tableNoticeControl →
      s.notices.confirmed = true ∨
        c ≠ .queryNotices ∧ x ∈ [Source10.engineRestored, .failover, .listingOrder, .negotiationFault, .tableRefused] →
      inSet t.notices.pending x = true)) ∧
  ∀ s t : State, s.latchedSound → step s = .next t → t.latchedSound

/-- R23, R62, R64, R73, R76, R91, R110, R162: every table in force, and every stream table that waits, stays within its ranges;
every step keeps this. -/
def Obligations.TablesStayWithinTheirRanges : Prop :=
  ∀ s t : State, s.tablesSound → step s = .next t → t.tablesSound
end

