-- ==== Sys2Proof/Laws/State.lean ====
section
/-! SUPPORT. What each update of the state leaves as it was: one lemma per field per update. -/

namespace Sys2Proof.Machine

/-! ### setLink -/

@[simp] theorem State.setLink_lp (s : State) (e : Engine) (l : Link) : (s.setLink e l).lp = s.lp := by cases e <;> rfl
@[simp] theorem State.setLink_map (s : State) (e : Engine) (l : Link) : (s.setLink e l).map = s.map := by cases e <;> rfl
@[simp] theorem State.setLink_forms (s : State) (e : Engine) (l : Link) : (s.setLink e l).forms = s.forms := by cases e <;> rfl
@[simp] theorem State.setLink_queue (s : State) (e : Engine) (l : Link) : (s.setLink e l).queue = s.queue := by cases e <;> rfl
@[simp] theorem State.setLink_keys (s : State) (e : Engine) (l : Link) : (s.setLink e l).keys = s.keys := by cases e <;> rfl
@[simp] theorem State.setLink_composer (s : State) (e : Engine) (l : Link) : (s.setLink e l).composer = s.composer := by cases e <;> rfl
@[simp] theorem State.setLink_ring (s : State) (e : Engine) (l : Link) : (s.setLink e l).ring = s.ring := by cases e <;> rfl
@[simp] theorem State.setLink_settings (s : State) (e : Engine) (l : Link) : (s.setLink e l).settings = s.settings := by cases e <;> rfl
@[simp] theorem State.setLink_dispatcher (s : State) (e : Engine) (l : Link) : (s.setLink e l).dispatcher = s.dispatcher := by cases e <;> rfl
@[simp] theorem State.setLink_notices (s : State) (e : Engine) (l : Link) : (s.setLink e l).notices = s.notices := by cases e <;> rfl
@[simp] theorem State.setLink_counters (s : State) (e : Engine) (l : Link) : (s.setLink e l).counters = s.counters := by cases e <;> rfl
@[simp] theorem State.setLink_pending (s : State) (e : Engine) (l : Link) : (s.setLink e l).pending = s.pending := by cases e <;> rfl

/-! ### modLink -/

@[simp] theorem State.modLink_lp (s : State) (e : Engine) (f : Link → Link) : (s.modLink e f).lp = s.lp := by cases e <;> rfl
@[simp] theorem State.modLink_map (s : State) (e : Engine) (f : Link → Link) : (s.modLink e f).map = s.map := by cases e <;> rfl
@[simp] theorem State.modLink_forms (s : State) (e : Engine) (f : Link → Link) : (s.modLink e f).forms = s.forms := by cases e <;> rfl
@[simp] theorem State.modLink_queue (s : State) (e : Engine) (f : Link → Link) : (s.modLink e f).queue = s.queue := by cases e <;> rfl
@[simp] theorem State.modLink_keys (s : State) (e : Engine) (f : Link → Link) : (s.modLink e f).keys = s.keys := by cases e <;> rfl
@[simp] theorem State.modLink_composer (s : State) (e : Engine) (f : Link → Link) : (s.modLink e f).composer = s.composer := by cases e <;> rfl
@[simp] theorem State.modLink_ring (s : State) (e : Engine) (f : Link → Link) : (s.modLink e f).ring = s.ring := by cases e <;> rfl
@[simp] theorem State.modLink_settings (s : State) (e : Engine) (f : Link → Link) : (s.modLink e f).settings = s.settings := by cases e <;> rfl
@[simp] theorem State.modLink_dispatcher (s : State) (e : Engine) (f : Link → Link) : (s.modLink e f).dispatcher = s.dispatcher := by cases e <;> rfl
@[simp] theorem State.modLink_notices (s : State) (e : Engine) (f : Link → Link) : (s.modLink e f).notices = s.notices := by cases e <;> rfl
@[simp] theorem State.modLink_counters (s : State) (e : Engine) (f : Link → Link) : (s.modLink e f).counters = s.counters := by cases e <;> rfl
@[simp] theorem State.modLink_pending (s : State) (e : Engine) (f : Link → Link) : (s.modLink e f).pending = s.pending := by cases e <;> rfl

/-! ### count -/

@[simp] theorem State.count_lp (s : State) (c : Counter) (n : Nat) : (s.count c n).lp = s.lp := rfl
@[simp] theorem State.count_map (s : State) (c : Counter) (n : Nat) : (s.count c n).map = s.map := rfl
@[simp] theorem State.count_forms (s : State) (c : Counter) (n : Nat) : (s.count c n).forms = s.forms := rfl
@[simp] theorem State.count_queue (s : State) (c : Counter) (n : Nat) : (s.count c n).queue = s.queue := rfl
@[simp] theorem State.count_keys (s : State) (c : Counter) (n : Nat) : (s.count c n).keys = s.keys := rfl
@[simp] theorem State.count_composer (s : State) (c : Counter) (n : Nat) : (s.count c n).composer = s.composer := rfl
@[simp] theorem State.count_ring (s : State) (c : Counter) (n : Nat) : (s.count c n).ring = s.ring := rfl
@[simp] theorem State.count_settings (s : State) (c : Counter) (n : Nat) : (s.count c n).settings = s.settings := rfl
@[simp] theorem State.count_dispatcher (s : State) (c : Counter) (n : Nat) : (s.count c n).dispatcher = s.dispatcher := rfl
@[simp] theorem State.count_linkA (s : State) (c : Counter) (n : Nat) : (s.count c n).linkA = s.linkA := rfl
@[simp] theorem State.count_linkB (s : State) (c : Counter) (n : Nat) : (s.count c n).linkB = s.linkB := rfl
@[simp] theorem State.count_notices (s : State) (c : Counter) (n : Nat) : (s.count c n).notices = s.notices := rfl
@[simp] theorem State.count_pending (s : State) (c : Counter) (n : Nat) : (s.count c n).pending = s.pending := rfl

/-! ### enqueue -/

@[simp] theorem State.enqueue_lp (s : State) (es : List Entry) : (s.enqueue es).lp = s.lp := rfl
@[simp] theorem State.enqueue_map (s : State) (es : List Entry) : (s.enqueue es).map = s.map := rfl
@[simp] theorem State.enqueue_forms (s : State) (es : List Entry) : (s.enqueue es).forms = s.forms := rfl
@[simp] theorem State.enqueue_keys (s : State) (es : List Entry) : (s.enqueue es).keys = s.keys := rfl
@[simp] theorem State.enqueue_composer (s : State) (es : List Entry) : (s.enqueue es).composer = s.composer := rfl
@[simp] theorem State.enqueue_ring (s : State) (es : List Entry) : (s.enqueue es).ring = s.ring := rfl
@[simp] theorem State.enqueue_settings (s : State) (es : List Entry) : (s.enqueue es).settings = s.settings := rfl
@[simp] theorem State.enqueue_dispatcher (s : State) (es : List Entry) : (s.enqueue es).dispatcher = s.dispatcher := rfl
@[simp] theorem State.enqueue_linkA (s : State) (es : List Entry) : (s.enqueue es).linkA = s.linkA := rfl
@[simp] theorem State.enqueue_linkB (s : State) (es : List Entry) : (s.enqueue es).linkB = s.linkB := rfl
@[simp] theorem State.enqueue_notices (s : State) (es : List Entry) : (s.enqueue es).notices = s.notices := rfl
@[simp] theorem State.enqueue_counters (s : State) (es : List Entry) : (s.enqueue es).counters = s.counters := rfl
@[simp] theorem State.enqueue_pending (s : State) (es : List Entry) : (s.enqueue es).pending = s.pending := rfl

/-! ### removeHead -/

@[simp] theorem State.removeHead_lp (s : State) : (s.removeHead).lp = s.lp := rfl
@[simp] theorem State.removeHead_map (s : State) : (s.removeHead).map = s.map := rfl
@[simp] theorem State.removeHead_forms (s : State) : (s.removeHead).forms = s.forms := rfl
@[simp] theorem State.removeHead_keys (s : State) : (s.removeHead).keys = s.keys := rfl
@[simp] theorem State.removeHead_composer (s : State) : (s.removeHead).composer = s.composer := rfl
@[simp] theorem State.removeHead_ring (s : State) : (s.removeHead).ring = s.ring := rfl
@[simp] theorem State.removeHead_settings (s : State) : (s.removeHead).settings = s.settings := rfl
@[simp] theorem State.removeHead_dispatcher (s : State) : (s.removeHead).dispatcher = s.dispatcher := rfl
@[simp] theorem State.removeHead_linkA (s : State) : (s.removeHead).linkA = s.linkA := rfl
@[simp] theorem State.removeHead_linkB (s : State) : (s.removeHead).linkB = s.linkB := rfl
@[simp] theorem State.removeHead_notices (s : State) : (s.removeHead).notices = s.notices := rfl
@[simp] theorem State.removeHead_counters (s : State) : (s.removeHead).counters = s.counters := rfl
@[simp] theorem State.removeHead_pending (s : State) : (s.removeHead).pending = s.pending := rfl

/-! ### modSheet -/

@[simp] theorem State.modSheet_lp (s : State) (f : Sheet → Sheet) : (s.modSheet f).lp = s.lp := rfl
@[simp] theorem State.modSheet_map (s : State) (f : Sheet → Sheet) : (s.modSheet f).map = s.map := rfl
@[simp] theorem State.modSheet_forms (s : State) (f : Sheet → Sheet) : (s.modSheet f).forms = s.forms := rfl
@[simp] theorem State.modSheet_queue (s : State) (f : Sheet → Sheet) : (s.modSheet f).queue = s.queue := rfl
@[simp] theorem State.modSheet_keys (s : State) (f : Sheet → Sheet) : (s.modSheet f).keys = s.keys := rfl
@[simp] theorem State.modSheet_composer (s : State) (f : Sheet → Sheet) : (s.modSheet f).composer = s.composer := rfl
@[simp] theorem State.modSheet_settings (s : State) (f : Sheet → Sheet) : (s.modSheet f).settings = s.settings := rfl
@[simp] theorem State.modSheet_dispatcher (s : State) (f : Sheet → Sheet) : (s.modSheet f).dispatcher = s.dispatcher := rfl
@[simp] theorem State.modSheet_linkA (s : State) (f : Sheet → Sheet) : (s.modSheet f).linkA = s.linkA := rfl
@[simp] theorem State.modSheet_linkB (s : State) (f : Sheet → Sheet) : (s.modSheet f).linkB = s.linkB := rfl
@[simp] theorem State.modSheet_notices (s : State) (f : Sheet → Sheet) : (s.modSheet f).notices = s.notices := rfl
@[simp] theorem State.modSheet_counters (s : State) (f : Sheet → Sheet) : (s.modSheet f).counters = s.counters := rfl
@[simp] theorem State.modSheet_pending (s : State) (f : Sheet → Sheet) : (s.modSheet f).pending = s.pending := rfl

/-! ### openSheet -/

@[simp] theorem State.openSheet_lp (s : State) : (s.openSheet).lp = s.lp := rfl
@[simp] theorem State.openSheet_map (s : State) : (s.openSheet).map = s.map := rfl
@[simp] theorem State.openSheet_forms (s : State) : (s.openSheet).forms = s.forms := rfl
@[simp] theorem State.openSheet_queue (s : State) : (s.openSheet).queue = s.queue := rfl
@[simp] theorem State.openSheet_keys (s : State) : (s.openSheet).keys = s.keys := rfl
@[simp] theorem State.openSheet_settings (s : State) : (s.openSheet).settings = s.settings := rfl
@[simp] theorem State.openSheet_dispatcher (s : State) : (s.openSheet).dispatcher = s.dispatcher := rfl
@[simp] theorem State.openSheet_linkA (s : State) : (s.openSheet).linkA = s.linkA := rfl
@[simp] theorem State.openSheet_linkB (s : State) : (s.openSheet).linkB = s.linkB := rfl
@[simp] theorem State.openSheet_notices (s : State) : (s.openSheet).notices = s.notices := rfl
@[simp] theorem State.openSheet_counters (s : State) : (s.openSheet).counters = s.counters := rfl
@[simp] theorem State.openSheet_pending (s : State) : (s.openSheet).pending = s.pending := rfl

/-! ### setPort -/

@[simp] theorem State.setPort_map (s : State) (p : PortState) : (s.setPort p).map = s.map := rfl
@[simp] theorem State.setPort_forms (s : State) (p : PortState) : (s.setPort p).forms = s.forms := rfl
@[simp] theorem State.setPort_queue (s : State) (p : PortState) : (s.setPort p).queue = s.queue := rfl
@[simp] theorem State.setPort_keys (s : State) (p : PortState) : (s.setPort p).keys = s.keys := rfl
@[simp] theorem State.setPort_composer (s : State) (p : PortState) : (s.setPort p).composer = s.composer := rfl
@[simp] theorem State.setPort_ring (s : State) (p : PortState) : (s.setPort p).ring = s.ring := rfl
@[simp] theorem State.setPort_settings (s : State) (p : PortState) : (s.setPort p).settings = s.settings := rfl
@[simp] theorem State.setPort_dispatcher (s : State) (p : PortState) : (s.setPort p).dispatcher = s.dispatcher := rfl
@[simp] theorem State.setPort_linkA (s : State) (p : PortState) : (s.setPort p).linkA = s.linkA := rfl
@[simp] theorem State.setPort_linkB (s : State) (p : PortState) : (s.setPort p).linkB = s.linkB := rfl
@[simp] theorem State.setPort_notices (s : State) (p : PortState) : (s.setPort p).notices = s.notices := rfl
@[simp] theorem State.setPort_counters (s : State) (p : PortState) : (s.setPort p).counters = s.counters := rfl
@[simp] theorem State.setPort_pending (s : State) (p : PortState) : (s.setPort p).pending = s.pending := rfl

/-! ### setPortAccept -/

@[simp] theorem State.setPortAccept_map (s : State) (p : PortState) (a : Bool) : (s.setPortAccept p a).map = s.map := rfl
@[simp] theorem State.setPortAccept_forms (s : State) (p : PortState) (a : Bool) : (s.setPortAccept p a).forms = s.forms := rfl
@[simp] theorem State.setPortAccept_queue (s : State) (p : PortState) (a : Bool) : (s.setPortAccept p a).queue = s.queue := rfl
@[simp] theorem State.setPortAccept_keys (s : State) (p : PortState) (a : Bool) : (s.setPortAccept p a).keys = s.keys := rfl
@[simp] theorem State.setPortAccept_composer (s : State) (p : PortState) (a : Bool) : (s.setPortAccept p a).composer = s.composer := rfl
@[simp] theorem State.setPortAccept_ring (s : State) (p : PortState) (a : Bool) : (s.setPortAccept p a).ring = s.ring := rfl
@[simp] theorem State.setPortAccept_settings (s : State) (p : PortState) (a : Bool) : (s.setPortAccept p a).settings = s.settings := rfl
@[simp] theorem State.setPortAccept_dispatcher (s : State) (p : PortState) (a : Bool) : (s.setPortAccept p a).dispatcher = s.dispatcher := rfl
@[simp] theorem State.setPortAccept_linkA (s : State) (p : PortState) (a : Bool) : (s.setPortAccept p a).linkA = s.linkA := rfl
@[simp] theorem State.setPortAccept_linkB (s : State) (p : PortState) (a : Bool) : (s.setPortAccept p a).linkB = s.linkB := rfl
@[simp] theorem State.setPortAccept_notices (s : State) (p : PortState) (a : Bool) : (s.setPortAccept p a).notices = s.notices := rfl
@[simp] theorem State.setPortAccept_counters (s : State) (p : PortState) (a : Bool) : (s.setPortAccept p a).counters = s.counters := rfl
@[simp] theorem State.setPortAccept_pending (s : State) (p : PortState) (a : Bool) : (s.setPortAccept p a).pending = s.pending := rfl

/-! ### present -/

@[simp] theorem State.present_map (s : State) (k : ReplyKind) (f c : Bool) : (s.present k f c).map = s.map := rfl
@[simp] theorem State.present_forms (s : State) (k : ReplyKind) (f c : Bool) : (s.present k f c).forms = s.forms := rfl
@[simp] theorem State.present_queue (s : State) (k : ReplyKind) (f c : Bool) : (s.present k f c).queue = s.queue := rfl
@[simp] theorem State.present_keys (s : State) (k : ReplyKind) (f c : Bool) : (s.present k f c).keys = s.keys := rfl
@[simp] theorem State.present_composer (s : State) (k : ReplyKind) (f c : Bool) : (s.present k f c).composer = s.composer := rfl
@[simp] theorem State.present_ring (s : State) (k : ReplyKind) (f c : Bool) : (s.present k f c).ring = s.ring := rfl
@[simp] theorem State.present_settings (s : State) (k : ReplyKind) (f c : Bool) : (s.present k f c).settings = s.settings := rfl
@[simp] theorem State.present_dispatcher (s : State) (k : ReplyKind) (f c : Bool) : (s.present k f c).dispatcher = s.dispatcher := rfl
@[simp] theorem State.present_linkA (s : State) (k : ReplyKind) (f c : Bool) : (s.present k f c).linkA = s.linkA := rfl
@[simp] theorem State.present_linkB (s : State) (k : ReplyKind) (f c : Bool) : (s.present k f c).linkB = s.linkB := rfl
@[simp] theorem State.present_notices (s : State) (k : ReplyKind) (f c : Bool) : (s.present k f c).notices = s.notices := rfl
@[simp] theorem State.present_counters (s : State) (k : ReplyKind) (f c : Bool) : (s.present k f c).counters = s.counters := rfl
@[simp] theorem State.present_pending (s : State) (k : ReplyKind) (f c : Bool) : (s.present k f c).pending = s.pending := rfl

/-! ### done -/

@[simp] theorem State.done_map (s : State) (h : Hand) (f : Bool) : (s.done h f).map = s.map := rfl
@[simp] theorem State.done_forms (s : State) (h : Hand) (f : Bool) : (s.done h f).forms = s.forms := rfl
@[simp] theorem State.done_queue (s : State) (h : Hand) (f : Bool) : (s.done h f).queue = s.queue := rfl
@[simp] theorem State.done_keys (s : State) (h : Hand) (f : Bool) : (s.done h f).keys = s.keys := rfl
@[simp] theorem State.done_composer (s : State) (h : Hand) (f : Bool) : (s.done h f).composer = s.composer := rfl
@[simp] theorem State.done_ring (s : State) (h : Hand) (f : Bool) : (s.done h f).ring = s.ring := rfl
@[simp] theorem State.done_settings (s : State) (h : Hand) (f : Bool) : (s.done h f).settings = s.settings := rfl
@[simp] theorem State.done_dispatcher (s : State) (h : Hand) (f : Bool) : (s.done h f).dispatcher = s.dispatcher := rfl
@[simp] theorem State.done_linkA (s : State) (h : Hand) (f : Bool) : (s.done h f).linkA = s.linkA := rfl
@[simp] theorem State.done_linkB (s : State) (h : Hand) (f : Bool) : (s.done h f).linkB = s.linkB := rfl
@[simp] theorem State.done_notices (s : State) (h : Hand) (f : Bool) : (s.done h f).notices = s.notices := rfl
@[simp] theorem State.done_counters (s : State) (h : Hand) (f : Bool) : (s.done h f).counters = s.counters := rfl
@[simp] theorem State.done_pending (s : State) (h : Hand) (f : Bool) : (s.done h f).pending = s.pending := rfl

/-! ### post -/

@[simp] theorem State.post_lp (s : State) (x : Source10) : (s.post x).lp = s.lp := rfl
@[simp] theorem State.post_map (s : State) (x : Source10) : (s.post x).map = s.map := rfl
@[simp] theorem State.post_forms (s : State) (x : Source10) : (s.post x).forms = s.forms := rfl
@[simp] theorem State.post_queue (s : State) (x : Source10) : (s.post x).queue = s.queue := rfl
@[simp] theorem State.post_keys (s : State) (x : Source10) : (s.post x).keys = s.keys := rfl
@[simp] theorem State.post_composer (s : State) (x : Source10) : (s.post x).composer = s.composer := rfl
@[simp] theorem State.post_ring (s : State) (x : Source10) : (s.post x).ring = s.ring := rfl
@[simp] theorem State.post_settings (s : State) (x : Source10) : (s.post x).settings = s.settings := rfl
@[simp] theorem State.post_dispatcher (s : State) (x : Source10) : (s.post x).dispatcher = s.dispatcher := rfl
@[simp] theorem State.post_linkA (s : State) (x : Source10) : (s.post x).linkA = s.linkA := rfl
@[simp] theorem State.post_linkB (s : State) (x : Source10) : (s.post x).linkB = s.linkB := rfl
@[simp] theorem State.post_counters (s : State) (x : Source10) : (s.post x).counters = s.counters := rfl
@[simp] theorem State.post_pending (s : State) (x : Source10) : (s.post x).pending = s.pending := rfl

/-! ### settleNotices -/

@[simp] theorem State.settleNotices_lp (s t : State) : (s.settleNotices t).lp = t.lp := rfl
@[simp] theorem State.settleNotices_map (s t : State) : (s.settleNotices t).map = t.map := rfl
@[simp] theorem State.settleNotices_forms (s t : State) : (s.settleNotices t).forms = t.forms := rfl
@[simp] theorem State.settleNotices_queue (s t : State) : (s.settleNotices t).queue = t.queue := rfl
@[simp] theorem State.settleNotices_keys (s t : State) : (s.settleNotices t).keys = t.keys := rfl
@[simp] theorem State.settleNotices_composer (s t : State) : (s.settleNotices t).composer = t.composer := rfl
@[simp] theorem State.settleNotices_ring (s t : State) : (s.settleNotices t).ring = t.ring := rfl
@[simp] theorem State.settleNotices_settings (s t : State) : (s.settleNotices t).settings = t.settings := rfl
@[simp] theorem State.settleNotices_dispatcher (s t : State) : (s.settleNotices t).dispatcher = t.dispatcher := rfl
@[simp] theorem State.settleNotices_linkA (s t : State) : (s.settleNotices t).linkA = t.linkA := rfl
@[simp] theorem State.settleNotices_linkB (s t : State) : (s.settleNotices t).linkB = t.linkB := rfl
@[simp] theorem State.settleNotices_counters (s t : State) : (s.settleNotices t).counters = t.counters := rfl
@[simp] theorem State.settleNotices_pending (s t : State) : (s.settleNotices t).pending = t.pending := rfl

/-! ### modColumn -/

@[simp] theorem State.modColumn_lp (s : State) (f : Column → Column) : (s.modColumn f).lp = s.lp := rfl
@[simp] theorem State.modColumn_map (s : State) (f : Column → Column) : (s.modColumn f).map = s.map := rfl
@[simp] theorem State.modColumn_forms (s : State) (f : Column → Column) : (s.modColumn f).forms = s.forms := rfl
@[simp] theorem State.modColumn_queue (s : State) (f : Column → Column) : (s.modColumn f).queue = s.queue := rfl
@[simp] theorem State.modColumn_keys (s : State) (f : Column → Column) : (s.modColumn f).keys = s.keys := rfl
@[simp] theorem State.modColumn_composer (s : State) (f : Column → Column) : (s.modColumn f).composer = s.composer := rfl
@[simp] theorem State.modColumn_settings (s : State) (f : Column → Column) : (s.modColumn f).settings = s.settings := rfl
@[simp] theorem State.modColumn_dispatcher (s : State) (f : Column → Column) : (s.modColumn f).dispatcher = s.dispatcher := rfl
@[simp] theorem State.modColumn_linkA (s : State) (f : Column → Column) : (s.modColumn f).linkA = s.linkA := rfl
@[simp] theorem State.modColumn_linkB (s : State) (f : Column → Column) : (s.modColumn f).linkB = s.linkB := rfl
@[simp] theorem State.modColumn_notices (s : State) (f : Column → Column) : (s.modColumn f).notices = s.notices := rfl
@[simp] theorem State.modColumn_counters (s : State) (f : Column → Column) : (s.modColumn f).counters = s.counters := rfl
@[simp] theorem State.modColumn_pending (s : State) (f : Column → Column) : (s.modColumn f).pending = s.pending := rfl

/-! ### bind -/

@[simp] theorem State.bind_lp (s : State) (form length : Nat) (pitch : LinePitch) : (s.bind form length pitch).lp = s.lp := rfl
@[simp] theorem State.bind_map (s : State) (form length : Nat) (pitch : LinePitch) : (s.bind form length pitch).map = s.map := rfl
@[simp] theorem State.bind_forms (s : State) (form length : Nat) (pitch : LinePitch) : (s.bind form length pitch).forms = s.forms := rfl
@[simp] theorem State.bind_queue (s : State) (form length : Nat) (pitch : LinePitch) : (s.bind form length pitch).queue = s.queue := rfl
@[simp] theorem State.bind_keys (s : State) (form length : Nat) (pitch : LinePitch) : (s.bind form length pitch).keys = s.keys := rfl
@[simp] theorem State.bind_composer (s : State) (form length : Nat) (pitch : LinePitch) : (s.bind form length pitch).composer = s.composer := rfl
@[simp] theorem State.bind_settings (s : State) (form length : Nat) (pitch : LinePitch) : (s.bind form length pitch).settings = s.settings := rfl
@[simp] theorem State.bind_dispatcher (s : State) (form length : Nat) (pitch : LinePitch) : (s.bind form length pitch).dispatcher = s.dispatcher := rfl
@[simp] theorem State.bind_linkA (s : State) (form length : Nat) (pitch : LinePitch) : (s.bind form length pitch).linkA = s.linkA := rfl
@[simp] theorem State.bind_linkB (s : State) (form length : Nat) (pitch : LinePitch) : (s.bind form length pitch).linkB = s.linkB := rfl
@[simp] theorem State.bind_notices (s : State) (form length : Nat) (pitch : LinePitch) : (s.bind form length pitch).notices = s.notices := rfl
@[simp] theorem State.bind_counters (s : State) (form length : Nat) (pitch : LinePitch) : (s.bind form length pitch).counters = s.counters := rfl
@[simp] theorem State.bind_pending (s : State) (form length : Nat) (pitch : LinePitch) : (s.bind form length pitch).pending = s.pending := rfl

/-! ### countFits -/

@[simp] theorem State.countFits_lp (s : State) (ls : List Line) : (s.countFits ls).lp = s.lp := rfl
@[simp] theorem State.countFits_map (s : State) (ls : List Line) : (s.countFits ls).map = s.map := rfl
@[simp] theorem State.countFits_forms (s : State) (ls : List Line) : (s.countFits ls).forms = s.forms := rfl
@[simp] theorem State.countFits_queue (s : State) (ls : List Line) : (s.countFits ls).queue = s.queue := rfl
@[simp] theorem State.countFits_keys (s : State) (ls : List Line) : (s.countFits ls).keys = s.keys := rfl
@[simp] theorem State.countFits_composer (s : State) (ls : List Line) : (s.countFits ls).composer = s.composer := rfl
@[simp] theorem State.countFits_ring (s : State) (ls : List Line) : (s.countFits ls).ring = s.ring := rfl
@[simp] theorem State.countFits_settings (s : State) (ls : List Line) : (s.countFits ls).settings = s.settings := rfl
@[simp] theorem State.countFits_dispatcher (s : State) (ls : List Line) : (s.countFits ls).dispatcher = s.dispatcher := rfl
@[simp] theorem State.countFits_linkA (s : State) (ls : List Line) : (s.countFits ls).linkA = s.linkA := rfl
@[simp] theorem State.countFits_linkB (s : State) (ls : List Line) : (s.countFits ls).linkB = s.linkB := rfl
@[simp] theorem State.countFits_notices (s : State) (ls : List Line) : (s.countFits ls).notices = s.notices := rfl
@[simp] theorem State.countFits_pending (s : State) (ls : List Line) : (s.countFits ls).pending = s.pending := rfl

/-! ### applyCollation -/

@[simp] theorem State.applyCollation_lp (s : State) (c : Collation) : (s.applyCollation c).lp = s.lp := rfl
@[simp] theorem State.applyCollation_map (s : State) (c : Collation) : (s.applyCollation c).map = s.map := rfl
@[simp] theorem State.applyCollation_forms (s : State) (c : Collation) : (s.applyCollation c).forms = s.forms := rfl
@[simp] theorem State.applyCollation_queue (s : State) (c : Collation) : (s.applyCollation c).queue = s.queue := rfl
@[simp] theorem State.applyCollation_composer (s : State) (c : Collation) : (s.applyCollation c).composer = s.composer := rfl
@[simp] theorem State.applyCollation_ring (s : State) (c : Collation) : (s.applyCollation c).ring = s.ring := rfl
@[simp] theorem State.applyCollation_settings (s : State) (c : Collation) : (s.applyCollation c).settings = s.settings := rfl
@[simp] theorem State.applyCollation_dispatcher (s : State) (c : Collation) : (s.applyCollation c).dispatcher = s.dispatcher := rfl
@[simp] theorem State.applyCollation_linkA (s : State) (c : Collation) : (s.applyCollation c).linkA = s.linkA := rfl
@[simp] theorem State.applyCollation_linkB (s : State) (c : Collation) : (s.applyCollation c).linkB = s.linkB := rfl
@[simp] theorem State.applyCollation_notices (s : State) (c : Collation) : (s.applyCollation c).notices = s.notices := rfl
@[simp] theorem State.applyCollation_counters (s : State) (c : Collation) : (s.applyCollation c).counters = s.counters := rfl
@[simp] theorem State.applyCollation_pending (s : State) (c : Collation) : (s.applyCollation c).pending = s.pending := rfl

/-! ### applyLayout -/

@[simp] theorem State.applyLayout_lp (s : State) (l : FieldLayout) : (s.applyLayout l).lp = s.lp := rfl
@[simp] theorem State.applyLayout_map (s : State) (l : FieldLayout) : (s.applyLayout l).map = s.map := rfl
@[simp] theorem State.applyLayout_forms (s : State) (l : FieldLayout) : (s.applyLayout l).forms = s.forms := rfl
@[simp] theorem State.applyLayout_queue (s : State) (l : FieldLayout) : (s.applyLayout l).queue = s.queue := rfl
@[simp] theorem State.applyLayout_composer (s : State) (l : FieldLayout) : (s.applyLayout l).composer = s.composer := rfl
@[simp] theorem State.applyLayout_ring (s : State) (l : FieldLayout) : (s.applyLayout l).ring = s.ring := rfl
@[simp] theorem State.applyLayout_settings (s : State) (l : FieldLayout) : (s.applyLayout l).settings = s.settings := rfl
@[simp] theorem State.applyLayout_dispatcher (s : State) (l : FieldLayout) : (s.applyLayout l).dispatcher = s.dispatcher := rfl
@[simp] theorem State.applyLayout_linkA (s : State) (l : FieldLayout) : (s.applyLayout l).linkA = s.linkA := rfl
@[simp] theorem State.applyLayout_linkB (s : State) (l : FieldLayout) : (s.applyLayout l).linkB = s.linkB := rfl
@[simp] theorem State.applyLayout_notices (s : State) (l : FieldLayout) : (s.applyLayout l).notices = s.notices := rfl
@[simp] theorem State.applyLayout_counters (s : State) (l : FieldLayout) : (s.applyLayout l).counters = s.counters := rfl
@[simp] theorem State.applyLayout_pending (s : State) (l : FieldLayout) : (s.applyLayout l).pending = s.pending := rfl

/-! ### What the updates write -/

@[simp] theorem State.link_a (s : State) : s.link .a = s.linkA := rfl
@[simp] theorem State.link_b (s : State) : s.link .b = s.linkB := rfl
@[simp] theorem State.setLink_link (s : State) (e : Engine) (l : Link) : (s.setLink e l).link e = l := by
  cases e <;> rfl
theorem State.setLink_link_other (s : State) (e x : Engine) (l : Link) (h : x ≠ e) :
    (s.setLink e l).link x = s.link x := by
  cases e <;> cases x <;> first | rfl | exact absurd rfl h
@[simp] theorem State.modLink_link (s : State) (e : Engine) (f : Link → Link) :
    (s.modLink e f).link e = f (s.link e) := by
  cases e <;> rfl
theorem State.modLink_link_other (s : State) (e x : Engine) (f : Link → Link) (h : x ≠ e) :
    (s.modLink e f).link x = s.link x := State.setLink_link_other s e x _ h
@[simp] theorem State.enqueue_queue (s : State) (es : List Entry) : (s.enqueue es).queue = s.queue ++ es := rfl
@[simp] theorem State.removeHead_queue (s : State) : s.removeHead.queue = s.queue.tail := rfl
@[simp] theorem State.setPort_lp (s : State) (p : PortState) : (s.setPort p).lp = { s.lp with port := p } := rfl
@[simp] theorem State.setPortAccept_lp (s : State) (p : PortState) (a : Bool) :
    (s.setPortAccept p a).lp = { s.lp with port := p, accept := a } := rfl
@[simp] theorem State.present_lp (s : State) (k : ReplyKind) (f c : Bool) :
    (s.present k f c).lp = { s.lp with port := .replying ⟨k, f, s.noticeFlag, c⟩ } := rfl
@[simp] theorem State.done_lp (s : State) (h : Hand) (f : Bool) :
    (s.done h f).lp = { s.lp with port := .replying ⟨.done, f, s.noticeFlag, h.clamped⟩ } := rfl
@[simp] theorem State.post_notices (s : State) (x : Source10) :
    (s.post x).notices = s.notices.setPending (s.notices.pending ||| x.bit) := rfl
@[simp] theorem State.settleNotices_notices (s t : State) :
    (s.settleNotices t).notices = edgesOn t.notices s.conditions t.conditions := rfl
@[simp] theorem NoticeUnit.setPending_pending (n : NoticeUnit) (p : NoticeSet) : (n.setPending p).pending = p := rfl
@[simp] theorem NoticeUnit.setPending_mask (n : NoticeUnit) (p : NoticeSet) : (n.setPending p).mask = n.mask := rfl
@[simp] theorem NoticeUnit.setPending_confirmed (n : NoticeUnit) (p : NoticeSet) :
    (n.setPending p).confirmed = n.confirmed := rfl

end Sys2Proof.Machine
end

