-- ==== Sys2Proof/Laws/Due.lean ====
section
/-! SUPPORT. What each due step does when nothing is due, and how a command runs in a quiet state. -/

namespace Sys2Proof.Machine

theorem State.takeOwed_of_not_due (s : State) (h : s.owedDue = false) : s.takeOwed = s := by
  unfold State.takeOwed
  split
  · rfl
  · next m hm => simp [State.owedDue, hm] at h; simp [h]

theorem State.windowShort_of_not_over (s : State) (e : Engine) (h : (s.link e).pace.tOver = false) :
    s.windowShort e = s := by
  simp [State.windowShort, h]

theorem State.windowMet_of_not_over (s : State) (e : Engine) (h : (s.link e).pace.sOver = false) :
    s.windowMet e = s := by
  simp [State.windowMet, h]

theorem State.windowsDue_of_not_due (s : State) (ha : s.linkA.windowDue = false) (hb : s.linkB.windowDue = false) :
    s.windowsDue = s := by
  simp only [Link.windowDue, Bool.or_eq_false_iff] at ha hb
  unfold State.windowsDue
  rw [State.windowShort_of_not_over s .a ha.1, State.windowShort_of_not_over s .b hb.1,
    State.windowMet_of_not_over s .a ha.2, State.windowMet_of_not_over s .b hb.2]

theorem State.grantOnce_of_not_due (s : State) (h : s.grantDue = false) : s.grantOnce = s := by
  unfold State.grantOnce
  split
  · next e sh he hs => simp [State.grantDue, he, hs] at h
  · rfl
  · rfl

theorem State.grantsDue_of_not_due (s : State) (h : s.grantDue = false) : s.grantsDue = s := by
  rw [State.grantsDue, State.grantOnce_of_not_due s h, State.grantOnce_of_not_due s h]

theorem State.syncCompletes_of_not_due (s : State) (h : s.syncDoneDue = false) : s.syncCompletes = s := by
  unfold State.syncCompletes
  split <;> first | rfl | skip
  next c hp => simp [State.syncDoneDue, hp] at h; simp [h]

theorem State.syncFails_of_not_due (s : State) (h : s.syncFailDue = false) : s.syncFails = s := by
  unfold State.syncFails
  split <;> first | rfl | skip
  next ph c hp =>
    simp only [State.syncFailDue, hp, Bool.and_eq_false_iff, decide_eq_false_iff_not] at h
    rw [if_neg]
    rintro ⟨h1, h2⟩
    rcases h with h | h
    · exact h h1
    · simp [h] at h2

theorem State.acceptWaiting_of_not_due (s : State) (h : s.acceptDue = false) : s.acceptWaiting = s := by
  unfold State.acceptWaiting
  split <;> first | rfl | skip
  · next b k hp => simp [State.acceptDue, hp] at h; simp [h]
  · next b k hp => simp [State.acceptDue, hp] at h; simp [h]

/-- In a quiet state the due steps change nothing. -/
theorem State.takeDue_of_quiet (s : State) (h : s.quiet) : s.takeDue = s := by
  obtain ⟨h1, h2, h3, h4, h5, h6, h7⟩ := h
  rw [State.takeDue, State.takeOwed_of_not_due s h1, State.windowsDue_of_not_due s h2 h3,
    State.grantsDue_of_not_due s h4, State.syncCompletes_of_not_due s h5, State.syncFails_of_not_due s h6,
    State.acceptWaiting_of_not_due s h7]

theorem State.run_of_quiet (s : State) (f : State → State) (h : s.quiet) : s.run f = .next (f s) := by
  rw [State.run, s.takeDue_of_quiet h]

theorem State.runNoticed_of_quiet (s : State) (f : State → State) (h : s.quiet) :
    s.runNoticed f = .next (s.settleNotices (f s)) := by
  rw [State.runNoticed, s.takeDue_of_quiet h]

/-- END of an order of this row. -/
theorem State.atEnd_of_mine (s : State) (mine : Hand → Bool) (act : Hand → State → State) (h : Hand)
    (hp : s.lp.port = .takingData h) (hm : mine h = true) : s.atEnd mine act = act h s := by
  simp [State.atEnd, hp, hm]

/-- END of no order of this row. -/
theorem State.atEnd_of_not_mine (s : State) (mine : Hand → Bool) (act : Hand → State → State)
    (hm : ∀ h, s.lp.port = .takingData h → mine h = false) : s.atEnd mine act = s := by
  unfold State.atEnd
  split <;> first | rfl | skip
  next h hp => simp [hm h hp]

/-- R9: an order of good parity goes on to its own tests. -/
theorem State.judge_of_good (s : State) (h : Hand) (own : State → State) (k : OrderKind) (he : h.parityError = none)
    (hk : h.kind = some k) : s.judge h own = own s := by
  simp [State.judge, he, hk]

/-- R9: a parity error refuses an order. -/
theorem State.judge_of_parity (s : State) (h : Hand) (own : State → State) (e : Nat × Byte)
    (he : h.parityError = some e) : s.judge h own = s.refuse h .parity (some e.1) e.2.toNat := by
  simp [State.judge, he]

end Sys2Proof.Machine
end

