-- ==== Sys2Proof/Laws/Notices.lean ====
section
/-! SUPPORT. The sets of notice sources bit by bit, and the Notice Unit when nothing rises or falls. -/

namespace Sys2Proof.Machine

theorem Source10.number_lt (x : Source10) : x.number < 10 := by cases x <;> decide

theorem Source10.number_inj (x y : Source10) (h : x.number = y.number) : x = y := by
  cases x <;> cases y <;> first | rfl | simp [Source10.number] at h

@[simp] theorem inSet_and (j k : NoticeSet) (x : Source10) : inSet (j &&& k) x = (inSet j x && inSet k x) := by
  simp [inSet]

@[simp] theorem inSet_or (j k : NoticeSet) (x : Source10) : inSet (j ||| k) x = (inSet j x || inSet k x) := by
  simp [inSet]

@[simp] theorem inSet_not (k : NoticeSet) (x : Source10) : inSet (~~~k) x = !inSet k x := by
  simp [inSet, x.number_lt]

@[simp] theorem inSet_empty (x : Source10) : inSet 0#10 x = false := by simp [inSet]

@[simp] theorem inSet_all (x : Source10) : inSet 1023#10 x = true := by cases x <;> decide

@[simp] theorem inSet_bit (x y : Source10) : inSet y.bit x = decide (x = y) := by
  cases x <;> cases y <;> decide

@[simp] theorem inSet_bitIf (x y : Source10) (b : Bool) : inSet (bitIf y b) x = (decide (x = y) && b) := by
  cases b <;> cases x <;> cases y <;> decide

/-- Which condition each source reports. -/
theorem State.inSet_conditions (s : State) (x : Source10) :
    inSet s.conditions x =
      match x with
      | .engineStoppedA => engineStoppedHolds s.settings .a s.linkA
      | .engineStoppedB => engineStoppedHolds s.settings .b s.linkB
      | .degraded => degradedHolds s
      | .ringFull => s.composer.waiting
      | .folioLimit => s.composer.nextFolio == some Config.lastFolio
      | _ => false := by
  unfold State.conditions
  cases x <;> simp

/-- Two sets with the same sources are equal. -/
theorem inSet_ext (j k : NoticeSet) (h : ∀ x, inSet j x = inSet k x) : j = k := by
  apply BitVec.eq_of_getLsbD_eq
  intro i hi
  obtain ⟨x, rfl⟩ : ∃ x : Source10, x.number = i := by
    rcases i with _ | _ | _ | _ | _ | _ | _ | _ | _ | _ | _ | n
    · exact ⟨.engineStoppedA, rfl⟩
    · exact ⟨.engineStoppedB, rfl⟩
    · exact ⟨.engineRestored, rfl⟩
    · exact ⟨.failover, rfl⟩
    · exact ⟨.degraded, rfl⟩
    · exact ⟨.listingOrder, rfl⟩
    · exact ⟨.ringFull, rfl⟩
    · exact ⟨.folioLimit, rfl⟩
    · exact ⟨.negotiationFault, rfl⟩
    · exact ⟨.tableRefused, rfl⟩
    · omega
    · omega
  exact h x

/-- The NOTICE flag tells whether a source is both enabled and pending. -/
theorem State.noticeFlag_iff (s : State) :
    s.noticeFlag = true ↔ ∃ x, inSet s.notices.mask x = true ∧ inSet s.notices.pending x = true := by
  rw [State.noticeFlag, bne_iff_ne, NoticeUnit.live]
  constructor
  · intro h
    by_contra hn
    apply h
    apply inSet_ext
    intro x
    have := not_exists.mp hn x
    simp only [inSet_and]
    cases h1 : inSet s.notices.mask x <;> cases h2 : inSet s.notices.pending x <;> simp_all
  · rintro ⟨x, h1, h2⟩ h
    have := congrArg (fun k => inSet k x) h
    rw [show (0 : NoticeSet) = 0#10 from rfl] at this
    simp [h1, h2] at this

@[simp] theorem NoticeUnit.driveCall_mask (n m : NoticeUnit) : (n.driveCall m).mask = m.mask := rfl
@[simp] theorem NoticeUnit.driveCall_pending (n m : NoticeUnit) : (n.driveCall m).pending = m.pending := rfl
@[simp] theorem NoticeUnit.driveCall_confirmed (n m : NoticeUnit) : (n.driveCall m).confirmed = m.confirmed := rfl
@[simp] theorem edgesOn_mask (n : NoticeUnit) (x y : NoticeSet) : (edgesOn n x y).mask = n.mask := rfl
@[simp] theorem edgesOn_confirmed (n : NoticeUnit) (x y : NoticeSet) : (edgesOn n x y).confirmed = n.confirmed := rfl

/-- The pending set after rises and falls. -/
theorem edgesOn_pending (n : NoticeUnit) (x y : NoticeSet) (k : Source10) :
    inSet (edgesOn n x y).pending k =
      ((inSet n.pending k || (inSet y k && !inSet x k)) && (n.confirmed || !(inSet x k && !inSet y k))) := by
  unfold edgesOn
  cases h : n.confirmed <;> simp

/-- The call line's timers are as R206 has them once they have been driven. -/
theorem NoticeUnit.driveCall_callSound (n m : NoticeUnit)
    (hp : n.shownClass = m.shownClass → (m.shownClass = 2 ∨ m.shownClass = 3) → m.pattern.isSome = true) :
    (n.driveCall m).callSound := by
  have hl : (n.driveCall m).live = m.live := rfl
  have hc : (n.driveCall m).shownClass = m.shownClass := rfl
  refine ⟨?_, ?_⟩
  · rw [hl]
    simp only [NoticeUnit.driveCall]
    split
    · rename_i h1
      intro _ h0
      apply h1
      rw [BitVec.and_assoc, BitVec.and_comm (~~~n.live), ← BitVec.and_assoc, h0]
      simp
    · split
      · simp
      · intro _; assumption
  · rw [hc]
    simp only [NoticeUnit.driveCall]
    split
    · rename_i h1
      split
      · rename_i h2
        simp [h1, hp h2 h1]
      · simp [h1]
    · rename_i h1
      simp [h1]

/-- Replacing the pending set keeps the call line's timers as R206 has them. -/
theorem NoticeUnit.setPending_callSound (n : NoticeUnit) (p : NoticeSet) (h : n.callSound) :
    (n.setPending p).callSound :=
  NoticeUnit.driveCall_callSound n { n with pending := p } fun he hc => h.2.mpr (he ▸ hc)

/-- So do rises and falls. -/
theorem edgesOn_callSound (n : NoticeUnit) (x y : NoticeSet) (h : n.callSound) : (edgesOn n x y).callSound :=
  NoticeUnit.setPending_callSound n _ h

/-- Replacing the pending set by itself changes nothing. -/
theorem NoticeUnit.setPending_same (n : NoticeUnit) (h : n.callSound) : n.setPending n.pending = n := by
  obtain ⟨h1, h2⟩ := h
  have hx : n.live &&& ~~~n.live &&& classSources 4 = 0 := by
    apply inSet_ext
    intro x
    rw [show (0 : NoticeSet) = 0#10 from rfl]
    simp
  have hb : (n.setPending n.pending).burst = n.burst := by
    show (if n.live &&& ~~~n.live &&& classSources 4 ≠ 0 then _ else if n.live &&& classSources 4 = 0 then none
      else n.burst) = n.burst
    rw [if_neg (fun h => h hx)]
    split
    · rename_i h0
      cases hb : n.burst with
      | none => rfl
      | some v => exact absurd h0 (h1 (by simp [hb]))
    · rfl
  have hq : (n.setPending n.pending).pattern = n.pattern := by
    show (if n.shownClass = 2 ∨ n.shownClass = 3 then (if n.shownClass = n.shownClass then n.pattern else some true)
      else none) = n.pattern
    split
    · simp
    · rename_i h0
      cases hp : n.pattern with
      | none => rfl
      | some v => exact absurd (h2.mp (by simp [hp])) h0
  calc n.setPending n.pending
      = ⟨n.mask, n.pending, n.confirmed, (n.setPending n.pending).burst, (n.setPending n.pending).pattern⟩ := rfl
    _ = n := by rw [hb, hq]

/-- When no condition rises or falls the pending set is put back as it was. -/
theorem edgesOn_same (n : NoticeUnit) (k : NoticeSet) : edgesOn n k k = n.setPending n.pending := by
  unfold edgesOn
  have h1 : n.pending ||| (k &&& ~~~k) = n.pending := by
    apply inSet_ext
    intro x
    simp
  have h2 : n.pending &&& ~~~(k &&& ~~~k) = n.pending := by
    apply inSet_ext
    intro x
    simp
  simp only [h1, h2, ite_self]

/-- A command whose effect changes no condition and no notice leaves the Notice Unit, when its timers are as R206 has
them. -/
theorem State.settleNotices_same (s t : State) (hc : t.conditions = s.conditions) (hn : t.notices.callSound) :
    s.settleNotices t = t := by
  unfold State.settleNotices
  rw [hc, edgesOn_same, NoticeUnit.setPending_same _ hn]

end Sys2Proof.Machine
end

