-- ==== Sys2Proof/Laws/Ops.lean ====
section
/-! SUPPORT. The counters, the slots of the ring, a refusal, and what the due steps leave alone. -/

namespace Sys2Proof.Machine

/-! ### Counters -/

/-- A count never lowers a counter. -/
theorem le_countUp (v : Word32) (n : Nat) : v.toNat ≤ (countUp v n).toNat := by
  have h := v.isLt
  simp only [countUp, BitVec.toNat_ofNat]
  omega

@[simp] theorem countUp_zero (v : Word32) : countUp v 0 = v := by
  apply BitVec.eq_of_toNat_eq
  have h := v.isLt
  simp only [countUp, BitVec.toNat_ofNat]
  omega

/-- Two counts in a row are one. -/
theorem countUp_countUp (v : Word32) (m n : Nat) : countUp (countUp v m) n = countUp v (m + n) := by
  apply BitVec.eq_of_toNat_eq
  have h := v.isLt
  simp only [countUp, BitVec.toNat_ofNat]
  omega

theorem Counter.index_inj (c d : Counter) (h : c.index = d.index) : c = d := by
  cases c <;> cases d <;> first | rfl | exact absurd h (by decide)

/-- The counter counted. -/
@[simp] theorem State.counter_count_self (s : State) (c : Counter) (n : Nat) :
    (s.count c n).counter c = countUp (s.counter c) n := by
  simp only [State.counter, State.count, Vector.get_eq_getElem]
  exact Vector.getElem_set_self _

/-- The other counters. -/
theorem State.counter_count_ne (s : State) (c d : Counter) (n : Nat) (h : d ≠ c) :
    (s.count c n).counter d = s.counter d := by
  simp only [State.counter, State.count, Vector.get_eq_getElem]
  apply Vector.getElem_set_ne
  intro hi
  exact h (Counter.index_inj d c (Fin.ext hi.symm))

/-- A counter after a count of any counter. -/
theorem State.counter_count (s : State) (c d : Counter) (n : Nat) :
    (s.count c n).counter d = if d = c then countUp (s.counter d) n else s.counter d := by
  split
  · next h => subst h; exact s.counter_count_self d n
  · next h => exact s.counter_count_ne c d n h

/-- Entry k of the counters is some counter's. -/
theorem Counter.exists_index (k : Fin 16) : ∃ c : Counter, c.index = k :=
  ⟨(#v[.linesAccepted, .ordersRefused, .unprintable, .placedLines, .overstrikeMerges, .keyedLines, .outOfOrder,
    .duplicates, .overLines, .squeezedLines, .depthClipped, .sheetsCommitted, .stackedA, .stackedB, .reissued,
    .strays] : Vector Counter 16).get k, by revert k; decide⟩

/-! ### The ring -/

@[simp] theorem mapSlots_length (f : Occupied → Occupied) (r : Ring) : (mapSlots f r).length = r.length := by
  simp [mapSlots]

theorem mem_mapSlots (f : Occupied → Occupied) (r : Ring) (x : Occupied) :
    some x ∈ mapSlots f r ↔ ∃ y, some y ∈ r ∧ f y = x := by
  simp only [mapSlots, List.mem_map, Option.map_eq_some_iff]
  constructor
  · rintro ⟨o, ho, y, rfl, rfl⟩
    exact ⟨y, ho, rfl⟩
  · rintro ⟨y, hy, rfl⟩
    exact ⟨some y, hy, y, rfl, rfl⟩

@[simp] theorem fillFirst_length (o : Occupied) (r : Ring) : (fillFirst o r).length = r.length := by
  induction r with
  | nil => rfl
  | cons x r ih => cases x <;> simp [fillFirst, ih]

@[simp] theorem dropSheet_length (q : Word16) (r : Ring) : (dropSheet q r).length = r.length := by simp [dropSheet]

theorem freeFinished_length (age : Word16 → Nat) (n : Nat) : ∀ r, (freeFinished age n r).length = r.length := by
  induction n with
  | zero => intro r; rfl
  | succ n ih =>
    intro r
    simp only [freeFinished]
    split
    · rfl
    · split
      · rw [ih, dropSheet_length]
      · rfl

/-- The oldest sheet that meets a test stands in the ring, meets it, and none that meets it is older. -/
theorem oldestOf_spec (age : Word16 → Nat) (p : Occupied → Bool) :
    ∀ (r : Ring) (o : Occupied), oldestOf age p r = some o →
      some o ∈ r ∧ p o = true ∧ ∀ x, some x ∈ r → p x = true → age x.sheet.seq ≤ age o.sheet.seq := by
  intro r
  induction r with
  | nil => intro o h; cases h
  | cons y r ih =>
    intro o h
    cases y with
    | none =>
      obtain ⟨h1, h2, h3⟩ := ih o h
      exact ⟨List.mem_cons_of_mem _ h1, h2, fun x hx hp => h3 x (by simpa using hx) hp⟩
    | some y =>
      simp only [oldestOf] at h
      split at h
      · next hy =>
        split at h
        · next hn =>
          cases h
          refine ⟨by simp, hy, ?_⟩
          intro x hx hp
          rcases List.mem_cons.mp hx with h1 | h1
          · cases h1; exact Nat.le_refl _
          · exfalso
            exact oldestOf_none age p r hn x h1 hp
        · next q hq =>
          obtain ⟨h1, h2, h3⟩ := ih q hq
          split at h
          · next hle =>
            cases h
            refine ⟨by simp, hy, ?_⟩
            intro x hx hp
            rcases List.mem_cons.mp hx with h4 | h4
            · cases h4; exact Nat.le_refl _
            · exact Nat.le_trans (h3 x h4 hp) hle
          · next hle =>
            cases h
            refine ⟨List.mem_cons_of_mem _ h1, h2, ?_⟩
            intro x hx hp
            rcases List.mem_cons.mp hx with h4 | h4
            · cases h4; omega
            · exact h3 x h4 hp
      · next hy =>
        obtain ⟨h1, h2, h3⟩ := ih o h
        refine ⟨List.mem_cons_of_mem _ h1, h2, ?_⟩
        intro x hx hp
        rcases List.mem_cons.mp hx with h4 | h4
        · cases h4; exact absurd hp hy
        · exact h3 x h4 hp
where
  /-- With no oldest sheet, no sheet meets the test. -/
  oldestOf_none (age : Word16 → Nat) (p : Occupied → Bool) :
      ∀ r : Ring, oldestOf age p r = none → ∀ x, some x ∈ r → p x = true → False := by
    intro r
    induction r with
    | nil => intro _ x hx; cases hx
    | cons y r ih =>
      intro h x hx hp
      cases y with
      | none => exact ih h x (by simpa using hx) hp
      | some y =>
        simp only [oldestOf] at h
        split at h
        · split at h
          · cases h
          · split at h <;> cases h
        · next hy =>
          rcases List.mem_cons.mp hx with h4 | h4
          · cases h4; exact hy hp
          · exact ih h x h4 hp

/-! ### A refusal -/

/-- What refusing an order leaves. -/
theorem State.refuse_refusedAs (s : State) (h : Hand) (kind : CheckKind) (position : Option Nat) (detail : Nat) :
    s.RefusedAs (s.refuse h kind position detail) h kind position detail := by
  unfold State.refuse
  split <;>
    simp_all [State.RefusedAs, State.present, State.setPort, State.count, Counter.index, State.post, State.noticeFlag]

/-- The reply a refusal presents. -/
theorem State.refuse_port (s : State) (h : Hand) (kind : CheckKind) (position : Option Nat) (detail : Nat) :
    (s.refuse h kind position detail).lp.port =
      .replying ⟨.check, false, (s.refuse h kind position detail).noticeFlag, h.clamped⟩ := by
  unfold State.refuse
  split <;> rfl

/-! ### The due steps keep the commands that wait -/

@[simp] theorem State.takeOwed_pending (s : State) : s.takeOwed.pending = s.pending := by
  unfold State.takeOwed
  split
  · rfl
  · split <;> rfl

@[simp] theorem State.windowShort_pending (s : State) (e : Engine) : (s.windowShort e).pending = s.pending := by
  unfold State.windowShort
  split
  · cases e <;> rfl
  · rfl

@[simp] theorem State.windowMet_pending (s : State) (e : Engine) : (s.windowMet e).pending = s.pending := by
  unfold State.windowMet
  split
  · cases e <;> rfl
  · rfl

@[simp] theorem State.windowsDue_pending (s : State) : s.windowsDue.pending = s.pending := by
  simp [State.windowsDue]

@[simp] theorem State.grantOnce_pending (s : State) : s.grantOnce.pending = s.pending := by
  unfold State.grantOnce
  split
  · next e sh _ _ => unfold State.grantTo State.countReissue; cases e <;> split <;> rfl
  · rfl
  · rfl

@[simp] theorem State.syncCompletes_pending (s : State) : s.syncCompletes.pending = s.pending := by
  unfold State.syncCompletes
  split <;> first | rfl | (split <;> rfl)

@[simp] theorem State.syncFails_pending (s : State) : s.syncFails.pending = s.pending := by
  unfold State.syncFails
  split <;> first | rfl | (split <;> rfl)

@[simp] theorem State.acceptWaiting_pending (s : State) : s.acceptWaiting.pending = s.pending := by
  unfold State.acceptWaiting
  split <;> first | rfl | (split <;> rfl)

@[simp] theorem State.takeDue_pending (s : State) : s.takeDue.pending = s.pending := by
  simp [State.takeDue, State.grantsDue]

end Sys2Proof.Machine
end

