-- ==== Sys2Proof/Laws/Rows.lean ====
section
/-! SUPPORT. What the END rows of TABLE and QUERY come to, case by case. -/

namespace Sys2Proof.Machine

theorem Hand.isTable_kind (kind : Nat) (h : Hand) (hm : h.isTable kind = true) : h.kind = some .table := by
  simp only [Hand.isTable, Bool.and_eq_true, beq_iff_eq] at hm
  exact hm.1

theorem Hand.isQuery_kind (sel : Nat) (h : Hand) (hm : h.isQuery sel = true) : h.kind = some .query := by
  simp only [Hand.isQuery, Bool.and_eq_true, beq_iff_eq] at hm
  exact hm.1

/-- A record that passes every test is carried out. -/
theorem State.tableRow_good (s : State) (h : Hand) (kind : Nat) (fault : List Byte → Option (Nat × Nat))
    (carry : Hand → List Byte → State → State) (hp : s.lp.port = .takingData h) (hm : h.isTable kind = true)
    (he : h.parityError = none) (hf : framingFault h.kept = none) (hr : fault (h.kept.drop 3) = none) :
    s.tableRow kind fault carry = carry h (h.kept.drop 3) s := by
  rw [State.tableRow, State.atEnd_of_mine s _ _ h hp hm, State.judge_of_good s h _ .table he (h.isTable_kind kind hm)]
  simp [State.endTable, hf, hr]

/-- A record badly framed is refused. -/
theorem State.tableRow_format (s : State) (h : Hand) (kind : Nat) (fault : List Byte → Option (Nat × Nat))
    (carry : Hand → List Byte → State → State) (f : Option Nat × Nat) (hp : s.lp.port = .takingData h)
    (hm : h.isTable kind = true) (he : h.parityError = none) (hf : framingFault h.kept = some f) :
    s.tableRow kind fault carry = s.refuse h .tableFormat f.1 f.2 := by
  rw [State.tableRow, State.atEnd_of_mine s _ _ h hp hm, State.judge_of_good s h _ .table he (h.isTable_kind kind hm)]
  simp [State.endTable, hf]

/-- A record with a field out of range is refused. -/
theorem State.tableRow_range (s : State) (h : Hand) (kind : Nat) (fault : List Byte → Option (Nat × Nat))
    (carry : Hand → List Byte → State → State) (f : Nat × Nat) (hp : s.lp.port = .takingData h)
    (hm : h.isTable kind = true) (he : h.parityError = none) (hf : framingFault h.kept = none)
    (hr : fault (h.kept.drop 3) = some f) :
    s.tableRow kind fault carry = s.refuse h .tableRange (some f.1) f.2 := by
  rw [State.tableRow, State.atEnd_of_mine s _ _ h hp hm, State.judge_of_good s h _ .table he (h.isTable_kind kind hm)]
  simp [State.endTable, hf, hr]

/-- A selector that names something is answered. -/
theorem State.queryRow_good (s : State) (h : Hand) (sel : Nat) (answer : Hand → State → State)
    (hp : s.lp.port = .takingData h) (hm : h.isQuery sel = true) (he : h.parityError = none)
    (hs : selectorFault h.kept = none) : s.queryRow sel answer = answer h s := by
  rw [State.queryRow, State.atEnd_of_mine s _ _ h hp hm, State.judge_of_good s h _ .query he (h.isQuery_kind sel hm)]
  simp [State.endQuery, hs]

/-- A selector that names nothing is refused. -/
theorem State.queryRow_bad (s : State) (h : Hand) (sel : Nat) (answer : Hand → State → State) (f : Option Nat × Nat)
    (hp : s.lp.port = .takingData h) (hm : h.isQuery sel = true) (he : h.parityError = none)
    (hs : selectorFault h.kept = some f) : s.queryRow sel answer = s.refuse h .order f.1 f.2 := by
  rw [State.queryRow, State.atEnd_of_mine s _ _ h hp hm, State.judge_of_good s h _ .query he (h.isQuery_kind sel hm)]
  simp [State.endQuery, hs]

end Sys2Proof.Machine
end

