-- ==== Sys2Proof/Laws/Links.lean ====
section
/-! SUPPORT. The two links apart from each other, and the operations that reach only the links, the active engine and
the Notice Unit. -/

namespace Sys2Proof.Machine

@[simp] theorem State.link_setLink_self (s : State) (e : Engine) (l : Link) : (s.setLink e l).link e = l := by
  cases e <;> rfl

@[simp] theorem State.link_setLink_other (s : State) (e : Engine) (l : Link) :
    (s.setLink e l).link (otherEngine e) = s.link (otherEngine e) := by cases e <;> rfl

@[simp] theorem State.link_modLink_self (s : State) (e : Engine) (f : Link → Link) :
    (s.modLink e f).link e = f (s.link e) := by cases e <;> rfl

@[simp] theorem State.link_modLink_other (s : State) (e : Engine) (f : Link → Link) :
    (s.modLink e f).link (otherEngine e) = s.link (otherEngine e) := by cases e <;> rfl

@[simp] theorem otherEngine_otherEngine (e : Engine) : otherEngine (otherEngine e) = e := by cases e <;> rfl

theorem otherEngine_ne (e : Engine) : otherEngine e ≠ e := by cases e <;> decide

theorem eq_or_eq_otherEngine (e x : Engine) : x = e ∨ x = otherEngine e := by cases e <;> cases x <;> simp [otherEngine]

/-! ### Operations on the links alone -/

/-- `t` is `s` but for the links, the active engine and the notices. -/
abbrev State.LinksOnly (s t : State) : Prop :=
  t = { s with
    linkA := t.linkA
    linkB := t.linkB
    dispatcher := { s.dispatcher with active := t.dispatcher.active }
    notices := t.notices }

theorem State.LinksOnly.refl (s : State) : s.LinksOnly s := rfl

theorem State.LinksOnly.trans {s t u : State} (h : s.LinksOnly t) (k : t.LinksOnly u) : s.LinksOnly u := by
  unfold State.LinksOnly at *
  rw [k, h]

theorem State.setLink_linksOnly (s : State) (e : Engine) (l : Link) : s.LinksOnly (s.setLink e l) := by
  cases e <;> rfl

theorem State.modLink_linksOnly (s : State) (e : Engine) (f : Link → Link) : s.LinksOnly (s.modLink e f) := by
  cases e <;> rfl

theorem State.post_linksOnly (s : State) (x : Source10) : s.LinksOnly (s.post x) := rfl

theorem State.failover_linksOnly (s : State) : s.LinksOnly s.failover := by
  unfold State.failover
  simp only
  split <;> rfl

theorem State.negotiationFault_linksOnly (s : State) (e : Engine) : s.LinksOnly (s.negotiationFault e) :=
  (s.modLink_linksOnly e _).trans (State.post_linksOnly _ _)

theorem State.settleNotices_linksOnly (b s t : State) (h : s.LinksOnly t) : s.LinksOnly (b.settleNotices t) :=
  h.trans rfl

theorem State.leaveWork_linksOnly (s : State) (e : Engine) (target : Link → Link) :
    s.LinksOnly (s.leaveWork e target) := by
  unfold State.leaveWork
  split
  · exact s.modLink_linksOnly e _
  · split <;> exact s.modLink_linksOnly e _

theorem State.followArrangement_linksOnly (s : State) (e : Engine) : s.LinksOnly (s.followArrangement e) := by
  unfold State.followArrangement
  split
  · split
    · exact s.modLink_linksOnly e _
    · rfl
  · split
    · exact s.modLink_linksOnly e _
    · rfl

theorem State.followAdvertised_linksOnly (s : State) (e : Engine) : s.LinksOnly (s.followAdvertised e) := by
  unfold State.followAdvertised
  split <;> first | rfl | exact s.modLink_linksOnly e _ | skip
  split <;> exact s.modLink_linksOnly e _

theorem State.followAdvertisedIf_linksOnly (s : State) (old : LinkSettings) (e : Engine) :
    s.LinksOnly (s.followAdvertisedIf old e) := by
  unfold State.followAdvertisedIf
  split
  · rfl
  · exact s.followAdvertised_linksOnly e

/-- LINK SETTINGS reach the settings, the links, the active engine and the notices. -/
theorem State.applySettings_linksOnly (s : State) (c : LinkSettings) :
    ({ s with settings := c } : State).LinksOnly (s.applySettings c) := by
  unfold State.applySettings
  simp only
  split <;> split
  · rfl
  · exact ((State.followArrangement_linksOnly _ .a).trans (State.followArrangement_linksOnly _ .b)).trans
      (State.failover_linksOnly _)
  · exact ((State.followAdvertisedIf_linksOnly _ _ .a).trans (State.followAdvertisedIf_linksOnly _ _ .b)).trans
      (State.failover_linksOnly _)
  · exact (((State.followArrangement_linksOnly _ .a).trans (State.followArrangement_linksOnly _ .b)).trans
      (State.failover_linksOnly _)).trans
      (((State.followAdvertisedIf_linksOnly _ _ .a).trans (State.followAdvertisedIf_linksOnly _ _ .b)).trans
        (State.failover_linksOnly _))

/-! ### Failover -/

@[simp] theorem State.failover_link (s : State) (e : Engine) : s.failover.link e = s.link e := by
  unfold State.failover
  simp only
  cases e <;> split <;> rfl

@[simp] theorem State.failover_settings (s : State) : s.failover.settings = s.settings := by
  rw [State.failover_linksOnly s]

/-- After a failover none is due. -/
theorem State.failover_settled (s : State) : s.failover.failoverSettled := by
  intro ha hn
  simp only [State.failover_link, State.failover_settings] at *
  revert hn
  unfold State.failover
  simp only
  split
  · next h =>
    intro hn
    exact absurd h.2.2 hn
  · next h =>
    intro hn hr
    exact h ⟨ha, hn, hr⟩

/-- With no failover due, none takes place. -/
theorem State.failover_of_settled (s : State) (h : s.failoverSettled) : s.failover = s := by
  unfold State.failover
  simp only
  split
  · next k => exact absurd k.2.2 (h k.1 k.2.1)
  · rfl

/-! ### Frames taken in -/

/-- Hearing a frame changes the silence timer alone. -/
theorem Link.heard_eq (l : Link) : l.heard = { l with timers := { l.timers with silence := l.heard.timers.silence } } := by
  unfold Link.heard
  split <;> rfl

@[simp] theorem Link.heard_state (l : Link) : l.heard.state = l.state := by rw [l.heard_eq]
@[simp] theorem Link.heard_inFlight (l : Link) : l.heard.inFlight = l.inFlight := by rw [l.heard_eq]
@[simp] theorem Link.heard_writing (l : Link) : l.heard.writing = l.writing := by rw [l.heard_eq]
@[simp] theorem Link.heard_draining (l : Link) : l.heard.draining = l.draining := by rw [l.heard_eq]
@[simp] theorem Link.heard_mode (l : Link) : l.heard.mode = l.mode := by rw [l.heard_eq]
@[simp] theorem Link.heard_pace (l : Link) : l.heard.pace = l.pace := by rw [l.heard_eq]
@[simp] theorem Link.heard_hasBeenReady (l : Link) : l.heard.hasBeenReady = l.hasBeenReady := by rw [l.heard_eq]

/-! ### The next transfer -/

/-- Beginning the next transfer changes the frames last sent alone. -/
theorem Link.beginNext_eq (before : List Transfer) (l : Link) :
    l.beginNext before = { l with lastSent := (l.beginNext before).lastSent } := by
  unfold Link.beginNext
  split
  · rfl
  · split <;> rfl

@[simp] theorem Link.beginNext_state (before : List Transfer) (l : Link) : (l.beginNext before).state = l.state := by
  rw [l.beginNext_eq]
@[simp] theorem Link.beginNext_inFlight (before : List Transfer) (l : Link) :
    (l.beginNext before).inFlight = l.inFlight := by rw [l.beginNext_eq]
@[simp] theorem Link.beginNext_writing (before : List Transfer) (l : Link) :
    (l.beginNext before).writing = l.writing := by rw [l.beginNext_eq]
@[simp] theorem Link.beginNext_draining (before : List Transfer) (l : Link) :
    (l.beginNext before).draining = l.draining := by rw [l.beginNext_eq]
@[simp] theorem Link.beginNext_pace (before : List Transfer) (l : Link) : (l.beginNext before).pace = l.pace := by
  rw [l.beginNext_eq]
@[simp] theorem Link.beginNext_hasBeenReady (before : List Transfer) (l : Link) :
    (l.beginNext before).hasBeenReady = l.hasBeenReady := by rw [l.beginNext_eq]

/-- With no transfer left to write, no frame is sent. -/
theorem Link.beginNext_idle (before : List Transfer) (l : Link) (h : l.writing = []) : l.beginNext before = l := by
  simp [Link.beginNext, h]

end Sys2Proof.Machine
end

