-- ==== Sys2Proof/Tests/Slice0.lean ====
section
/-! SUPPORT. Tests: the check of well-formedness, one or two single steps for each command with the result the spec's
rules give by hand, and a witness of the hypotheses of each obligation. -/

namespace Sys2Proof.Tests

set_option Elab.async false

open Sys2Proof.Machine

/-! ### Small states -/

/-- The state a command leads to; the state itself where the command stops. -/
def after (c : Instr) (s : State) : State :=
  match exec c s with
  | .next t => t
  | .fault _ => s
  | .refused _ => s

/-- Hardware reset under the straps of State.reset. -/
def r0 : State := State.reset

def withPort (p : PortState) (s : State) : State := { s with lp := { s.lp with port := p } }

def withQueue (q : List Entry) (s : State) : State := { s with queue := q }

def withRing (r : List (Option Occupied)) (s : State) : State :=
  { s with ring := r ++ List.replicate (6 - r.length) none, composer := { s.composer with nextSeq := 7 } }

/-- An order in hand that has taken these bytes. -/
def hand (b : Byte) (k : OrderKind) (kept : List Byte) : Hand := ⟨b, some k, kept, kept.length, none, false⟩

def printing (kept : List Byte) : State := withPort (.takingData (hand 80 .print kept)) r0

def moving (kept : List Byte) : State := withPort (.takingData (hand 77 .move kept)) r0

def loading (kept : List Byte) : State := withPort (.takingData (hand 84 .table kept)) r0

def asking (kept : List Byte) : State := withPort (.takingData (hand 81 .query kept)) r0

/-- The clear fence armed. -/
def fence (s : State) : State := { s with lp := { s.lp with fenceArmed := true } }

/-- R89, R90, R107: the default plan as a record, byte by byte. -/
def planRecord : List Byte :=
  [6, 0, 23, 1, 39, 216, 51, 144, 2, 88, 2, 88, 68, 35, 40, 0, 0, 1, 224, 46, 224, 2, 24, 0, 1, 7]

def replyByte (s : State) : Option Byte := s.lp.dataLines

def handOf (s : State) : Option Hand :=
  match s.lp.port with
  | .takingData h => some h
  | _ => none

def bytesOf (s : State) : List Byte :=
  match s.lp.port with
  | .responding rest _ => rest
  | _ => []

/-- A line of form 1 under the forms table of reset. -/
def lineAt (n layer : Nat) (text : Text) : PlacedEntry := ⟨1, n, layer, text, false, 66, .lpi6⟩

def sheetNo (n : Word16) : Sheet := { newSheet (composerAtStart (defaultPlan false)) with seq := n }

def slot (p : SlotPhase) (n : Word16) : Option Occupied := some ⟨p, sheetNo n⟩

/-- A READY link in mode M1 with these sheets in flight. -/
def linkWith (fs : List InFlight) : Link :=
  { linkAtStart (defaultSettings .tandem) with
    state := .ready, mode := some .fine, agreedSet := some 15, hasBeenReady := true, inFlight := fs
    timers := { noTimers with silence := some 500 } }

/-- TANDEM with both links READY. -/
def tandem : State := { State.atReset ⟨0, 3, false⟩ with linkA := linkWith [], linkB := linkWith [] }

/-- TANDEM with sheet 6 SENDING on A. -/
def sending : State :=
  { withRing [slot (.sending .a) 6] tandem with
    linkA := { linkWith [⟨6, some 5000, none⟩] with writing := [transferOf .fine (sheetNo 6)] } }

/-- TANDEM with sheets 5 and 6 SENT on A. -/
def sentTwo : State :=
  { withRing [slot (.sent .a) 5, slot (.sent .a) 6] tandem with
    linkA := linkWith [⟨5, none, some 20000⟩, ⟨6, none, some 20000⟩] }

def linkIn (x : LinkState) : Link := { linkWith [] with state := x, mode := none, agreedSet := none, timers := noTimers }

/-- SINGLE A with link A in a state. -/
def aIn (x : LinkState) : State := { r0 with linkA := linkIn x }

def phases (s : State) : List (Option SlotPhase) := s.ring.map fun o => o.map fun x => x.phase

/-- A sheet opened by a base line on line 1, with an overstrike of the same line at the head. -/
def opened (rest : List Entry) : State :=
  withQueue rest (after .placedLine (withQueue [.placedLine (lineAt 1 1 [some 32])] r0))

/-- With link A READY. -/
def readyA (s : State) : State := { s with linkA := linkWith [] }

def pend (x : Source10) (s : State) : Bool := inSet s.notices.pending x

/-! ### Well-formedness and decode -/

theorem test_wellFormed_stop : (Instr.stop .a .coverOpen).wellFormed = true := by decide

/-- R177: no STOP frame carries JAM or TIMEOUT. -/
theorem test_illFormed_stop_jam : (Instr.stop .a .jam).wellFormed = false := by decide

theorem test_illFormed_stop_timeout : (Instr.stop .b .timeout).wellFormed = false := by decide

theorem test_illFormed_refused : exec (.stop .a .jam) r0 = .refused .noSuchFrame := by rfl

/-- The table gives no row any bits. -/
theorem test_decode_none : decodeTableWord 16 80 = none := by rfl

/-! ### The host's signals -/

/-- R3, R4: a PRINT in IDLE with room. -/
theorem test_orderByte_print : handOf (after (.orderByte true 0 80 true) r0) = some ⟨80, some .print, [], 0, none, false⟩ := by
  decide +kernel

/-- R3: an even number of ones. -/
theorem test_orderByte_parity :
    handOf (after (.orderByte true 0 80 false) r0) = some ⟨80, none, [], 0, some (0, 80), false⟩ := by decide +kernel

/-- R4: a waiting SYNC finds a free entry. -/
theorem test_orderAccept : (after .orderAccept (withPort (.waitingOrder 83 .sync) r0)).lp.accept = true := by
  decide +kernel

/-- R6: a stream table's kind byte on a full queue. -/
theorem test_dataByte_kind :
    (after (.dataByte 3 true) (withQueue (List.replicate 16 .sync) (loading []))).lp.port =
      .waitingKind (hand 84 .table []) 3 := by decide +kernel

/-- R8: the 162nd data byte of a PRINT is discarded. -/
theorem test_dataByte_clamped :
    (handOf (after (.dataByte 65 true) (printing (List.replicate 161 0)))).map
      (fun h => (h.kept.length, h.count, h.clamped)) = some (161, 162, true) := by decide +kernel

/-- R9, R210: CHECK is 1. -/
theorem test_unknownOrder : replyByte (after .unknownOrder (withPort (.takingData ⟨65, none, [], 0, none, false⟩) r0)) = some 1 := by
  decide +kernel

/-- R30, R43: SPACE 1 BEFORE and the text A. -/
theorem test_print_before :
    (after .print (printing [0x01, 65])).queue = [.placedLine (lineAt 2 1 [some 32])] := by decide +kernel

/-- R31: the same AFTER places on line 1 first. -/
theorem test_print_after :
    (fun s => (s.queue, s.forms.line)) (after .print (printing [0x81, 65])) = ([.placedLine (lineAt 1 1 [some 32])], 2) := by
  decide +kernel

/-- R22, R27: SKIP 12 ends on line 60. -/
theorem test_move_skip : (after .move (moving [0x2C])).forms.line = 60 := by decide +kernel

/-- R10, R14: a MOVE with no data byte. -/
theorem test_move_none : (after .move (moving [])).lp.check = some ⟨.motion, 77, none, 0⟩ := by decide +kernel

/-- R16. -/
theorem test_sync :
    (fun s => (s.queue, s.lp.port)) (after .sync (withPort (.takingData (hand 83 .sync [])) r0)) =
      ([.sync], .syncWithheld .markerQueued false) := by decide +kernel

/-- R16, R210: DONE is 0. -/
theorem test_syncDone : replyByte (after .syncDone (withPort (.syncWithheld .ringWatch false) r0)) = some 0 := by
  decide +kernel

/-- R17: one sheet in the ring and no able engine. -/
theorem test_engineStopped :
    (after .engineStopped (withPort (.syncWithheld .ringWatch false) (withRing [slot .ready 6] r0))).lp.check =
      some ⟨.engineStopped, 83, none, 1⟩ := by decide +kernel

/-! ### TABLE and QUERY -/

/-- R44: MARK with substitute 5, every code UNPRINTABLE. -/
theorem test_tableCharacterMap :
    (fun s => (s.map.action, s.map.substitute, s.map.entry 65))
      (after .tableCharacterMap (loading ([1, 1, 2, 1, 5] ++ List.replicate 256 241))) =
      (.mark, 5, .unprintable) := by decide +kernel

/-- R23: 12 lines at 8 lines per inch with a stop of channel 1 on line 1. -/
theorem test_tableForms :
    (after .tableForms (loading [2, 0, 5, 12, 8, 0, 1, 1])).forms.table = ⟨12, .lpi8, none, [⟨1, 1⟩]⟩ := by decide +kernel

/-- R23: a stop on line 13 of a form of 12. -/
theorem test_tableForms_range :
    (after .tableForms (loading [2, 0, 5, 12, 8, 0, 13, 1])).lp.check = some ⟨.tableRange, 84, some 7, 13⟩ := by
  decide +kernel

/-- R65, R73: a COLLATION of ranks 0 waits as one entry. -/
theorem test_tableCollation :
    (after .tableCollation (loading ([3, 0, 240] ++ List.replicate 240 0))).queue =
      [.streamTable (.collation (Vector.replicate 240 none)) false] := by decide +kernel

/-- R7: the clear fence makes the entry the fenced one. -/
theorem test_tableFieldLayout_fenced :
    (after .tableFieldLayout (fence (loading [4, 0, 5, 3, 4, 0, 0, 0]))).queue =
      [.streamTable (.fieldLayout ⟨3, 4, none⟩) true] := by decide +kernel

/-- R87. -/
theorem test_tableKeyReset : (after .tableKeyReset (loading [5, 0, 0])).queue = [.streamTable .keyReset false] := by
  decide +kernel

/-- R89, R90: the default plan written out. -/
theorem test_tableSheetPlan :
    (after .tableSheetPlan (loading planRecord)).queue = [.streamTable (.sheetPlan (defaultPlan false)) false] := by
  decide +kernel

/-- R163: STANDBY takes link B into use. -/
theorem test_tableLinkSettings :
    (fun s => (s.linkA.state, s.linkB.state, s.linkB.lastSent))
      (after .tableLinkSettings (loading [7, 0, 11, 2, 15, 0, 19, 136, 78, 32, 11, 184, 4, 3])) =
      (.offering, .offering, [.offer 15 false]) := by decide +kernel

/-- R205. -/
theorem test_tableNoticeControl :
    (fun s => (s.notices.mask, s.notices.confirmed)) (after .tableNoticeControl (loading [8, 0, 3, 2, 1, 1])) = (513, true) := by
  decide +kernel

/-- R204: the source TABLE REFUSED. -/
theorem test_tableNoticeClear :
    pend .tableRefused (after .tableNoticeClear ((loading [9, 0, 2, 2, 0]).post .tableRefused)) = false := by
  decide +kernel

/-- R2. -/
theorem test_tableUnit : (after .tableUnit (loading [10, 0, 1, 7])).lp.unit = 7 := by decide +kernel

/-- R191: counter 1 alone. -/
theorem test_tableCounterClear :
    (fun s => (s.counter .linesAccepted, s.counter .ordersRefused))
      (after .tableCounterClear (((loading [11, 0, 2, 0, 2]).count .ordersRefused 9).count .linesAccepted 8)) = (8, 0) := by
  decide +kernel

/-- R20: the queue is discarded, and the reply stays. -/
theorem test_tableReset :
    (fun s => (s.queue, replyByte s)) (after .tableReset (withQueue [.sync] (loading [12, 0, 0]))) = ([], some 0) := by
  decide +kernel

/-- R11, R14: kind 13 names no kind. -/
theorem test_tableKindUnknown :
    (after .tableKindUnknown (loading [13, 0, 0])).lp.check = some ⟨.tableFormat, 84, some 1, 13⟩ := by decide +kernel

/-- R194. -/
theorem test_queryCondition :
    bytesOf (after .queryCondition (asking [1])) = [0, 0, 6, 0, 0, 0, 0, 0, 0, 1, 0, 1, 1, 0, 1, 0, 1, 0, 0] := by
  decide +kernel

/-- R195. -/
theorem test_queryCheck :
    bytesOf (after .queryCheck (withPort (.takingData (hand 81 .query [2])) (after .move (moving [])))) = [3, 77, 0, 0, 0] := by
  decide +kernel

/-- R196, R203: LATCHED mode empties the pending set. -/
theorem test_queryNotices :
    (fun s => (bytesOf s, s.notices.pending)) (after .queryNotices ((asking [3]).post .tableRefused)) =
      ([2, 0, 3, 255, 0, 0, 0], 0) := by decide +kernel

/-- R200. -/
theorem test_queryCounters :
    bytesOf (after .queryCounters ((asking [4]).count .linesAccepted 258)) = [0, 0, 1, 2] ++ List.replicate 60 0 := by
  decide +kernel

/-- R22, R41, R197: the FORMS table of reset. -/
theorem test_queryTable : bytesOf (after .queryTable (asking [5, 2])) = [2, 0, 7, 66, 6, 12, 1, 1, 60, 12] := by
  decide +kernel

/-- R193: kind 9 has no table to report. -/
theorem test_queryTable_bad : (after .queryTable (asking [5, 9])).lp.check = some ⟨.order, 81, some 2, 9⟩ := by
  decide +kernel

/-- R198: T stands at 62536 and S at 252. -/
theorem test_queryEngine :
    bytesOf (after .queryEngine (asking [6, 0])) = [1, 0, 0, 0, 0, 1, 1, 0, 0, 0, 0, 0, 0, 0, 244, 72, 252, 0, 0] := by
  decide +kernel

/-- R199: sheet 6 READY with folio 1. -/
theorem test_queryRing :
    bytesOf (after .queryRing (withRing [slot .ready 6] (asking [7]))) = [2, 0, 6, 0, 1, 0, 0] ++ List.replicate 35 0 := by
  decide +kernel

/-- R12, R14: no selector. -/
theorem test_selectorNamingNothing : (after .selectorNamingNothing (asking [])).lp.check = some ⟨.order, 81, none, 0⟩ := by
  decide +kernel

/-! ### Replies and resets -/

/-- R12. -/
theorem test_replyTaken_next : bytesOf (after .replyTaken (withPort (.responding [1, 2] false) r0)) = [2] := by
  decide +kernel

/-- R12, R210: the last byte, and DONE with the clamped flag. -/
theorem test_replyTaken_last : replyByte (after .replyTaken (withPort (.responding [1] true) r0)) = some 16 := by
  decide +kernel

/-- R19. -/
theorem test_clear : (fun s => (s.lp.port, s.lp.fenceArmed)) (after .clear (printing [])) = (.idle, true) := by
  decide +kernel

/-- R165: a used link enters BREAK. -/
theorem test_lineReset :
    (fun s => (s.linkA.state, s.linkA.timers.breakEnd, s.linkB.state, s.queue)) (after .lineReset (withQueue [.sync] r0)) =
      (.broken, some 800, .off, []) := by decide +kernel

/-- R21: the straps. -/
theorem test_hardwareReset :
    (fun s => (s.lp.unit, s.settings.arrangement, s.composer.plan.gang)) (after (.hardwareReset ⟨9, 2, true⟩) (printing [])) =
      (9, .standby, 3) := by decide +kernel

/-! ### The composer -/

/-- R61: the owed marker takes the free place. -/
theorem test_owedFormEnd :
    (fun s => (s.queue, s.forms.owed)) (after .owedFormEnd { r0 with forms := { r0.forms with owed := some ⟨1, 66, .lpi6⟩ } }) =
      ([.formEnd ⟨1, 66, .lpi6⟩], none) := by decide +kernel

/-- R94, R95: V' is 181, so line 1 lies at 600 + 480 + 181. -/
theorem test_placedLine_place :
    ((opened []).lastLine.map fun x => (x.1.pitch, x.2.baseline)) = some (181, 1261) := by decide +kernel

/-- R83: the line is keyed. -/
theorem test_placedLine_counts :
    (fun s => (s.counter .placedLines, s.counter .keyedLines, s.composer.nextSeq)) (opened []) = (1, 1, 2) := by
  decide +kernel

/-- R118: the overstrike joins the line. -/
theorem test_overstrikeMerge :
    ((after .overstrikeMerge (opened [.placedLine (lineAt 1 2 [some 62])])).lastLine.map fun x => x.2.overstrike) =
      some (some ⟨[some 62], false⟩) := by decide +kernel

/-- R119: it is not judged. -/
theorem test_lineOfItsOwn :
    (fun s => (s.counter .placedLines, s.counter .keyedLines))
      (after .lineOfItsOwn (withQueue [.placedLine (lineAt 1 2 [some 62])] r0)) = (1, 0) := by decide +kernel

/-- R120, R121: the only column of the plan closes, and the sheet is committed. -/
theorem test_formEnd :
    (fun s => (phases s, s.counter .sheetsCommitted)) (after .formEnd (opened [.formEnd ⟨1, 66, .lpi6⟩])) =
      ([some .ready, none, none, none, none, none], 1) := by decide +kernel

/-- R112: six sheets in the ring. -/
theorem test_formEnd_waits :
    (fun s => (s.composer.waiting, pend .ringFull s, s.queue.length))
      (after .formEnd (withQueue [.formEnd ⟨1, 66, .lpi6⟩] (withRing (List.replicate 6 (slot .ready 6)) r0))) =
      (true, true, 1) := by decide +kernel

/-- R16, R67: the flush, and the ring watch. -/
theorem test_syncMarker :
    (fun s => (phases s, s.lp.port)) (after .syncMarker (withPort (.syncWithheld .markerQueued false) (readyA (opened [.sync])))) =
      ([some .ready, none, none, none, none, none], .syncWithheld .ringWatch false) := by decide +kernel

/-- R126. -/
theorem test_sheetPlanEntry :
    (fun s => (s.composer.plan.gang, s.composer.column, phases s))
      (after .sheetPlanEntry (opened [.streamTable (.sheetPlan (defaultPlan true)) false])) =
      (3, 1, [some .ready, none, none, none, none, none]) := by decide +kernel

/-- R74: the held key is cleared. -/
theorem test_collationEntry :
    (fun s => (s.keys.heldKey, s.keys.collation.get 0))
      (after .collationEntry (opened [.streamTable (.collation (Vector.replicate 240 none)) false])) = (none, none) := by
  decide +kernel

/-- R77. -/
theorem test_fieldLayoutEntry :
    (fun s => (s.keys.heldKey, s.keys.layout))
      (after .fieldLayoutEntry (opened [.streamTable (.fieldLayout ⟨3, 4, none⟩) false])) = (none, ⟨3, 4, none⟩) := by
  decide +kernel

/-- R72, R79, R87: the glyph 32 ranks 33. -/
theorem test_keyResetEntry :
    (fun s => (s.keys.heldKey, (after .keyResetEntry s).keys.heldKey)) (opened [.streamTable .keyReset true]) =
      (some [33], none) := by decide +kernel

/-! ### Dispatch and the links -/

/-- R143, R144: B was granted last, so A is granted. -/
theorem test_grant :
    (fun s => (phases s, s.linkA.inFlight)) (after .grant (withRing [slot .ready 6] tandem)) =
      ([some (.sending .a), none, none, none, none, none], [⟨6, none, none⟩]) := by decide +kernel

/-- R144: the engine that is not degraded. -/
theorem test_grant_degraded :
    phases (after .grant { withRing [slot .ready 6] tandem with
      linkA := { linkWith [] with pace := ⟨62536, 252, 3, true, false, false⟩ } }) =
      [some (.sending .b), none, none, none, none, none] := by decide +kernel

/-- R170, R173: an empty sheet has no RUN and no MARK; the TAKEN timer starts. -/
theorem test_sheetEnd :
    (fun s => (s.linkA.lastSent, s.linkA.inFlight)) (after (.sheetEnd .a) sending) =
      ([.sheetEnd 6 0 0], [⟨6, some 5000, none⟩]) := by decide +kernel

/-- R153, R155: the third OFFER alike. -/
theorem test_offer_third :
    (fun s => (s.linkA.state, s.linkA.mode, s.linkA.lastSent))
      (after (.offer .a 6 false) { r0 with linkA := { r0.linkA with keptSet := some 6, offerCount := 2 } }) =
      (.agreeing, some .standard, [.offer 15 true]) := by decide +kernel

/-- R158: an OFFER from a READY engine returns what it held. -/
theorem test_offer_restart :
    (fun s => (s.linkA.state, s.linkA.offerCount, phases s)) (after (.offer .a 1 false) { sentTwo with settings := { sentTwo.settings with arrangement := .singleA } }) =
      (.offering, 1, [some .ready, some .ready, none, none, none, none]) := by decide +kernel

/-- R154. -/
theorem test_idle : (after (.idle .a) r0).linkA.idleSeen = true := by decide +kernel

/-- R172, R175. -/
theorem test_taken :
    (fun s => (phases s, s.linkA.inFlight)) (after (.taken .a 6) sending) =
      ([some (.sent .a), none, none, none, none, none], [⟨6, none, some 20000⟩]) := by decide +kernel

/-- R176: a stray. -/
theorem test_taken_stray : (after (.taken .a 3) sending).counter .strays = 1 := by decide +kernel

/-- R134, R174: sheet 6 releases sheet 5 with it. -/
theorem test_stacked :
    (fun s => (phases s, s.counter .stackedA, s.linkA.pace.s)) (after (.stacked .a 6) sentTwo) =
      ([none, none, none, none, none, none], 2, 254) := by decide +kernel

/-- R136, R177: both sheets return with reissue counts of 1. -/
theorem test_stop :
    (fun s => (s.linkA.stopCause, s.linkA.inFlight, s.ring.map fun o => o.map fun x => x.sheet.reissue))
      (after (.stop .a .paperOut) { sentTwo with linkB := linkIn .off }) =
      (some .paperOut, [], [some 1, some 1, none, none, none, none]) := by decide +kernel

/-- R178: sheet 5 is released and sheet 6 returns. -/
theorem test_jam :
    (fun s => (s.linkA.state, phases s, s.counter .stackedA)) (after (.jam .a (some 5)) { sentTwo with linkB := linkIn .off }) =
      (.stopped, [none, some .ready, none, none, none, none], 1) := by decide +kernel

/-- R179. -/
theorem test_ready :
    (fun s => (s.linkA.state, pend .engineRestored s)) (after (.ready .a) (aIn .stopped)) = (.ready, true) := by
  decide +kernel

/-- R152. -/
theorem test_offerRepeat : (after (.offerRepeat .a) (aIn .agreeing)).linkA.lastSent = [.offer 15 true] := by
  decide +kernel

/-- R154: plain detection, with a settle delay of 0. -/
theorem test_offerWindow :
    (fun s => (s.linkA.state, s.linkA.mode, s.linkA.plain))
      (after (.offerWindow .a) { r0 with linkA := { r0.linkA with idleSeen := true } }) = (.ready, some .plain, true) := by
  decide +kernel

/-- R155, R159. -/
theorem test_acknowledgementWindow :
    (fun s => (s.linkA.state, s.linkA.timers.breakEnd)) (after (.acknowledgementWindow .a) (aIn .agreeing)) =
      (.broken, some 800) := by decide +kernel

/-- R156. -/
theorem test_settleTimer : (after (.settleTimer .a) (aIn .settling)).linkA.state = .ready := by decide +kernel

/-- R157, R180: the link is lost; the engine counts as stopped since it has been READY. -/
theorem test_silenceTimer :
    (fun s => (s.linkA.state, pend .engineStoppedA s)) (after (.silenceTimer .a) { r0 with linkA := linkWith [] }) =
      (.broken, true) := by decide +kernel

/-- R159. -/
theorem test_breakEnd :
    (fun s => (s.linkA.state, s.linkA.timers.offerWindow)) (after (.breakEnd .a) (aIn .broken)) = (.offering, some 2000) := by
  decide +kernel

/-- R173: the TAKEN timer of sheet 6, with engine B stopped. -/
theorem test_takenTimeout :
    (fun s => (s.linkA.stopCause, phases s)) (after (.takenTimeout .a) { sending with linkB := linkIn .off }) =
      (some .timeout, [some .ready, none, none, none, none, none]) := by decide +kernel

/-- R175. -/
theorem test_stackedTimeout :
    (fun s => (s.linkA.stopCause, phases s)) (after (.stackedTimeout .a 5) { sentTwo with linkB := linkIn .off }) =
      (some .timeout, [some .ready, some .ready, none, none, none, none]) := by decide +kernel

/-- R184: only a link with a sheet in flight counts. -/
theorem test_tick : (fun s => (s.linkA.pace.t, s.linkB.pace.t)) (after .tick sentTwo) = (62537, 62536) := by
  decide +kernel

/-- R186: the third short window in a row meets the threshold of 3. -/
theorem test_windowShort :
    (fun s => (s.linkA.pace, pend .degraded s)) (after (.windowShort .a) { r0 with linkA := { linkWith [] with pace := ⟨0, 253, 2, false, true, false⟩ } }) =
      (⟨62536, 252, 3, true, false, false⟩, true) := by decide +kernel

/-- R186. -/
theorem test_windowMet :
    (after (.windowMet .a) { r0 with linkA := { linkWith [] with pace := ⟨63000, 0, 5, true, false, true⟩ } }).linkA.pace =
      ⟨62536, 252, 0, false, false, false⟩ := by decide +kernel

/-- R206: class 4 shows for the burst only. -/
theorem test_burstTimer :
    (fun s => (s.notices.callLine, (after .burstTimer s).notices.callLine)) (r0.post .failover) = (true, false) := by
  decide +kernel

/-- R206: class 3 toggles. -/
theorem test_callPattern :
    (fun s => (s.notices.callLine, (after .callPattern s).notices.callLine)) (r0.post .tableRefused) = (true, false) := by
  decide +kernel

/-- The command answers a next state. -/
def runs (c : Instr) (s : State) : Bool :=
  match exec c s with
  | .next _ => true
  | .fault _ => false
  | .refused _ => false

theorem next_of_runs {c : Instr} {s : State} (h : runs c s = true) : exec c s = .next (after c s) := by
  unfold runs at h
  unfold after
  split at h <;> first | assumption | cases h

theorem exists_next_of_runs {c : Instr} {s : State} (h : runs c s = true) : ∃ t, exec c s = .next t :=
  ⟨_, next_of_runs h⟩

/-- The state with a command that waits. -/
def commanded (c : Instr) (s : State) : State := { s with pending := [c] }

theorem exists_step_of_runs {c : Instr} {s : State} (h : runs c { s with pending := [] } = true) :
    ∃ t, step (commanded c s) = .next t := ⟨_, next_of_runs h⟩

/-! ### Witnesses: states and operands that meet the hypotheses of the obligations -/

/-- A state with so many entries in the queue. -/
def filled (n : Nat) (s : State) : State := withQueue (List.replicate n .sync) s

theorem witness_DueStepsComeFirst : r0.quiet ∧ r0.pending = [] ∧ takesDueFirst .tick = true := by decide +kernel

theorem witness_WellFormedCommandsAnswerNext :
    (Instr.tick).wellFormed = true ∧ (Instr.stop .b .timeout).wellFormed = false := by decide

theorem witness_HardwareResetReachesEveryBlock :
    (State.atReset ⟨15, 3, true⟩).settings.arrangement.uses .b = true ∧
      (State.atReset ⟨0, 0, false⟩).settings.arrangement.uses .b = false := by decide +kernel

theorem witness_ResetMeetsTheInvariants : r0 = State.reset ∧ ∃ straps, State.atReset ⟨15, 3, true⟩ = State.atReset straps :=
  ⟨rfl, _, rfl⟩

theorem witness_SoftResetsDiscardTheWork :
    sentTwo.quiet ∧ (loading [12, 0, 0]).quiet ∧ (loading [12, 0, 0]).lp.port = .takingData (hand 84 .table [12, 0, 0]) ∧
      (hand 84 .table [12, 0, 0]).parityError = none ∧ endsHand .tableReset (hand 84 .table [12, 0, 0]) = true ∧
      framingFault [12, 0, 0] = none := by decide +kernel

theorem witness_PortClearTouchesThePortAlone : (printing [1, 65]).quiet := by decide +kernel

/-- An order in hand that names none of the five. -/
def unknownHand : Hand := ⟨65, none, [], 0, none, false⟩

theorem witness_OrderBytesNameTheOrders :
    (r0.quiet ∧ r0.lp.port = .idle ∧ parityGood 65 true = true ∧ orderNamed 65 = none) ∧
      (withPort (.takingData unknownHand) r0).quiet ∧ unknownHand.kind = none ∧ unknownHand.parityError = none := by
  decide +kernel

theorem witness_SignalsThePortIgnores :
    r0.quiet ∧ (1 : BitVec 4) ≠ r0.lp.unit ∧ (printing []).quiet ∧ (printing []).lp.port ≠ .idle ∧
      (∀ h, r0.lp.port ≠ .takingData h) ∧ (moving []).quiet ∧ isEndRow .print = true ∧
      (∀ h, (moving []).lp.port = .takingData h → endsHand .print h = false) ∧
      (∀ rest clamped, r0.lp.port ≠ .responding rest clamped) ∧ ∀ r, r0.lp.port ≠ .replying r := by
  refine ⟨by decide +kernel, by decide +kernel, by decide +kernel, by decide +kernel, ?_, by decide +kernel, rfl, ?_, ?_, ?_⟩
  · intro h e
    cases (show PortState.idle = .takingData h from e)
  · intro h e
    cases (show PortState.takingData (hand 77 .move []) = .takingData h from e)
    rfl
  · intro rest c e
    cases (show PortState.idle = .responding rest c from e)
  · intro r e
    cases (show PortState.idle = .replying r from e)

/-- A parity error; NOT READY at 1 free entry; taken at 2 free entries; waiting for room at 1; waiting for the fence. -/
theorem witness_OrderByteIsTakenUp :
    (r0.quiet ∧ r0.lp.port = .idle ∧ parityGood 80 false = false) ∧
      (∀ s ∈ [filled 15 r0, filled 14 r0, filled 15 tandem, withQueue [.streamTable .keyReset true] r0],
        s.quiet ∧ s.lp.port = .idle) ∧
      parityGood 80 true = true ∧ orderNamed 80 = some .print ∧ parityGood 83 true = true ∧ orderNamed 83 = some .sync ∧
      ((filled 15 r0).held = true ∧ (filled 15 r0).freeEntries = 1) ∧
      ((filled 14 r0).freeEntries = 2 ∧ (filled 14 r0).fenceHolds = false) ∧
      ((filled 15 tandem).held = false ∧ (filled 15 tandem).freeEntries = 1) ∧
      (withQueue [.streamTable .keyReset true] r0).fenceHolds = true := by decide +kernel

/-- R6: at a full queue, the kind bytes of the first and the last stream table wait; the kinds on either side of them, a
kind byte with a parity error, and one met by a free entry do not. -/
theorem witness_DataBytesAreKeptOrDiscarded_kind :
    (∀ n ∈ [15, 16], (filled n (loading [])).quiet ∧ (filled n (loading [])).queue.length = n ∧
      (filled n (loading [])).lp.port = .takingData (hand 84 .table [])) ∧
      (∀ d ∈ [3, 6], (filled 16 (loading [])).holdsKind (hand 84 .table []) d (oddParity d) = true ∧
        (filled 16 (loading [])).holdsKind (hand 84 .table []) d (!oddParity d) = false ∧
        (filled 15 (loading [])).holdsKind (hand 84 .table []) d (oddParity d) = false) ∧
      ∀ d ∈ [0, 2, 7, 13], (filled 16 (loading [])).holdsKind (hand 84 .table []) d (oddParity d) = false := by
  decide +kernel

/-- The 161st byte is kept and the 162nd discarded; a parity error at each. -/
theorem witness_DataBytesAreKeptOrDiscarded :
    ∀ n ∈ [160, 161], (printing (List.replicate n 0)).quiet ∧
      (printing (List.replicate n 0)).lp.port = .takingData (hand 80 .print (List.replicate n 0)) ∧
      (printing (List.replicate n 0)).holdsKind (hand 80 .print (List.replicate n 0)) 65 true = false ∧
      (printing (List.replicate n 0)).holdsKind (hand 80 .print (List.replicate n 0)) 65 false = false ∧
      (hand 80 .print (List.replicate n 0)).kept.length = n ∧ parityGood 65 true = true ∧ parityGood 65 false = false := by
  decide +kernel

theorem witness_WaitingBytesAndOwedMarkers :
    ((filled 16 (loading [])).quiet ∧ (filled 16 (loading [])).freeEntries = 0 ∧ kindIsStream 3 = true ∧
        parityGood 3 true = true) ∧
      (∀ n ∈ [0, 15], (filled n r0).forms.owed = none ∧ 0 < (filled n r0).freeEntries ∧ (filled n r0).fenceHolds = false) ∧
      roomNeeded .sync ≤ (filled 15 r0).freeEntries ∧ r0.acceptDue = false ∧
      (filled 15 r0).queue.length < 16 ∧ 16 ≤ (filled 16 r0).queue.length ∧
      (hand 84 .table []).kept = [] ∧ (hand 84 .table []).count = 0 ∧ (hand 84 .table []).parityError = none := by
  decide +kernel

theorem witness_RepliesAndResponsesAreTaken :
    (withPort (.responding [1, 2] false) r0).quiet ∧ (withPort (.responding [1] true) r0).quiet ∧
      (withPort (.replying ⟨.done, false, false, false⟩) r0).quiet ∧
      (withPort (.responding [1, 2] false) r0).lp.dataLines = some 1 ∧ r0.lp.dataLines = none := by decide +kernel

/-- SPACE 4 is the first operand that is no motion. -/
theorem witness_MotionAndReplyByteLayouts :
    ∀ s ∈ [(Instr.print, hand 80 .print [4]), (Instr.move, hand 77 .move [4])],
      (withPort (.takingData s.2) r0).quiet ∧ endsHand s.1 s.2 = true ∧ s.2.parityError = none ∧ s.2.kept.head? = some 4 ∧
        motionOf 4 = none := by decide +kernel

/-- A map under REFUSE. -/
def refusing (s : State) : State := { s with map := { s.map with action := .refuse } }

theorem witness_OrdersAreRefused :
    ((withPort (.takingData ⟨80, some .print, [65], 1, some (1, 65), false⟩) r0).quiet ∧
        endsHand .print ⟨80, some .print, [65], 1, some (1, 65), false⟩ = true) ∧
      (∀ k ∈ ([[], [0x22], [0x01, 1]] : List (List Byte)), (refusing (printing k)).quiet ∧
        endsHand .print (hand 80 .print k) = true ∧ (hand 80 .print k).parityError = none) ∧
      (motionOf 0x22 = some ⟨false, .skip 2⟩ ∧ r0.forms.table.hasChannel 2 = false) ∧
      motionOf 0x01 = some ⟨false, .space 1⟩ ∧ (refusing r0).map.firstRefused [1] = some (1, 1) := by decide +kernel

theorem witness_MotionsAreCarriedOut :
    (∀ k ∈ ([[0x01, 65], [0x81, 65], [0x2C, 65]] : List (List Byte)), (printing k).quiet ∧
        (hand 80 .print k).parityError = none ∧ r0.map.firstRefused k.tail = none) ∧
      motionOf 0x01 = some ⟨false, .space 1⟩ ∧ motionOf 0x81 = some ⟨true, .space 1⟩ ∧
      motionOf 0x2C = some ⟨false, .skip 12⟩ ∧ r0.forms.table.hasChannel 12 = true ∧ (moving [0x2C]).quiet := by
  decide +kernel

/-- The form at a line. -/
def formAt (n : Nat) : Forms := { r0.forms with line := n }

/-- SPACE 3 from line 63 ends on the last line and from line 64 crosses; SKIP 12 from line 1 ends on line 60; SKIP 1 from
line 60 crosses onto line 1. -/
theorem witness_MotionsEndWhereTheyShould :
    (∀ n ∈ [1, 60, 63, 64], (formAt n).inRange) ∧ (formAt 63).line + 3 = (formAt 63).table.length ∧
      (formAt 64).line + 3 = (formAt 64).table.length + 1 ∧
      ((formAt 1).table.carries ((formAt 1).arrival 59) 12 = true ∧
        ∀ j < 59, 1 ≤ j → (formAt 1).table.carries ((formAt 1).arrival j) 12 = false) ∧
      ((formAt 60).table.carries ((formAt 60).arrival 7) 1 = true ∧ (formAt 60).table.length < (formAt 60).line + 7 ∧
        ∀ j < 7, 1 ≤ j → (formAt 60).table.carries ((formAt 60).arrival j) 1 = false) ∧
      ∃ st ∈ r0.forms.table.stops, st.channel = 12 ∧ 1 ≤ st.line ∧ st.line ≤ r0.forms.table.length := by decide +kernel

theorem witness_FormsEndAndPlacement : ([some 32] : Text) ≠ [] := by decide

/-- The second of three codes is UNPRINTABLE, and no glyph follows it. -/
theorem witness_TranslationAndTrim :
    (refusing r0).map.firstRefused [65, 1, 2] = some (2, 1) ∧ r0.map.firstRefused [65, 1] = none ∧
      r0.map.translate [65, 1] = [some 32] := by decide +kernel

theorem witness_SyncIsWithheldAndAnswered :
    ((withPort (.takingData (hand 83 .sync [])) r0).quiet ∧ (hand 83 .sync []).parityError = none) ∧
      sheetsIn r0.ring = 0 ∧ r0.syncDoneDue = false ∧ r0.syncFailDue = false ∧
      1 ≤ sheetsIn (withRing [slot .ready 6] r0).ring ∧ (withRing [slot .ready 6] r0).held = true := by decide +kernel

theorem witness_BadRecordsAndSelectorsAreRefused :
    ([7, 0] : List Byte).length < 3 ∧ bodyLengthGood 2 4 = false ∧
      (∀ k ∈ ([[7, 0], [0, 0, 0], [13, 0, 0], [2, 0, 9], [2, 0, 4, 0, 0, 0, 0]] : List (List Byte)),
        (framingFault k).isSome = true) ∧
      (∀ k ∈ ([[2, 0, 9], [2, 0, 5, 11, 6, 0, 1, 1]] : List (List Byte)), (loading k).quiet ∧
        endsHand .tableForms (hand 84 .table k) = true ∧ (hand 84 .table k).parityError = none) ∧
      framingFault [2, 0, 5, 11, 6, 0, 1, 1] = none ∧ (rangeFault .tableForms [11, 6, 0, 1, 1]).isSome = true ∧
      ((loading [1, 2]).quiet ∧ endsHand .tableKindUnknown (hand 84 .table [1, 2]) = true) ∧
      ((asking [8]).quiet ∧ endsHand .selectorNamingNothing (hand 81 .query [8]) = true ∧
        (selectorFault [8]).isSome = true) := by decide +kernel

/-- A rank byte of 251 at the last glyph; an action, a substitute and an entry out of range. -/
theorem witness_BadRecordsAndSelectorsAreRefused_entries :
    (byteAt (List.replicate 239 250 ++ [251]) 239 = 251 ∧
        ∀ j < 239, byteAt (List.replicate 239 250 ++ [251]) j ≤ 250) ∧
      byteAt [3] 0 = 3 ∧ byteAt [2, 240] 1 = 240 ∧
      (byteAt ([2, 239] ++ List.replicate 255 241 ++ [242]) 257 = 242 ∧
        ∀ j < 255, byteAt ([2, 239] ++ List.replicate 255 241 ++ [242]) (2 + j) ≤ 241) := by decide +kernel

/-- A good first stop, and a second whose line, whose channel, or both again, are refused. -/
theorem witness_BadRecordsAndSelectorsAreRefused_stops :
    ∀ x ∈ ([⟨13, 1⟩, ⟨2, 13⟩, ⟨12, 12⟩] : List Stop),
      stopPairs [12, 12, byteOf x.line, byteOf x.channel] = [⟨12, 12⟩, x] ∧
        (12 < x.line ∨ 12 < x.channel ∨ x ∈ ([⟨12, 12⟩, x] : List Stop).take 1) := by decide +kernel

theorem witness_StreamTablesAreQueued :
    ∀ x ∈ ([(.tableCollation, [3, 0, 240] ++ List.replicate 240 250), (.tableFieldLayout, [4, 0, 5, 160, 1, 0, 0, 0]),
        (.tableSheetPlan, planRecord), (.tableKeyReset, [5, 0, 0])] : List (Instr × List Byte)),
      (loading x.2).quiet ∧ endsHand x.1 (hand 84 .table x.2) = true ∧ (hand 84 .table x.2).parityError = none ∧
        framingFault x.2 = none ∧ rangeFault x.1 (x.2.drop 3) = none := by decide +kernel

theorem witness_FrontTablesTakeEffect :
    (∀ x ∈ ([(.tableCharacterMap, [1, 1, 2, 1, 5] ++ List.replicate 256 241), (.tableUnit, [10, 0, 1, 15]),
        (.tableCounterClear, [11, 0, 2, 255, 255]), (.tableNoticeClear, [9, 0, 2, 3, 255]),
        (.tableNoticeControl, [8, 0, 3, 3, 255, 1])] : List (Instr × List Byte)),
      (loading x.2).quiet ∧ endsHand x.1 (hand 84 .table x.2) = true ∧ (hand 84 .table x.2).parityError = none ∧
        framingFault x.2 = none ∧ rangeFault x.1 (x.2.drop 3) = none) ∧ r0.notices.callSound := by decide +kernel

/-- A form touched. -/
def touch (s : State) : State := { s with forms := { s.forms with touched := true } }

theorem witness_FormsLoadEndsATouchedForm :
    (∀ s ∈ [loading [2, 0, 5, 12, 6, 0, 12, 12], touch (filled 15 (loading [2, 0, 5, 12, 6, 0, 12, 12])),
        touch (filled 16 (loading [2, 0, 5, 12, 6, 0, 12, 12]))], s.quiet ∧ s.notices.callSound) ∧
      endsHand .tableForms (hand 84 .table [2, 0, 5, 12, 6, 0, 12, 12]) = true ∧
      framingFault [2, 0, 5, 12, 6, 0, 12, 12] = none ∧ formsFault [12, 6, 0, 12, 12] = none := by decide +kernel

/-- A LINK SETTINGS record of an arrangement and a set, with the default durations. -/
def settingsRecord (arrangement modes : Byte) : List Byte :=
  [7, 0, 11, arrangement, modes, 0, 19, 136, 78, 32, 11, 184, 4, 3]

/-- The record in hand in TANDEM with two sheets in flight on A: nothing changed; the set changed; the arrangement
changed, so that link A is used no more, or link B; and both changed. -/
theorem witness_LinkSettingsActOnTheLinks :
    (∀ k ∈ [settingsRecord 3 15, settingsRecord 3 7, settingsRecord 0 15, settingsRecord 1 15, settingsRecord 0 7,
        settingsRecord 1 7, settingsRecord 2 7],
      (withPort (.takingData (hand 84 .table k)) sentTwo).quiet ∧ endsHand .tableLinkSettings (hand 84 .table k) = true ∧
        (hand 84 .table k).parityError = none ∧ framingFault k = none ∧ settingsFault (k.drop 3) = none) ∧
      (settingsOf ((settingsRecord 3 15).drop 3)).arrangement = sentTwo.settings.arrangement ∧
      (settingsOf ((settingsRecord 3 15).drop 3)).advertised = sentTwo.settings.advertised ∧
      (settingsOf ((settingsRecord 3 7).drop 3)).advertised ≠ sentTwo.settings.advertised ∧
      (settingsOf ((settingsRecord 1 15).drop 3)).arrangement.uses .a = false ∧
      (settingsOf ((settingsRecord 0 15).drop 3)).arrangement.uses .b = false ∧
      (sentTwo.linkA.inFlight ≠ [] ∧ sentTwo.linkA.state = .ready ∧ sentTwo.linkB.inFlight = [] ∧
        sentTwo.linkB.state = .ready) := by decide +kernel

/-- Both changed, to STANDBY: the active engine's link is not READY and the other's is; and the active engine's link,
with no sheet in flight, restarts agreement while the other works on. -/
theorem witness_LinkSettingsActOnTheLinks_standby :
    (∀ s ∈ [{ tandem with linkA := linkIn .offering },
        { sentTwo with dispatcher := { sentTwo.dispatcher with active := .b } }],
      (withPort (.takingData (hand 84 .table (settingsRecord 2 7))) s).quiet ∧
        (settingsOf ((settingsRecord 2 7).drop 3)).arrangement = .standby ∧
        (settingsOf ((settingsRecord 2 7).drop 3)).arrangement ≠ s.settings.arrangement ∧
        (settingsOf ((settingsRecord 2 7).drop 3)).advertised ≠ s.settings.advertised) ∧
      (sentTwo.linkB.inFlight = [] ∧ (linkIn .broken).state = .broken) := by decide +kernel

theorem witness_QueriesTakeASnapshot :
    ∀ x ∈ ([(.queryCondition, [1]), (.queryCheck, [2]), (.queryCounters, [4]), (.queryTable, [5, 10]),
        (.queryEngine, [6, 1]), (.queryRing, [7])] : List (Instr × List Byte)),
      (asking x.2).quiet ∧ endsHand x.1 (hand 81 .query x.2) = true ∧ (hand 81 .query x.2).parityError = none ∧
        selectorFault x.2 = none ∧ (asking x.2).ring.length ≤ 6 := by decide +kernel

/-- The fields of the responses: no folio, a check record with a position and one without, an engine with one sheet
SENDING and one SENT, an occupied slot and a FREE one, and a held key. -/
theorem witness_QueriesTakeASnapshot_fields :
    (r0.queueSound ∧ r0.ring.length = 6 ∧ r0.composer.nextFolio = some 1) ∧
      (∀ c ∈ ([⟨.tableRange, 84, some 255, 255⟩, ⟨.order, 81, none, 0⟩] : List CheckRecord),
        (∀ p ∈ c.position, p ≤ 255) ∧ c.detail ≤ 255) ∧
      ((sentTwo.link .a).inFlight.length = 2 ∧ (sentTwo.link .b).inFlight = [] ∧ (sentTwo.link .a).pace.shortCount ≤ 7) ∧
      (sending.ring[0]? = some (slot (.sending .a) 6) ∧ sending.ring[5]? = some none ∧ (sheetNo 6).folio = some 1 ∧
        (sheetNo 6).reissue ≤ 255) ∧
      (opened []).keys.heldKey = some [33] := by decide +kernel

/-- In LATCHED mode and in CONFIRMED mode. -/
theorem witness_QueryNoticesReadsAndClears :
    (∀ s ∈ [asking [3], { asking [3] with notices := { r0.notices with confirmed := true } }],
      s.quiet ∧ s.lp.port = .takingData (hand 81 .query [3])) ∧ endsHand .queryNotices (hand 81 .query [3]) = true ∧
      (hand 81 .query [3]).parityError = none := by decide +kernel

theorem tablesSound_reset : r0.tablesSound := by
  refine ⟨by decide +kernel, by decide +kernel, by decide +kernel, by decide +kernel, by decide +kernel, ?_⟩
  intro x hx
  cases (show x ∈ ([] : List Entry) from hx)

theorem witness_ReportedTablesReadBack : r0.tablesSound := tablesSound_reset

theorem witness_OutOfOrderExactlyWhenLower : collationValid r0.keys.collation := by decide +kernel

/-- 133 cells of 68 units need 9044 units at step 0 and fit 9000 at step 1; 132 fit at step 0. -/
theorem witness_CondenseStepIsTheSmallestThatFits :
    (defaultPlan false).chooseStep 132 = some 0 ∧ (defaultPlan false).chooseStep 133 = some 1 := by decide +kernel

/-- 5 cells of 160 units fit a column of 600 at step 4. -/
def narrow : SheetPlan := { defaultPlan false with cellWidth := 160, columnWidth := 600, maxStep := 4 }

/-- A glyph, a gap, and glyphs. -/
def gapped (gap glyphs : Nat) : List Cell2 :=
  [(some 1, none)] ++ List.replicate gap (none, none) ++ List.replicate glyphs (none, some 2)

/-- A line too long with no gap of more than 3, with one that takes the whole excess, and with one that takes a part. -/
theorem witness_CondenseStepIsTheSmallestThatFits_overflow :
    narrow.fittingCount = 5 ∧ (∀ n ∈ [6, 7, 8], narrow.chooseStep n = none) ∧
      ((gapped 3 2).length = 6 ∧ fillableRuns (some ⟨1, 160, 7⟩) (gapped 3 2) = [⟨2, 3⟩]) ∧
      ((gapped 5 1).length - narrow.fittingCount = 5 - 3 ∧ fillableRuns (some ⟨1, 160, 7⟩) (gapped 5 1) = [⟨2, 5⟩]) ∧
      5 - 3 < (gapped 5 2).length - narrow.fittingCount ∧ fillableRuns (some ⟨1, 160, 7⟩) (gapped 5 2) = [⟨2, 5⟩] := by
  decide +kernel

/-- V' is 181 and the column depth 12000: the last line that is placed, the first that is clipped. -/
theorem witness_BaseLineIsJudgedAndPlaced :
    (∀ n ∈ [66, 67], (withQueue [.placedLine (lineAt n 1 [some 32])] r0).quiet ∧ (lineAt n 1 [some 32]).layer = 1) ∧
      ringHasFree r0.ring = true ∧ 66 * 181 ≤ r0.composer.plan.columnDepth ∧ r0.composer.plan.columnDepth < 67 * 181 ∧
      ((r0.openSheet.bind 1 66 .lpi6).currentColumn.bind fun c => c.binding) = some ⟨1, 181, 600⟩ ∧
      (opened [.placedLine (lineAt 2 1 [some 32])]).quiet ∧
      (assemblingSheet (opened [.placedLine (lineAt 2 1 [some 32])]).ring).isSome = true := by decide +kernel

/-- The lowest of the FREE slots, and folios below and at the last; an unbound column and a bound one. -/
theorem witness_BaseLineIsJudgedAndPlaced_opening :
    (∀ k ∈ [0, 1], (withRing (List.replicate k (slot .ready 6)) r0).ring[k]? = some none ∧
      ∀ j < k, (withRing (List.replicate k (slot .ready 6)) r0).ring[j]? ≠ some none) ∧
      (r0.openSheet.currentColumn.map fun c => c.binding) = some none ∧
      ((opened []).currentColumn.map fun c => c.binding.isSome) = some true ∧
      ∀ x ∈ [(9998, 9999), (9999, 9999)],
        ({ r0.composer with nextFolio := some x.1 } : Composer).afterOpening.nextFolio = some x.2 := by decide +kernel

/-- Six sheets in the ring and none of them ASSEMBLING. -/
theorem witness_ComposerWaitsForASlot :
    ∀ x ∈ ([.placedLine (lineAt 1 1 [some 32]), .placedLine (lineAt 1 2 [some 32]), .formEnd ⟨1, 66, .lpi6⟩] : List Entry),
      (withQueue [x] (withRing (List.replicate 6 (slot .ready 6)) r0)).quiet ∧
        assemblingSheet (withRing (List.replicate 6 (slot .ready 6)) r0).ring = none ∧
        ringHasFree (withRing (List.replicate 6 (slot .ready 6)) r0).ring = false := by decide +kernel

/-- A layer-2 and a layer-3 overstrike of line 1, which stands last in its column. -/
theorem witness_OverstrikeMergesIntoItsLine :
    ∀ n ∈ [2, 3], (opened [.placedLine (lineAt 1 n [some 62])]).quiet ∧ (lineAt 1 n [some 62]).layer ≠ 1 ∧
      ((opened [.placedLine (lineAt 1 n [some 62])]).lastLine.map fun x => (x.1.form, x.2.number)) = some (1, 1) := by
  decide +kernel

theorem witness_OverstrikeStandsAlone :
    (∀ n ∈ [66, 67], (withQueue [.placedLine (lineAt n 2 [some 32])] r0).quiet ∧
        (withQueue [.placedLine (lineAt n 2 [some 32])] r0).merges (lineAt n 2 [some 32]) = false) ∧
      ringHasFree r0.ring = true ∧ (opened [.placedLine (lineAt 2 2 [some 32])]).quiet ∧
      (opened [.placedLine (lineAt 2 2 [some 32])]).merges (lineAt 2 2 [some 32]) = false ∧
      (assemblingSheet (opened [.placedLine (lineAt 2 2 [some 32])]).ring).isSome = true := by decide +kernel

/-- The only column of the plan of reset, and the first of the three columns of a gang plan. -/
theorem witness_FormEndClosesTheColumn :
    ∀ s ∈ [opened [.formEnd ⟨1, 66, .lpi6⟩], withQueue [.formEnd ⟨1, 66, .lpi6⟩] (State.atReset ⟨0, 0, true⟩)],
      s.quiet ∧ ((assemblingSheet s.ring).isSome = true ∨ ringHasFree s.ring = true) ∧
        (∀ s0 ∈ [if (assemblingSheet s.ring).isSome then s else s.openSheet],
          (assemblingSheet (s0.bind 1 66 .lpi6).ring).isSome = true ∧ (s0.bind 1 66 .lpi6).currentColumn.isSome = true ∧
            (assemblingSheet ((s0.bind 1 66 .lpi6).modColumn fun x => { x with closed := true }).ring).isSome = true) := by
  decide +kernel

/-- A slot that is not ASSEMBLING, and a sheet with a keyed line. -/
theorem witness_FormEndClosesTheColumn_commit :
    (SlotPhase.ready ≠ .assembling) ∧
      ((assemblingSheet (opened []).ring).map fun sh =>
        (sh.columns.flatMap fun c => c.lines).filterMap fun l => l.displayKey) = some [[some 32]] := by decide +kernel

/-- With a sheet assembling and with none. -/
theorem witness_MarkersAndPlansFlush :
    (∀ x ∈ [Entry.sync, .streamTable (.sheetPlan (defaultPlan true)) false],
      (opened [x]).quiet ∧ (assemblingSheet (opened [x]).ring).isSome = true ∧ (withQueue [x] r0).quiet ∧
        assemblingSheet r0.ring = none) ∧
      (withPort (.syncWithheld .markerQueued false) (withQueue [.sync] r0)).quiet ∧ .sync ∉ ([] : List Entry) := by
  decide +kernel

theorem witness_KeyTablesAreApplied :
    ∀ t ∈ [StreamTable.collation r0.keys.collation, .fieldLayout ⟨3, 4, none⟩, .keyReset],
      (opened [.streamTable t true]).quiet := by decide +kernel

/-! ### Witnesses for the dispatcher and the engines -/

theorem witness_GrantsAndTransfers :
    (withRing [slot .ready 6] tandem).linkA.windowDue = false ∧ (withRing [slot .ready 6] tandem).linkB.windowDue = false ∧
      (withRing [slot .ready 6] tandem).chosenEngine = some .a ∧
      (withRing [slot .ready 6] tandem).oldestReady = some (sheetNo 6) ∧ r0.grantDue = false ∧ sending.quiet ∧
      sending.linkA.writing ≠ [] ∧ sending.linkB.writing = [] := by decide +kernel

/-- TANDEM with these degraded flags. -/
def degradedAt (a b : Bool) : State :=
  { tandem with
    linkA := { linkWith [] with pace := { tandem.linkA.pace with degraded := a } }
    linkB := { linkWith [] with pace := { tandem.linkB.pace with degraded := b } } }

theorem witness_DispatcherChoosesTheEngine :
    (∀ s ∈ [degradedAt false false, degradedAt false true, degradedAt true false, degradedAt true true],
      s.eligible .a = true ∧ s.eligible .b = true) ∧
      ((readyA r0).eligible .a = true ∧ (readyA r0).eligible .b = false) ∧
      (sending.eligible .a = false ∧ sending.eligible .b = true) ∧
      (r0.eligible .a = false ∧ r0.eligible .b = false) ∧ r0.settings.arrangement ≠ .tandem := by decide +kernel

/-- With a header and without one; with a folio; reissued or not. -/
theorem witness_SheetFramesFollowTheMode :
    (sheetNo 6).plan.headerDepth ≠ 0 ∧ (sheetNo 6).folio = some 1 ∧ (sheetNo 6).guides = none ∧ (sheetNo 6).reissue = 0 ∧
      { (sheetNo 6).plan with headerDepth := 0 }.headerDepth = 0 ∧
      { sheetNo 6 with reissue := 255, guides := some ⟨[some 1], []⟩ }.guides.isSome = true := by decide +kernel

/-- A sheet SENDING, a sheet SENT, a number in flight nowhere, and a link that is OFF. -/
theorem witness_TakenAndStrays :
    (sending.quiet ∧ sending.holdsSeq .a 6 = true ∧ sending.isSending .a 6 = true) ∧
      (sentTwo.quiet ∧ sentTwo.holdsSeq .a 5 = true ∧ sentTwo.isSending .a 5 = false) ∧
      (sentTwo.holdsSeq .a 4 = false ∧ sentTwo.notices.callSound ∧ sentTwo.failoverSettled) ∧
      (r0.quiet ∧ (r0.link .b).state = .off ∧ r0.notices.callSound ∧ r0.failoverSettled) := by decide +kernel

theorem flightSound_sentTwo : sentTwo.flightSound := by
  intro e
  cases e
  · exact ⟨by decide, fun q => Iff.rfl⟩
  · exact ⟨by decide, fun q => Iff.rfl⟩

/-- The same under SINGLE B, which does not use link A. -/
def unused : State := { sentTwo with settings := { sentTwo.settings with arrangement := .singleB } }

/-- The same with link A draining. -/
def drainingA : State := { sentTwo with linkA := { sentTwo.linkA with draining := true } }

/-- The same with an older sheet READY, and engine B not READY. -/
def olderReady : State :=
  { sentTwo with ring := [slot .ready 4, slot (.sent .a) 5, slot (.sent .a) 6, none, none, none], linkB := linkIn .offering }

/-- Sheet 5 was TAKEN while it was being written, and sheet 6 was granted behind it. -/
def behind : State :=
  { withRing [slot (.sent .a) 5, slot (.sending .a) 6] tandem with
    linkA := { linkWith [⟨5, none, some 20000⟩, ⟨6, none, none⟩] with
      writing := [transferOf .fine (sheetNo 5), transferOf .fine (sheetNo 6)] } }

/-- R143, R167, R171: STACKED of sheet 5 ends its transfer, and the SHEET BEGIN of sheet 6 is sent. -/
theorem test_stacked_begins_next :
    (fun s => (s.linkA.lastSent, s.linkA.writing.map fun w => w.seq, phases s)) (after (.stacked .a 5) behind) =
      ([sheetBeginFrame .fine (sheetNo 6)], [6], [none, some (.sending .a), none, none, none, none]) := by decide +kernel

/-- R134, R135: sheets 5 and 6 are released while the older sheet 4 is READY, and stand FINISHED. -/
theorem test_stacked_finished :
    phases (after (.stacked .a 6) olderReady) =
      [some .ready, some (.finished .a), some (.finished .a), none, none, none] := by decide +kernel

theorem flightSound_unused : unused.flightSound := flightSound_sentTwo

theorem flightSound_drainingA : drainingA.flightSound := by
  intro e
  cases e
  · exact ⟨by decide, fun q => Iff.rfl⟩
  · exact ⟨by decide, fun q => Iff.rfl⟩

theorem flightSound_olderReady : olderReady.flightSound := by
  intro e
  cases e
  · exact ⟨by decide, fun q => Iff.rfl⟩
  · exact ⟨by decide, fun q => Iff.rfl⟩

theorem flightSound_behind : behind.flightSound := by
  intro e
  cases e
  · exact ⟨by decide, fun q => Iff.rfl⟩
  · exact ⟨by decide, fun q => Iff.rfl⟩

/-- The first of two sheets in flight, and the second, which covers both: on a link in use, on one the arrangement does
not use, on one that drains, below an older sheet, and with the second sheet's transfer behind the first's. -/
theorem witness_StackedReleasesInOrder :
    (∀ s ∈ [sentTwo, unused, drainingA, olderReady, behind], s.quiet ∧ (s.link .a).state = .ready ∧
      s.holdsSeq .a 5 = true ∧ s.holdsSeq .a 6 = true ∧ s.ringSound ∧ s.runSound) ∧
      (sentTwo.flightSound ∧ unused.flightSound ∧ drainingA.flightSound ∧ olderReady.flightSound ∧ behind.flightSound) ∧
      (sentTwo.uses .a = true ∧ unused.uses .a = false ∧ (drainingA.link .a).draining = true) ∧
      coveredBy (sentTwo.link .a).inFlight 5 = [5] ∧ coveredBy (sentTwo.link .a).inFlight 6 = [5, 6] :=
  ⟨by decide +kernel,
    ⟨flightSound_sentTwo, flightSound_unused, flightSound_drainingA, flightSound_olderReady, flightSound_behind⟩,
    by decide +kernel, by decide, by decide⟩

/-- Six sheets, with two of them SENT on A and the rest READY, engine B not READY, and a composer that waits. -/
def fullWith (p : List SlotPhase) (fs : List InFlight) : State :=
  { tandem with
    ring := (p.zip [(1 : Word16), 2, 3, 4, 5, 6]).map fun x => slot x.1 x.2
    composer := { tandem.composer with nextSeq := 7, waiting := true }
    linkA := linkWith fs
    linkB := linkIn .offering }

/-- The oldest sheets are in flight. -/
def fullOldest : State :=
  fullWith [.sent .a, .sent .a, .ready, .ready, .ready, .ready] [⟨1, none, some 20000⟩, ⟨2, none, some 20000⟩]

/-- An older sheet is READY. -/
def fullBehind : State :=
  fullWith [.ready, .sent .a, .sent .a, .ready, .ready, .ready] [⟨2, none, some 20000⟩, ⟨3, none, some 20000⟩]

/-- R63, R112, R135: a slot frees, and the composer that waits opens sheet 7 in it. -/
theorem test_stacked_ends_wait :
    (fun s => (phases s, s.composer.waiting, s.composer.nextSeq, inSet s.conditions .ringFull))
      (after (.stacked .a 1) fullOldest) =
      ([some .assembling, some (.sent .a), some .ready, some .ready, some .ready, some .ready], false, 8, false) := by
  decide +kernel

/-- R112: a JAM that covers the sheet does the same. -/
theorem test_jam_ends_wait :
    (fun s => (phases s, s.composer.waiting)) (after (.jam .a (some 1)) fullOldest) =
      ([some .assembling, some .ready, some .ready, some .ready, some .ready, some .ready], false) := by decide +kernel

theorem flightSound_fullOldest : fullOldest.flightSound := by
  intro e
  cases e
  · exact ⟨by decide, fun q => Iff.rfl⟩
  · exact ⟨by decide, fun q => Iff.rfl⟩

theorem flightSound_fullBehind : fullBehind.flightSound := by
  intro e
  cases e
  · exact ⟨by decide, fun q => Iff.rfl⟩
  · exact ⟨by decide, fun q => Iff.rfl⟩

/-- A release that frees a slot for a composer that waits, and one that frees none. -/
theorem witness_StackedReleasesInOrder_waiting :
    (∀ s ∈ [fullOldest, fullBehind], s.quiet ∧ (s.link .a).state = .ready ∧ s.holdsSeq .a 2 = true ∧ s.ringSound ∧
      s.runSound ∧ s.composer.waiting = true ∧ none ∉ s.ring) ∧
      (fullOldest.flightSound ∧ fullBehind.flightSound) ∧
      (some ⟨.sent .a, sheetNo 1⟩ ∈ fullOldest.ring ∧
        fullOldest.ring.all (fun o => o.all fun y => decide (fullOldest.age y.sheet.seq ≤ fullOldest.age 1)) = true) ∧
      (some ⟨.ready, sheetNo 1⟩ ∈ fullBehind.ring ∧ fullBehind.age 2 < fullBehind.age 1 ∧
        coveredBy (fullBehind.link .a).inFlight 2 = [2]) :=
  ⟨by decide +kernel, ⟨flightSound_fullOldest, flightSound_fullBehind⟩, by decide +kernel, by decide +kernel⟩

theorem witness_StopsAndTimeoutsReturnEverySheet :
    (∀ s ∈ [sentTwo, unused, drainingA, sending], s.quiet ∧ s.notices.callSound ∧ (s.link .a).state = .ready) ∧
      StopCause.paperOut.inStopFrame = true ∧ sending.takenTimerRuns .a = true ∧ sentTwo.stackedTimerRuns .a 5 = true ∧
      sentTwo.takenTimerRuns .a = false ∧ sentTwo.stackedTimerRuns .a 7 = false ∧ sentTwo.uses .a = true ∧
      unused.uses .a = false ∧ (drainingA.link .a).draining = true ∧
      ∀ x ∈ [LinkState.settling, .stopped, .offering, .agreeing, .broken, .off],
        (aIn x).quiet ∧ ((aIn x).link .a).state = x ∧ (aIn x).notices.callSound ∧ (aIn x).failoverSettled := by
  decide +kernel

/-- A number in flight, a number that names no sheet in flight, and none. -/
theorem witness_JamReleasesThenReturns :
    (∀ s ∈ [sentTwo, unused, drainingA], s.quiet ∧ (s.link .a).state = .ready ∧ s.holdsSeq .a 5 = true ∧
      s.holdsSeq .a 4 = false) ∧
      ∀ x ∈ [LinkState.settling, .stopped, .offering, .agreeing, .broken, .off],
        (aIn x).quiet ∧ ((aIn x).link .a).state = x ∧ (aIn x).notices.callSound ∧ (aIn x).failoverSettled := by
  decide +kernel

theorem witness_ReadyAndIdleFrames :
    ∀ x ∈ [LinkState.off, .offering, .agreeing, .settling, .ready, .stopped, .broken],
      (aIn x).quiet ∧ ((aIn x).link .a).state = x ∧ (aIn x).notices.callSound ∧ (aIn x).failoverSettled := by
  decide +kernel

/-- Link A OFFERING with two OFFERs of set 6 counted, and AGREEING or SETTLING on set 6. -/
def agreedOn (x : LinkState) : State :=
  { r0 with linkA := { linkIn x with agreedSet := some 6, keptSet := some 6, offerCount := 2 } }

theorem witness_OfferFrames :
    (∀ x ∈ [LinkState.off, .offering, .agreeing, .settling, .ready, .stopped, .broken],
      (agreedOn x).quiet ∧ (agreedOn x).failoverSettled ∧ ((agreedOn x).link .a).state = x ∧
        (agreedOn x).uses .a = true) ∧
      resolveMode r0.settings.advertised 6 = some .standard ∧ resolveMode r0.settings.advertised 0 = none ∧
      (unused.quiet ∧ unused.failoverSettled ∧ unused.uses .a = false) := by decide +kernel

/-- The same with a settle delay. -/
def delayed (s : State) : State := { s with settings := { s.settings with settleMs := 700 } }

/-- R156: an agreement acknowledged, and a plain engine detected, with a settle delay and with none. -/
theorem witness_LinkTimersExpire_settling :
    ((delayed (agreedOn .agreeing)).quiet ∧ (delayed (agreedOn .agreeing)).failoverSettled ∧
        (delayed r0).quiet ∧ (delayed r0).settings.settleMs ≠ 0 ∧ r0.settings.settleMs = 0) ∧
      (after (.offer .a 6 true) (delayed (agreedOn .agreeing))).linkA.timers =
        ⟨none, none, none, some 700, some 500, none⟩ ∧
      (after (.offer .a 6 true) (agreedOn .agreeing)).linkA.timers = ⟨none, none, none, none, some 500, none⟩ := by
  decide +kernel

theorem witness_LinkTimersExpire :
    (∀ x ∈ [LinkState.off, .offering, .agreeing, .settling, .ready, .stopped, .broken],
      (aIn x).quiet ∧ ((aIn x).link .a).state = x ∧ (aIn x).notices.callSound ∧ (aIn x).failoverSettled) ∧
      (sentTwo.link .a).timers.silence.isSome = true ∧ ((aIn .off).link .a).timers.silence = none ∧
      ((unused.link .a).timers.silence.isSome = true ∧ unused.quiet ∧ sentTwo.quiet) ∧
      (r0.link .a).offersSeen = false ∧ (r0.link .a).idleSeen = false ∧ r0.settings.advertised.getLsbD 3 = true := by
  decide +kernel

/-- TANDEM with two sheets SENT on A, and link A's Pace Monitor as given. -/
def pacing (p : PaceMonitor) : State := { sentTwo with linkA := { sentTwo.linkA with pace := p } }

theorem witness_TicksWindowsAndCallTimers_tick : runs .tick sentTwo = true := by decide +kernel

/-- T before its last count, and each overflow. -/
theorem witness_TicksWindowsAndCallTimers :
    ((pacing ⟨62536, 252, 0, false, false, false⟩).quiet ∧ (pacing ⟨65535, 252, 0, false, false, false⟩).quiet) ∧
      (sentTwo.linkA.state = .ready ∧ sentTwo.linkA.inFlight ≠ [] ∧ sentTwo.linkB.inFlight = []) ∧
      ((pacing ⟨0, 252, 2, false, true, false⟩).link .a).pace.tOver = true ∧
      ((pacing ⟨0, 0, 2, false, false, true⟩).link .a).pace.sOver = true ∧
      (sentTwo.link .b).pace.tOver = false ∧ (sentTwo.link .b).pace.sOver = false ∧ sentTwo.notices.callSound := by
  decide +kernel

/-- Each class live alone, and none; a command that makes TABLE REFUSED live, and one that makes ENGINE RESTORED live. -/
theorem witness_TicksWindowsAndCallTimers_call :
    (∀ x ∈ [(Source10.engineStoppedA, 1), (.ringFull, 2), (.tableRefused, 3), (.failover, 4)],
      (r0.post x.1).notices.shownClass = x.2) ∧ r0.notices.shownClass = 0 ∧
      ((loading [13, 0, 0]).quiet ∧ (loading [13, 0, 0]).notices.callSound ∧
        (loading [13, 0, 0]).notices.shownClass = 0 ∧
        (after .tableKindUnknown (loading [13, 0, 0])).notices.shownClass = 3) ∧
      (aIn .stopped).quiet ∧ (aIn .stopped).notices.callSound ∧
      inSet (aIn .stopped).notices.live .engineRestored = false ∧
      inSet (after (.ready .a) (aIn .stopped)).notices.live .engineRestored = true := by decide +kernel

/-- STANDBY with both links READY and with the active one OFFERING and the other STOPPED. -/
def standby (a b : Link) : State := { State.atReset ⟨0, 2, false⟩ with linkA := a, linkB := b }

theorem witness_StandbyFailsOver :
    ((standby (linkWith []) (linkWith [])).quiet ∧ (standby (linkWith []) (linkWith [])).settings.arrangement = .standby ∧
      (standby (linkWith []) (linkWith [])).dispatcher.active = .a ∧
      exec (.stop .a .paperOut) (standby (linkWith []) (linkWith [])) =
        .next (after (.stop .a .paperOut) (standby (linkWith []) (linkWith [])))) ∧
      ((standby (linkIn .offering) (linkIn .stopped)).quiet ∧ (standby (linkIn .offering) (linkIn .stopped)).failoverSettled ∧
        (standby (linkIn .offering) (linkIn .stopped)).dispatcher.active = otherEngine .b ∧
        ((standby (linkIn .offering) (linkIn .stopped)).link .b).state = .stopped ∧
        exec (.ready .b) (standby (linkIn .offering) (linkIn .stopped)) =
          .next (after (.ready .b) (standby (linkIn .offering) (linkIn .stopped)))) := by
  refine ⟨⟨by decide +kernel, by decide +kernel, by decide +kernel, next_of_runs (by decide +kernel)⟩,
    by decide +kernel, by decide +kernel, by decide +kernel, by decide +kernel, next_of_runs (by decide +kernel)⟩

/-- A failover at the loss of the active engine and one at its JAM. -/
theorem witness_StandbyFailsOver_posted :
    ∀ c ∈ [Instr.silenceTimer .a, .jam .a none], runs c (standby (linkWith []) (linkWith [])) = true ∧
      (after c (standby (linkWith []) (linkWith []))).dispatcher.active ≠
        (standby (linkWith []) (linkWith [])).dispatcher.active := by decide +kernel

/-! ### Witnesses for the laws of the device -/

/-- A MOVE refused while TABLE REFUSED pends presents a reply with the flag set. -/
theorem witness_NoticeFlagTellsOfLiveSources :
    ((moving []).post .tableRefused).quiet ∧ exec .move ((moving []).post .tableRefused) =
        .next (after .move ((moving []).post .tableRefused)) ∧
      (after .move ((moving []).post .tableRefused)).lp.port = .replying ⟨.check, false, true, false⟩ ∧
      ((moving []).post .tableRefused).lp.port ≠ .replying ⟨.check, false, true, false⟩ := by
  refine ⟨by decide +kernel, next_of_runs (by decide +kernel), by decide +kernel, by decide +kernel⟩

/-- SYNC_DONE and ENGINE_STOPPED present their replies in states in which they are due. -/
theorem witness_NoticeFlagTellsOfLiveSources_sync :
    (takesDueFirst .syncDone = false ∧ takesDueFirst .engineStopped = false) ∧
      (∀ x ∈ [(Instr.syncDone, r0), (.engineStopped, withRing [slot .ready 6] r0)],
        runs x.1 (withPort (.syncWithheld .ringWatch false) (x.2.post .failover)) = true ∧
          replyByte (withPort (.syncWithheld .ringWatch false) (x.2.post .failover)) = none ∧
          ((replyByte (after x.1 (withPort (.syncWithheld .ringWatch false) (x.2.post .failover)))).map
            fun b => b.getLsbD 3) = some true) ∧
      replyByte (withPort (.syncWithheld .ringWatch false) r0).takeDue = some 0 := by decide +kernel

theorem witness_CountersNeverDecrease : ∃ t, exec .move (moving []) = .next t :=
  exists_next_of_runs (by decide +kernel)

theorem witness_QueueAndFormStayInRange :
    (commanded .print (filled 14 (printing [0x83, 65]))).queueSound ∧
      ∃ t, step (commanded .print (filled 14 (printing [0x83, 65]))) = .next t := ⟨by decide +kernel,
    exists_step_of_runs (by decide +kernel)⟩

theorem witness_AtMostOneSheetAssembles :
    (commanded .formEnd (opened [.formEnd ⟨1, 66, .lpi6⟩])).ringSound ∧
      ∃ t, step (commanded .formEnd (opened [.formEnd ⟨1, 66, .lpi6⟩])) = .next t := ⟨by decide +kernel,
    exists_step_of_runs (by decide +kernel)⟩

theorem witness_SheetNumbersFormOneRun :
    (commanded (.stacked .a 5) sentTwo).ringSound ∧ (commanded (.stacked .a 5) sentTwo).runSound ∧
      ∃ t, step (commanded (.stacked .a 5) sentTwo) = .next t := ⟨by decide +kernel, by decide +kernel,
    exists_step_of_runs (by decide +kernel)⟩

/-- A command that opens a sheet, and one that opens none. -/
theorem witness_SheetNumbersFormOneRun_folio :
    ((withQueue [.placedLine (lineAt 1 1 [some 32])] r0).ringSound ∧
      (withQueue [.placedLine (lineAt 1 1 [some 32])] r0).runSound ∧
      (opened []).composer.nextSeq = r0.composer.nextSeq + 1) ∧ runs .tick r0 = true := by decide +kernel

/-- R141 of lists written out. -/
theorem flightOrdered_of {s : State}
    (h : ∀ e : Engine, ∃ l : List Word16, ((s.link e).inFlight.map fun i => i.seq) = l ∧ l.Nodup ∧
      (sendingSlots e s.ring = [] ∨ ∃ q, sendingSlots e s.ring = [q] ∧ l.getLast? = some q)) : s.flightOrdered := by
  intro e
  obtain ⟨l, rfl, hn, h0 | ⟨q, h1, hq⟩⟩ := h e
  · simp [h0, hn]
  · simp [h1, hn, hq]

theorem flightOrdered_sentTwo : sentTwo.flightOrdered :=
  flightOrdered_of fun e => match e with
    | .a => ⟨[5, 6], rfl, by decide, .inl rfl⟩
    | .b => ⟨[], rfl, by decide, .inl rfl⟩

theorem flightOrdered_behind : behind.flightOrdered :=
  flightOrdered_of fun e => match e with
    | .a => ⟨[5, 6], rfl, by decide, .inr ⟨6, rfl, rfl⟩⟩
    | .b => ⟨[], rfl, by decide, .inl rfl⟩

/-- Two sheets SENT, and one SENDING behind one SENT. -/
theorem witness_InFlightListsMatchTheRing_ordered :
    (commanded (.stacked .a 5) sentTwo).flightOrdered ∧ (commanded (.taken .a 6) behind).flightOrdered ∧
      (commanded (.taken .a 6) behind).flightSound ∧ (commanded (.taken .a 6) behind).ringSound ∧
      (commanded (.taken .a 6) behind).runSound ∧ ∃ t, step (commanded (.taken .a 6) behind) = .next t :=
  ⟨flightOrdered_sentTwo, flightOrdered_behind, flightSound_behind, by decide +kernel, by decide +kernel,
    exists_step_of_runs (by decide +kernel)⟩

theorem witness_InFlightListsMatchTheRing :
    (commanded (.stacked .a 5) sentTwo).ringSound ∧ (commanded (.stacked .a 5) sentTwo).runSound ∧
      (commanded (.stacked .a 5) sentTwo).flightSound ∧ ∃ t, step (commanded (.stacked .a 5) sentTwo) = .next t :=
  ⟨by decide +kernel, by decide +kernel, flightSound_sentTwo,
    exists_step_of_runs (by decide +kernel)⟩

/-- No sheet is committed yet. -/
theorem guidesSound_of_assembling {s : State}
    (h : (s.ring.all fun o => o.all fun x => x.phase == .assembling) = true) : s.guidesSound := by
  intro o ho x hx hp
  have h1 := List.all_eq_true.mp h o ho
  rw [Option.mem_def.mp hx] at h1
  exact absurd (by simpa using h1) hp

/-- One keyed line is laid out, and a second merges into it. -/
theorem witness_SheetsKeepTheLayoutLaws :
    (commanded .overstrikeMerge (opened [.placedLine (lineAt 1 2 [some 62])])).ringSound ∧
      (commanded .overstrikeMerge (opened [.placedLine (lineAt 1 2 [some 62])])).linesSound ∧
      (commanded .overstrikeMerge (opened [.placedLine (lineAt 1 2 [some 62])])).guidesSound ∧
      ∃ t, step (commanded .overstrikeMerge (opened [.placedLine (lineAt 1 2 [some 62])])) = .next t :=
  ⟨by decide +kernel, by decide +kernel, guidesSound_of_assembling (by decide +kernel),
    exists_step_of_runs (by decide +kernel)⟩

/-- RING FULL pends while the composer waits. -/
theorem witness_LatchedConditionsAreTrue :
    (commanded .lineReset (after .formEnd (withQueue [.formEnd ⟨1, 66, .lpi6⟩]
      (withRing (List.replicate 6 (slot .ready 6)) r0)))).latchedSound ∧
      ∃ t, step (commanded .lineReset (after .formEnd (withQueue [.formEnd ⟨1, 66, .lpi6⟩]
        (withRing (List.replicate 6 (slot .ready 6)) r0)))) = .next t := ⟨by decide +kernel,
    exists_step_of_runs (by decide +kernel)⟩

/-- ENGINE STOPPED A pending, in the clearing mode given, with link A STOPPED. -/
def stoppedA (confirmed : Bool) : State :=
  { aIn .stopped with notices := ({ r0.notices with confirmed } : NoticeUnit).setPending Source10.engineStoppedA.bit }

/-- A rise with the source not enabled; a fall in LATCHED mode and in CONFIRMED mode. -/
theorem witness_LatchedConditionsAreTrue_edges :
    (inSet (readyA r0).conditions .engineStoppedA = false ∧
      inSet (after (.stop .a .paperOut) { readyA r0 with notices := { r0.notices with mask := 0 } }).conditions
        .engineStoppedA = true ∧
      pend .engineStoppedA (after (.stop .a .paperOut) { readyA r0 with notices := { r0.notices with mask := 0 } }) =
        true) ∧
      (∀ b ∈ [false, true], inSet (stoppedA b).conditions .engineStoppedA = true ∧ pend .engineStoppedA (stoppedA b) = true ∧
        inSet (after (.ready .a) (stoppedA b)).conditions .engineStoppedA = false ∧
        pend .engineStoppedA (after (.ready .a) (stoppedA b)) = b) := by decide +kernel

theorem witness_TablesStayWithinTheirRanges :
    (commanded .tableSheetPlan (loading planRecord)).tablesSound ∧
      ∃ t, step (commanded .tableSheetPlan (loading planRecord)) = .next t := ⟨tablesSound_reset,
    exists_step_of_runs (by decide +kernel)⟩

end Sys2Proof.Tests
end

section
/-! PROOFS. The shapes of the arms of exec: what a command runs after the due steps, and what an END row does with the order
in hand. -/

namespace Sys2Proof.Machine

/-! ### The shapes of the arms of exec -/

/-- A command that takes the due steps first has one effect, run after them, with the notices settled or not. -/
theorem exec_of_takesDueFirst (c : Instr) (hc : takesDueFirst c = true) :
    ∃ f : State → State, (∀ s, exec c s = s.run f) ∨ ∀ s, exec c s = s.runNoticed f := by
  cases c with
  | stop e cause => exact ⟨fun q => (q.stopFrame e cause).failover, .inr fun s => if_pos hc⟩
  | _ =>
    first
    | (cases hc; done)
    | (dsimp only [exec]; exact ⟨_, .inl fun _ => rfl⟩)
    | (dsimp only [exec]; exact ⟨_, .inr fun _ => rfl⟩)

/-- An END row judges the order in hand, when the order is this row's, and then does the row's own work. -/
theorem exec_of_isEndRow (c : Instr) (hc : isEndRow c = true) :
    ∃ work : Hand → State → State, ∀ s,
      exec c s = s.run fun q => q.atEnd (endsHand c) fun h t => t.judge h (work h) := by
  cases c <;> first | (cases hc; done) | (dsimp only [exec]; exact ⟨_, fun _ => rfl⟩)

theorem isEndRow_of_endsHand (c : Instr) (h : Hand) (hm : endsHand c h = true) : isEndRow c = true := by
  cases c <;> first | rfl | cases hm

/-- END of a TABLE order judges the record by the range tests of its kind. -/
theorem exec_of_endsHand_table (c : Instr) (h : Hand) (hm : endsHand c h = true) (hk : h.kind = some .table) :
    ∃ carry : Hand → List Byte → State → State, ∀ s,
      exec c s = s.run fun q => q.atEnd (endsHand c) fun h t => t.judge h fun u =>
        u.endTable h (rangeFault c) (carry h) := by
  cases c <;> first
    | cases hm
    | (simp [endsHand, hk, Hand.isQuery] at hm; done)
    | (dsimp only [exec]; exact ⟨_, fun _ => rfl⟩)

/-- END of a QUERY order looks at the selector. -/
theorem exec_of_endsHand_query (c : Instr) (h : Hand) (hm : endsHand c h = true) (hk : h.kind = some .query) :
    ∃ answer : Hand → State → State, ∀ s,
      exec c s = s.run fun q => q.atEnd (endsHand c) fun h t => t.judge h fun u => u.endQuery h (answer h) := by
  cases c <;> first
    | cases hm
    | (simp [endsHand, hk, Hand.isTable, Hand.unknownTable] at hm; done)
    | (dsimp only [exec]; exact ⟨_, fun _ => rfl⟩)

theorem exec_orderByte (select : Bool) (unit : BitVec 4) (d : Byte) (p : Bool) (s : State) :
    exec (.orderByte select unit d p) s = s.run fun q => q.orderByteStrobed select unit d p := rfl

theorem exec_dataByte (d : Byte) (p : Bool) (s : State) :
    exec (.dataByte d p) s = s.run fun q => q.dataByteStrobed d p := rfl

theorem exec_replyTaken (s : State) : exec .replyTaken s = s.run State.replyTakenSignal := rfl

/-! ### END in a quiet state -/

/-- END of an order of another row, or in another port state, changes nothing. -/
theorem State.run_atEnd_of_not_mine (s : State) (mine : Hand → Bool) (act : Hand → State → State) (hq : s.quiet)
    (hm : ∀ h, s.lp.port = .takingData h → mine h = false) : (s.run fun q => q.atEnd mine act) = .next s := by
  rw [s.run_of_quiet _ hq, s.atEnd_of_not_mine mine act hm]

/-- END of the order in hand does what its row does with it. -/
theorem State.run_atEnd_of_mine (s : State) (mine : Hand → Bool) (act : Hand → State → State) (h : Hand) (hq : s.quiet)
    (hp : s.lp.port = .takingData h) (hm : mine h = true) : (s.run fun q => q.atEnd mine act) = .next (act h s) := by
  rw [s.run_of_quiet _ hq, s.atEnd_of_mine mine act h hp hm]

/-- END of the order in hand, of good parity and of one of the five kinds, does the order's own work. -/
theorem State.run_atEnd_judge (s : State) (mine : Hand → Bool) (own : Hand → State → State) (h : Hand) (k : OrderKind)
    (hq : s.quiet) (hp : s.lp.port = .takingData h) (hm : mine h = true) (he : h.parityError = none)
    (hk : h.kind = some k) :
    (s.run fun q => q.atEnd mine fun h t => t.judge h (own h)) = .next (own h s) := by
  rw [s.run_atEnd_of_mine mine _ h hq hp hm, s.judge_of_good h (own h) k he hk]

/-- A refusal of the order in hand answers a state that was refused so. -/
theorem State.exists_refusedAs {c : Instr} {s : State} {h : Hand} {kind : CheckKind} {position : Option Nat} {detail : Nat}
    (hx : exec c s = .next (s.refuse h kind position detail)) :
    ∃ t, exec c s = .next t ∧ s.RefusedAs t h kind position detail :=
  ⟨_, hx, s.refuse_refusedAs h kind position detail⟩

end Sys2Proof.Machine
end

section
/-! PROOFS. The signals the Line Port ignores, the orders it refuses and the motions it carries out. -/

namespace Sys2Proof.Machine

/-- What a signal that the port ignores leaves: the whole state. -/
theorem State.dataByteStrobed_of_not_takingData (s : State) (d : Byte) (p : Bool)
    (hp : ∀ h, s.lp.port ≠ .takingData h) : s.dataByteStrobed d p = s := by
  unfold State.dataByteStrobed
  split
  case h_1 h heq => exact absurd heq (hp h)
  all_goals rfl

theorem State.orderByteStrobed_of_ignored (s : State) (select : Bool) (unit : BitVec 4) (d : Byte) (p : Bool)
    (hi : select = false ∨ unit ≠ s.lp.unit ∨ s.lp.port ≠ .idle) : s.orderByteStrobed select unit d p = s := by
  unfold State.orderByteStrobed
  split
  · next hc =>
    obtain ⟨hs, hu⟩ : select = true ∧ unit = s.lp.unit := by simpa using hc
    have hn : s.lp.port ≠ .idle := by simpa [hs, hu] using hi
    split
    case h_1 heq => exact absurd heq hn
    all_goals rfl
  · rfl

theorem State.replyTakenSignal_of_ignored (s : State) (hr : ∀ rest clamped, s.lp.port ≠ .responding rest clamped)
    (hp : ∀ r, s.lp.port ≠ .replying r) : s.replyTakenSignal = s := by
  unfold State.replyTakenSignal
  split
  case h_1 heq => exact absurd heq (hr _ _)
  case h_2 heq => exact absurd heq (hr _ _)
  case h_3 heq => exact absurd heq (hr _ _)
  case h_4 heq => exact absurd heq (hp _)
  all_goals rfl

/-- Settles O10: each ignored signal leaves the state by the lemma of its signal. -/
theorem signalsThePortIgnores : Obligations.SignalsThePortIgnores := by
  unfold Obligations.SignalsThePortIgnores
  intro s hq
  refine ⟨fun select unit d p hi => ?_, fun d p hp => ?_, fun c hc hm => ?_, fun hr hp => ?_⟩
  · rw [exec_orderByte, s.run_of_quiet _ hq, s.orderByteStrobed_of_ignored select unit d p hi]
  · rw [exec_dataByte, s.run_of_quiet _ hq, s.dataByteStrobed_of_not_takingData d p hp]
  · obtain ⟨work, hx⟩ := exec_of_isEndRow c hc
    rw [hx, s.run_atEnd_of_not_mine _ _ hq hm]
  · rw [exec_replyTaken, s.run_of_quiet _ hq, s.replyTakenSignal_of_ignored hr hp]

/-! ### Orders refused -/

theorem motionOrFault_nil (t : FormsTable) : motionOrFault t [] = .error (.motion, none, 0) := rfl

/-- R10: a SKIP to a channel without a stop. -/
theorem motionOrFault_of_no_stop (t : FormsTable) (b : Byte) (rest : List Byte) (m : Motion) (k : Nat)
    (hm : motionOf b = some m) (ha : m.action = .skip k) (hc : t.hasChannel k = false) :
    motionOrFault t (b :: rest) = .error (.noStop, some 1, k) := by
  simp [motionOrFault, hm, ha, hc]

/-- R10: a motion byte that passes both tests. -/
theorem motionOrFault_of_good (t : FormsTable) (b : Byte) (rest : List Byte) (m : Motion) (hm : motionOf b = some m)
    (hc : ∀ k, m.action = .skip k → t.hasChannel k = true) : motionOrFault t (b :: rest) = .ok m := by
  cases ha : m.action with
  | space n => simp [motionOrFault, hm, ha]
  | skip k => simp [motionOrFault, hm, ha, hc k ha]

theorem State.endPrint_of_fault (s : State) (h : Hand) (e : CheckKind × Option Nat × Nat)
    (hm : motionOrFault s.forms.table h.kept = .error e) : s.endPrint h = s.refuse h e.1 e.2.1 e.2.2 := by
  simp [State.endPrint, hm]

theorem State.endPrint_of_refused (s : State) (h : Hand) (m : Motion) (p : Nat) (code : Byte)
    (hm : motionOrFault s.forms.table h.kept = .ok m) (hr : s.map.firstRefused h.kept.tail = some (p, code)) :
    s.endPrint h = s.refuse h .data (some (p + 1)) code.toNat := by
  simp [State.endPrint, hm, hr]

theorem State.endPrint_of_good (s : State) (h : Hand) (m : Motion)
    (hm : motionOrFault s.forms.table h.kept = .ok m) (hr : s.map.firstRefused h.kept.tail = none) :
    s.endPrint h = s.printText h m h.kept.tail := by
  simp [State.endPrint, hm, hr]

theorem State.endMove_of_fault (s : State) (h : Hand) (e : CheckKind × Option Nat × Nat)
    (hm : motionOrFault s.forms.table h.kept = .error e) : s.endMove h = s.refuse h e.1 e.2.1 e.2.2 := by
  simp [State.endMove, hm]

/-- A PRINT of good parity goes on to its own tests. -/
theorem State.exec_print (s : State) (h : Hand) (hq : s.quiet) (hp : s.lp.port = .takingData h)
    (hk : h.kind = some .print) (he : h.parityError = none) : exec .print s = .next (s.endPrint h) :=
  s.run_atEnd_judge _ (fun h u => u.endPrint h) h .print hq hp (by simp [hk]) he hk

/-- A MOVE of good parity goes on to its own tests. -/
theorem State.exec_move (s : State) (h : Hand) (hq : s.quiet) (hp : s.lp.port = .takingData h)
    (hk : h.kind = some .move) (he : h.parityError = none) : exec .move s = .next (s.endMove h) :=
  s.run_atEnd_judge _ (fun h u => u.endMove h) h .move hq hp (by simp [hk]) he hk

/-- R10: the motion tests refuse a PRINT and a MOVE alike. -/
theorem State.exec_of_motion_fault (s : State) (c : Instr) (h : Hand) (e : CheckKind × Option Nat × Nat) (hq : s.quiet)
    (hp : s.lp.port = .takingData h) (hm : endsHand c h = true) (he : h.parityError = none) (hc : c = .print ∨ c = .move)
    (hf : motionOrFault s.forms.table h.kept = .error e) :
    ∃ t, exec c s = .next t ∧ s.RefusedAs t h e.1 e.2.1 e.2.2 := by
  apply State.exists_refusedAs
  rcases hc with rfl | rfl
  · rw [s.exec_print h hq hp (by simpa [endsHand] using hm) he, s.endPrint_of_fault h e hf]
  · rw [s.exec_move h hq hp (by simpa [endsHand] using hm) he, s.endMove_of_fault h e hf]

/-- Settles O16: PARITY through the judgement of every row, and the tests of PRINT and MOVE in their order. -/
theorem ordersAreRefused : Obligations.OrdersAreRefused := by
  unfold Obligations.OrdersAreRefused
  intro c s h hq hp hm
  refine ⟨fun e he => ?_, fun he hc => ⟨fun hk => ?_, fun b m hb hmo => ⟨fun k ha hs => ?_, fun hs hc p code hr => ?_⟩⟩⟩
  · obtain ⟨work, hx⟩ := exec_of_isEndRow c (isEndRow_of_endsHand c h hm)
    apply State.exists_refusedAs
    rw [hx, s.run_atEnd_of_mine _ _ h hq hp hm, s.judge_of_parity h _ e he]
  · exact s.exec_of_motion_fault c h _ hq hp hm he hc (by rw [hk, motionOrFault_nil])
  · obtain ⟨rest, hk⟩ := List.head?_eq_some_iff.mp hb
    exact s.exec_of_motion_fault c h _ hq hp hm he hc (by rw [hk, motionOrFault_of_no_stop _ b rest m k hmo ha hs])
  · obtain ⟨rest, hk⟩ := List.head?_eq_some_iff.mp hb
    subst hc
    have hf : motionOrFault s.forms.table h.kept = .ok m := by rw [hk, motionOrFault_of_good _ b rest m hmo hs]
    apply State.exists_refusedAs
    rw [s.exec_print h hq hp (by simpa [endsHand] using hm) he, s.endPrint_of_refused h m p code hf hr]

/-! ### Motions carried out -/

/-- The whole effect of a PRINT that passed its tests. -/
theorem State.printText_eq (s : State) (h : Hand) (m : Motion) (text : List Byte) :
    s.printText h m text = { s with
      forms := (s.forms.print m (s.map.translate text) h.clamped).1
      queue := s.queue ++ (s.forms.print m (s.map.translate text) h.clamped).2
      lp := { s.lp with port := .replying ⟨.done, s.forms.formsEnd m.action, s.noticeFlag, h.clamped⟩ }
      counters := ((s.count .unprintable (s.map.replaced text)).count .linesAccepted 1).counters } := rfl

/-- The whole effect of a MOVE that passed its tests. -/
theorem State.endMove_of_good (s : State) (h : Hand) (m : Motion)
    (hm : motionOrFault s.forms.table h.kept = .ok m) :
    s.endMove h = { s with
      forms := (s.forms.move m.action).1
      queue := s.queue ++ (s.forms.move m.action).2.map .formEnd
      lp := { s.lp with port := .replying ⟨.done, s.forms.formsEnd m.action, s.noticeFlag, h.clamped⟩ } } := by
  simp [State.endMove, hm]
  rfl

/-- Settles O17: the timing of the motion byte chooses between the two orders of `Forms.print`. -/
theorem motionsAreCarriedOut : Obligations.MotionsAreCarriedOut := by
  unfold Obligations.MotionsAreCarriedOut
  intro s h b rest m hq hp he hkept hmo hs
  have hf : motionOrFault s.forms.table h.kept = .ok m := by rw [hkept, motionOrFault_of_good _ b rest m hmo hs]
  refine ⟨fun hk hr => ?_, fun hk => ?_⟩
  · have hr' : s.map.firstRefused h.kept.tail = none := by rw [hkept]; exact hr
    refine ⟨s.printText h m rest, ?_, rfl, fun ha => ?_, fun ha => ?_⟩
    · rw [s.exec_print h hq hp hk he, s.endPrint_of_good h m hf hr', hkept]
      rfl
    · simp [s.printText_eq, Forms.print, ha]
    · simp [s.printText_eq, Forms.print, ha]
  · rw [s.exec_move h hq hp hk he, s.endMove_of_good h m hf]

end Sys2Proof.Machine
end

section
/-! PROOFS. Order bytes, data bytes, the bytes and markers that wait, replies, SYNC, hardware reset and the port clear. -/

namespace Sys2Proof.Machine

/-! ### The order byte -/

theorem exec_clear (s : State) : exec .clear s = s.run State.portClear := rfl
theorem exec_lineReset (s : State) : exec .lineReset s = s.run State.lineResetSignal := rfl

/-- R1: an order byte for this unit strobed in IDLE is taken up. -/
theorem State.exec_orderByte_idle (s : State) (d : Byte) (p : Bool) (hq : s.quiet) (hi : s.lp.port = .idle) :
    exec (.orderByte true s.lp.unit d p) s = .next (s.takeOrderByte d p) := by
  rw [exec_orderByte, s.run_of_quiet _ hq]
  simp [State.orderByteStrobed, hi]

/-- R4, R7: an order is accepted now exactly when it has its room and no fenced entry waits. -/
theorem State.accepts_iff (s : State) (k : OrderKind) :
    s.accepts k = true ↔ roomNeeded k ≤ s.freeEntries ∧ s.fenceHolds = false := by
  simp [State.accepts]

/-- R3: a byte with a parity error is taken at once, with the error noted at position 0. -/
theorem State.takeOrderByte_of_parity (s : State) (d : Byte) (p : Bool) (hp : parityGood d p = false) :
    s.takeOrderByte d p = s.setPortAccept (.takingData (newHand d none (some (0, d)))) true := by
  simp [State.takeOrderByte, hp]

/-- R5: a PRINT or MOVE that finds the part held and fewer than 2 free entries is answered NOT READY. -/
theorem State.takeOrderByte_of_held (s : State) (d : Byte) (p : Bool) (k : OrderKind) (hp : parityGood d p = true)
    (hk : orderNamed d = some k) (hn : (k = .print ∨ k = .move) ∧ s.held = true ∧ s.freeEntries < 2) :
    s.takeOrderByte d p = ({ s with lp := { s.lp with accept := false } } : State).present .notReady false false := by
  simp only [State.takeOrderByte, hp, hk]
  exact if_pos hn

/-- R4, R7: any other order is accepted when room and fence allow it, and otherwise waits. -/
theorem State.takeOrderByte_of_not_held (s : State) (d : Byte) (p : Bool) (k : OrderKind) (hp : parityGood d p = true)
    (hk : orderNamed d = some k) (hn : ¬((k = .print ∨ k = .move) ∧ s.held = true ∧ s.freeEntries < 2)) :
    s.takeOrderByte d p =
      if s.accepts k then s.setPortAccept (.takingData (newHand d (some k) none)) true
      else s.setPortAccept (.waitingOrder d k) false := by
  simp only [State.takeOrderByte, hp, hk]
  exact if_neg hn

/-- Settles O11: one case for each answer to an order byte. -/
theorem orderByteIsTakenUp : Obligations.OrderByteIsTakenUp := by
  unfold Obligations.OrderByteIsTakenUp
  refine ⟨rfl, rfl, rfl, rfl, rfl, fun s d p hq hi => ⟨fun hp => ?_, fun k hp hk => ⟨fun h1 h2 h3 => ?_, fun hn hr hf => ?_,
    fun hn hw => ?_⟩⟩⟩
  · rw [s.exec_orderByte_idle d p hq hi, s.takeOrderByte_of_parity d p hp]
    rfl
  · rw [s.exec_orderByte_idle d p hq hi, s.takeOrderByte_of_held d p k hp hk ⟨h1, h2, h3⟩]
    rfl
  · have ha : s.accepts k = true := (s.accepts_iff k).mpr ⟨hr, hf⟩
    rw [s.exec_orderByte_idle d p hq hi, s.takeOrderByte_of_not_held d p k hp hk hn, if_pos ha]
    rfl
  · have ha : ¬s.accepts k = true := by
      rw [s.accepts_iff k]
      rintro ⟨hr, hf⟩
      rcases hw with hw | hw
      · omega
      · simp [hf] at hw
    rw [s.exec_orderByte_idle d p hq hi, s.takeOrderByte_of_not_held d p k hp hk hn, if_neg ha]
    rfl

/-! ### Data bytes -/

/-- R64, R189: the kind bytes of the four stream tables. -/
theorem kindIsStream_iff (d : Byte) : kindIsStream d = true ↔ d = 3 ∨ d = 4 ∨ d = 5 ∨ d = 6 := by
  simp only [kindIsStream, Bool.and_eq_true, decide_eq_true_eq]
  bv_omega

theorem State.freeEntries_eq (s : State) : s.freeEntries = 16 - s.queue.length := rfl

/-- R6: when a kind byte is held back. -/
theorem State.holdsKind_iff (s : State) (h : Hand) (d : Byte) (p : Bool) :
    s.holdsKind h d p = true ↔ h.kind = some .table ∧ h.count = 0 ∧ parityGood d p = true ∧
      (d = 3 ∨ d = 4 ∨ d = 5 ∨ d = 6) ∧ 16 ≤ s.queue.length := by
  simp only [State.holdsKind, Bool.and_eq_true, decide_eq_true_eq, beq_iff_eq, kindIsStream_iff, s.freeEntries_eq,
    and_assoc, Nat.sub_eq_zero_iff_le]

/-- R8: a data byte that is not held back is taken. -/
theorem State.exec_dataByte_taken (s : State) (h : Hand) (d : Byte) (p : Bool) (hq : s.quiet)
    (hp : s.lp.port = .takingData h) (hh : ¬s.holdsKind h d p = true) :
    exec (.dataByte d p) s = .next (s.setPortAccept (.takingData (h.take d p)) true) := by
  rw [exec_dataByte, s.run_of_quiet _ hq]
  simp [State.dataByteStrobed, hp, hh]

/-- R6: a kind byte held back waits. -/
theorem State.exec_dataByte_held (s : State) (h : Hand) (d : Byte) (p : Bool) (hq : s.quiet)
    (hp : s.lp.port = .takingData h) (hh : s.holdsKind h d p = true) :
    exec (.dataByte d p) s = .next (s.setPortAccept (.waitingKind h d) false) := by
  rw [exec_dataByte, s.run_of_quiet _ hq]
  simp [State.dataByteStrobed, hp, hh]

/-- R8: an order keeps one more byte exactly when it has no limit or has not reached it. -/
theorem Hand.keeps_iff (h : Hand) : h.keeps = true ↔ ∀ n, keepLimit h.kind = some n → h.kept.length < n := by
  unfold Hand.keeps
  split
  · next hl => simp [hl]
  · next n hl => simp [hl]

/-- R8: a TABLE keeps every byte. -/
theorem Hand.keeps_of_table (h : Hand) (hk : h.kind = some .table) : h.keeps = true := by
  simp [h.keeps_iff, hk, keepLimit]

theorem Hand.take_of_keeps (h : Hand) (d : Byte) (p : Bool) (hk : h.keeps = true) :
    h.take d p = { h with
      kept := h.kept ++ [d]
      count := h.count + 1
      parityError :=
        if h.parityError.isNone && !parityGood d p then some (held255 (h.count + 1), d) else h.parityError } := by
  simp [Hand.take, hk]

theorem Hand.take_of_not_keeps (h : Hand) (d : Byte) (p : Bool) (hk : ¬h.keeps = true) :
    h.take d p = { h with count := h.count + 1, clamped := h.clamped || h.kind.isSome } := by
  simp [Hand.take, hk]

/-- R8: the first byte of a TABLE, kept with its parity noted. -/
theorem Hand.take_first_of_table (h : Hand) (d : Byte) (p : Bool) (hk : h.kind = some .table) (hc : h.count = 0)
    (hn : h.kept = []) (he : h.parityError = none) :
    h.take d p = { h with kept := [d], count := 1, parityError := if parityGood d p then none else some (1, d) } := by
  rw [h.take_of_keeps d p (h.keeps_of_table hk)]
  cases hg : parityGood d p <;> simp [hc, hn, he, held255]

theorem Hand.take_orderByte (h : Hand) (d : Byte) (p : Bool) : (h.take d p).orderByte = h.orderByte := by
  unfold Hand.take; split <;> rfl
theorem Hand.take_kind (h : Hand) (d : Byte) (p : Bool) : (h.take d p).kind = h.kind := by
  unfold Hand.take; split <;> rfl
theorem Hand.take_count (h : Hand) (d : Byte) (p : Bool) : (h.take d p).count = h.count + 1 := by
  unfold Hand.take; split <;> rfl

/-- Settles O12: the byte is taken by `Hand.take`, which keeps it or discards it by the limit of its order. -/
theorem dataBytesAreKeptOrDiscarded : Obligations.DataBytesAreKeptOrDiscarded := by
  unfold Obligations.DataBytesAreKeptOrDiscarded
  refine ⟨rfl, rfl, rfl, rfl, rfl, rfl, kindIsStream_iff, State.freeEntries_eq, State.holdsKind_iff,
    fun s h d p hq hp hk hc hn he hw => ?_, fun s h d p hq hp hh => ?_⟩
  · have hh : ¬s.holdsKind h d p = true := by
      rw [s.holdsKind_iff]
      rintro ⟨_, _, hg, hd, hl⟩
      rcases hw with hw | ⟨h3, h4, h5, h6⟩ | hw
      · simp [hg] at hw
      · rcases hd with hd | hd | hd | hd <;> contradiction
      · omega
    rw [s.exec_dataByte_taken h d p hq hp hh, h.take_first_of_table d p hk hc hn he]
    rfl
  · rw [← s.holdsKind_iff] at hh
    refine ⟨h.take d p, s.exec_dataByte_taken h d p hq hp hh, h.take_orderByte d p, h.take_kind d p, h.take_count d p,
      fun hk => ?_, fun n hn hl => ?_⟩
    · rw [h.take_of_keeps d p (h.keeps_iff.mpr hk)]
      refine ⟨rfl, rfl, fun e he => ?_, fun he hg => ?_, fun he hg => ?_⟩
      · simp [he]
      · simp [he, hg]
      · simp [he, hg, held255]
    · have hk : ¬h.keeps = true := fun hk => by
        have := h.keeps_iff.mp hk n hn
        omega
      rw [h.take_of_not_keeps d p hk]
      exact ⟨rfl, rfl, rfl⟩

/-! ### Bytes and markers that wait -/

theorem exec_orderAccept (s : State) : exec .orderAccept s = .next s.takeOwed.acceptWaiting := rfl
theorem exec_owedFormEnd (s : State) : exec .owedFormEnd s = .next s.takeOwed := rfl

theorem State.takeOwed_of_none (s : State) (h : s.forms.owed = none) : s.takeOwed = s := by
  simp [State.takeOwed, h]

/-- R38: the owed marker takes a free place. -/
theorem State.takeOwed_of_room (s : State) (m : FormEndMark) (h : s.forms.owed = some m) (hr : 0 < s.freeEntries) :
    s.takeOwed = { s with queue := s.queue ++ [.formEnd m], forms := { s.forms with owed := none } } := by
  simp [State.takeOwed, h, hr]

/-- R38: in a full queue the owed marker waits on. -/
theorem State.takeOwed_of_full (s : State) (h : 16 ≤ s.queue.length) : s.takeOwed = s := by
  apply s.takeOwed_of_not_due
  simp [State.owedDue, s.freeEntries_eq, h]

theorem State.acceptWaiting_order (s : State) (b : Byte) (k : OrderKind) (hp : s.lp.port = .waitingOrder b k)
    (ha : s.accepts k = true) : s.acceptWaiting = s.setPortAccept (.takingData (newHand b (some k) none)) true := by
  simp [State.acceptWaiting, hp, ha]

theorem State.acceptWaiting_kind (s : State) (h : Hand) (k : Byte) (hp : s.lp.port = .waitingKind h k)
    (hr : 0 < s.freeEntries) : s.acceptWaiting = s.setPortAccept (.takingData (h.take k (oddParity k))) true := by
  simp [State.acceptWaiting, hp, hr]

/-- R13: a byte with the level that makes its parity odd is of good parity. -/
theorem parityGood_oddParity (d : Byte) : parityGood d (oddParity d) = true := by
  simp only [parityGood, oddParity, beq_iff_eq]
  rcases Nat.mod_two_eq_zero_or_one (onesIn d) with h | h
  · simp [h]
    omega
  · simp [h]

/-- Settles O13: the held bytes and the owed marker, each by the lemma of its due step. -/
theorem waitingBytesAndOwedMarkers : Obligations.WaitingBytesAndOwedMarkers := by
  unfold Obligations.WaitingBytesAndOwedMarkers
  intro s
  refine ⟨fun h d p hq hp hk hc hs hg hf => ?_, fun h k ho hp hk hn hc he hr => ?_, fun b k ho hp hr hf => ?_,
    fun ho ha => ?_, fun m ho hr => ?_, fun hw => ?_⟩
  · have hh : s.holdsKind h d p = true := by simp [State.holdsKind, hk, hc, hs, hg, hf]
    rw [s.exec_dataByte_held h d p hq hp hh]
    rfl
  · rw [exec_orderAccept, s.takeOwed_of_none ho, s.acceptWaiting_kind h k hp hr,
      h.take_first_of_table k _ hk hc hn he, if_pos (parityGood_oddParity k), ← he]
    rfl
  · rw [exec_orderAccept, s.takeOwed_of_none ho, s.acceptWaiting_order b k hp ((s.accepts_iff k).mpr ⟨hr, hf⟩)]
    rfl
  · rw [exec_orderAccept, s.takeOwed_of_none ho, s.acceptWaiting_of_not_due ha]
  · rw [exec_owedFormEnd, s.takeOwed_of_room m ho (by rw [s.freeEntries_eq]; omega)]
  · rcases hw with ho | hl
    · rw [exec_owedFormEnd, s.takeOwed_of_none ho]
    · rw [exec_owedFormEnd, s.takeOwed_of_full hl]

/-! ### Replies and responses -/

/-- Settles O14: REPLY TAKEN by the port state it meets, and the lines by the byte presented. -/
theorem repliesAndResponsesAreTaken : Obligations.RepliesAndResponsesAreTaken := by
  unfold Obligations.RepliesAndResponsesAreTaken
  refine ⟨parityGood_oddParity, fun s => ⟨fun b more clamped hp => ?_, fun r hp => ?_, fun d hd => ?_, fun hd => ?_,
    fun hq => ⟨fun a b more clamped hp => ?_, fun b clamped hp => ?_, fun r hp => ?_⟩⟩⟩
  · simp [LinePort.dataLines, hp]
  · simp [LinePort.dataLines, hp]
  · simp [LinePort.replyValid, LinePort.parityLine, hd]
  · simp [LinePort.replyValid, LinePort.parityLine, hd]
  · rw [exec_replyTaken, s.run_of_quiet _ hq]
    simp [State.replyTakenSignal, hp, State.setPort]
  · rw [exec_replyTaken, s.run_of_quiet _ hq]
    simp [State.replyTakenSignal, hp, State.present, State.setPort]
  · rw [exec_replyTaken, s.run_of_quiet _ hq]
    simp [State.replyTakenSignal, hp, State.setPort]

/-! ### SYNC -/

theorem exec_syncDone (s : State) : exec .syncDone s = .next s.syncCompletes := rfl
theorem exec_engineStopped (s : State) : exec .engineStopped s = .next s.syncFails := rfl

/-- Refusing a withheld SYNC writes the check record, counts and presents CHECK; no notice is posted. -/
theorem State.refuse_syncHand (s : State) (clamped : Bool) (kind : CheckKind) (position : Option Nat) (detail : Nat) :
    s.refuse (syncHand clamped) kind position detail = { s with
      lp := { s.lp with
        check := some ⟨kind, 83, position, detail⟩
        port := .replying ⟨.check, false, s.noticeFlag, clamped⟩ }
      counters := s.counters.set 1 (countUp (s.counters.get 1) 1) } := rfl

/-- R16: in the ring watch an empty ring answers the SYNC. -/
theorem State.syncCompletes_of_empty (s : State) (clamped : Bool) (hp : s.lp.port = .syncWithheld .ringWatch clamped)
    (hr : sheetsIn s.ring = 0) : s.syncCompletes = s.present .done false clamped := by
  simp [State.syncCompletes, hp, hr]

/-- R17: sheets in the ring and no engine able refuse the SYNC. -/
theorem State.syncFails_of_stopped (s : State) (phase : SyncPhase) (clamped : Bool)
    (hp : s.lp.port = .syncWithheld phase clamped) (hr : sheetsIn s.ring ≠ 0) (hh : s.held = true) :
    s.syncFails = s.refuse (syncHand clamped) .engineStopped none (sheetsIn s.ring) := by
  simp [State.syncFails, hp, hr, hh]

/-- Settles O21: SYNC by its END row, and its two answers by their due steps. -/
theorem syncIsWithheldAndAnswered : Obligations.SyncIsWithheldAndAnswered := by
  unfold Obligations.SyncIsWithheldAndAnswered
  intro s
  refine ⟨fun h hq hp hk he => ⟨s.endSync h, ?_, ?_, rfl⟩, fun clamped hp hr => ?_, fun hd => ?_,
    fun phase clamped hp hr hh => ?_, fun hd => ?_⟩
  · exact s.run_atEnd_judge _ (fun h u => u.endSync h) h .sync hq hp (by simp [hk]) he hk
  · simp [State.syncPending, State.endSync]
  · rw [exec_syncDone, s.syncCompletes_of_empty clamped hp hr]
    rfl
  · rw [exec_syncDone, s.syncCompletes_of_not_due hd]
  · rw [exec_engineStopped, s.syncFails_of_stopped phase clamped hp (by omega) hh, s.refuse_syncHand]
  · rw [exec_engineStopped, s.syncFails_of_not_due hd]

/-! ### Resets and the port clear -/

/-- Settles O4: each value is read off the state after hardware reset. -/
theorem hardwareResetLeavesThePortIdle : Obligations.HardwareResetLeavesThePortIdle := by
  unfold Obligations.HardwareResetLeavesThePortIdle
  intro straps s
  refine ⟨{ State.atReset straps with pending := s.pending }, rfl, rfl, rfl, rfl, rfl, rfl, rfl, rfl, ?_, ?_⟩
  · simp [State.counter, State.atReset, countersAtReset, Vector.get_eq_getElem]
  · simp [State.counter, State.atReset, countersAtReset, Vector.get_eq_getElem]

/-- Settles O8: in a quiet state the port clear is the command's whole effect. -/
theorem portClearTouchesThePortAlone : Obligations.PortClearTouchesThePortAlone := by
  unfold Obligations.PortClearTouchesThePortAlone
  intro s hq
  rw [exec_clear, s.run_of_quiet _ hq]
  rfl

end Sys2Proof.Machine
end

section
/-! PROOFS. The soft reset, the stream tables and the front tables. -/

namespace Sys2Proof.Machine

/-! ### The soft reset -/

/-- R165, R188: the link a soft reset leaves. -/
theorem softResetLink_softResetTo (cfg : LinkSettings) (e : Engine) (l : Link) :
    l.softResetTo cfg (cfg.arrangement.uses e) (softResetLink cfg e l) := by
  unfold softResetLink
  cases cfg.arrangement.uses e <;> rfl

/-- R201: after a soft reset no condition is true but FOLIO LIMIT. -/
theorem State.softResetBlocks_conditions (s : State) :
    s.softResetBlocks.conditions &&& ~~~Source10.folioLimit.bit = 0 := by
  have hl : ∀ e l, engineStoppedHolds s.settings e (softResetLink s.settings e l) = false := by
    intro e l
    rw [softResetLink_softResetTo s.settings e l]
    cases hu : s.settings.arrangement.uses e <;> simp [engineStoppedHolds, hu]
  have hd : degradedHolds s.softResetBlocks = false := by
    have h : ∀ e l, (softResetLink s.settings e l).pace.degraded = false := fun e l => by
      rw [softResetLink_softResetTo s.settings e l]
    simp [degradedHolds, State.softResetBlocks, State.softResetNotices, h]
  apply inSet_ext
  intro x
  rw [show (0 : NoticeSet) = 0#10 from rfl, inSet_and, inSet_not, inSet_bit, State.inSet_conditions, inSet_empty]
  cases x with
  | engineStoppedA => simp [State.softResetBlocks, State.softResetNotices, hl]
  | engineStoppedB => simp [State.softResetBlocks, State.softResetNotices, hl]
  | degraded => simp [hd]
  | ringFull => rfl
  | _ => simp

/-- R207: the soft reset empties the pending set, and what rises at the reset pends. -/
theorem State.softResetNotices_pending (s t : State) :
    (s.softResetNotices t).notices.pending = t.conditions &&& ~~~s.conditions := by
  apply inSet_ext
  intro x
  have hc : ({ t with notices := t.notices.setPending 0 } : State).conditions = t.conditions := rfl
  rw [State.softResetNotices, State.settleNotices_notices, hc, edgesOn_pending, NoticeUnit.setPending_pending,
    show (0 : NoticeSet) = 0#10 from rfl, inSet_empty, inSet_and, inSet_not]
  cases inSet t.conditions x <;> cases inSet s.conditions x <;> simp

/-- What the soft reset of the blocks leaves. -/
theorem State.softResetBlocks_softResetTo (s : State) : s.SoftResetTo s.softResetBlocks :=
  ⟨rfl, softResetLink_softResetTo s.settings .a s.linkA, softResetLink_softResetTo s.settings .b s.linkB, rfl, rfl,
    s.softResetNotices_pending _, s.softResetBlocks_conditions⟩

/-- The soft reset says nothing of the Line Port. -/
theorem State.SoftResetTo.with_lp {s t : State} (h : s.SoftResetTo t) (l m : LinePort) :
    ({ s with lp := l } : State).SoftResetTo { t with lp := m } := by
  obtain ⟨ht, hrest⟩ := h
  exact ⟨by rw [ht], hrest⟩

theorem exec_tableReset (s : State) :
    exec .tableReset s = s.run fun q => q.tableRow 12 noFault fun h _ t => t.resetRecord h := rfl

/-- Settles O7: both ways run the same soft reset of the blocks, and differ in the Line Port alone. -/
theorem softResetsDiscardTheWork : Obligations.SoftResetsDiscardTheWork := by
  unfold Obligations.SoftResetsDiscardTheWork
  intro s hq
  refine ⟨⟨s.lineResetSignal, ?_, s.softResetBlocks_softResetTo.with_lp s.lp _, rfl⟩, fun h hp he hm hf =>
    ⟨s.resetRecord h, ?_, (s.done h false).softResetBlocks_softResetTo.with_lp s.lp _, rfl⟩⟩
  · rw [exec_lineReset, s.run_of_quiet _ hq]
  · rw [exec_tableReset, s.run_of_quiet _ hq, s.tableRow_good h 12 noFault _ hp hm he hf rfl]

/-! ### Stream tables -/

@[simp] theorem collationOf_get (body : List Byte) (g : Glyph) :
    (collationOf body).get g = if byteAt body g.val = 0 then none else some (byteAt body g.val) := by
  simp [collationOf, rankOf, Vector.get_eq_getElem]

/-- R110: a byte of at most 7 is the sum of its three marks. -/
theorem marksOf_sum (v : Nat) (h : v ≤ 7) :
    v = (marksOf v).outOfOrder.toNat + 2 * (marksOf v).duplicate.toNat + 4 * (marksOf v).overLine.toNat := by
  revert v
  decide

/-- A stream record that passes its tests joins the tail of the queue, fenced when the fence is armed. -/
theorem State.run_queueStream (s : State) (h : Hand) (kind : Nat) (fault : List Byte → Option (Nat × Nat))
    (read : List Byte → StreamTable) (hq : s.quiet) (hp : s.lp.port = .takingData h) (hm : h.isTable kind = true)
    (he : h.parityError = none) (hf : framingFault h.kept = none) (hr : fault (h.kept.drop 3) = none) :
    (s.run fun q => q.tableRow kind fault (queueStream read)) = .next { s with
      queue := s.queue ++ [.streamTable (read (h.kept.drop 3)) s.lp.fenceArmed]
      lp := { s.lp with
        fenceArmed := false
        port := .replying ⟨.done, false, s.noticeFlag, h.clamped⟩ } } := by
  rw [s.run_of_quiet _ hq, s.tableRow_good h kind fault _ hp hm he hf hr]
  rfl

/-- Settles O23: the fields by their definitions, and the four kinds by the one lemma of stream records. -/
theorem streamTablesAreQueued : Obligations.StreamTablesAreQueued := by
  unfold Obligations.StreamTablesAreQueued
  refine ⟨fun body => ⟨collationOf_get body, rfl, rfl, fun hz => ?_, fun hz => ?_, rfl, marksOf_sum _⟩,
    fun c s h table hq hp hm he hf hr hc => ?_⟩
  · simp [layoutOf, hz]
  · exact ⟨_, if_neg hz, rfl, rfl, rfl⟩
  · rcases hc with ⟨rfl, rfl⟩ | ⟨rfl, rfl⟩ | ⟨rfl, rfl⟩ | ⟨rfl, rfl⟩
    · exact s.run_queueStream h 3 collationFault _ hq hp hm he hf hr
    · exact s.run_queueStream h 4 layoutFault _ hq hp hm he hf hr
    · exact s.run_queueStream h 6 planFault _ hq hp hm he hf hr
    · exact s.run_queueStream h 5 noFault _ hq hp hm he hf rfl

/-! ### Front tables -/

/-- R42: the entry of a code in a map built from a record. -/
theorem charMapOf_entry (body : List Byte) (code : Byte) :
    (charMapOf body).entry code = mapEntryOf (byteAt body (2 + code.toNat)) := by
  simp [CharMap.entry, charMapOf]

/-- R44: an entry byte of a glyph. -/
theorem mapEntryOf_glyph (g : Glyph) : mapEntryOf g.val = .glyph g := by
  have hg : g.val ≤ 239 := by omega
  rw [mapEntryOf, if_pos hg]
  congr 1
  exact Fin.ext (Nat.mod_eq_of_lt g.isLt)

/-- R44: the substitute of a valid body. -/
theorem charMapOf_substitute (body : List Byte) (h : byteAt body 1 ≤ 239) :
    (charMapOf body).substitute.val = byteAt body 1 :=
  Nat.mod_eq_of_lt (by omega)

/-- A front record that passes its tests takes effect, and its DONE reply follows. -/
theorem State.run_applyFront (s : State) (h : Hand) (kind : Nat) (fault : List Byte → Option (Nat × Nat))
    (apply : List Byte → State → State) (hq : s.quiet) (hp : s.lp.port = .takingData h) (hm : h.isTable kind = true)
    (he : h.parityError = none) (hf : framingFault h.kept = none) (hr : fault (h.kept.drop 3) = none) :
    (s.run fun q => q.tableRow kind fault (applyFront apply)) =
      .next ((s.settleNotices (apply (h.kept.drop 3) s)).done h false) := by
  rw [s.run_of_quiet _ hq, s.tableRow_good h kind fault _ hp hm he hf hr, applyFront]

/-- A front record that reaches neither a condition nor a notice leaves the Notice Unit. -/
theorem State.run_applyFront_unnoticed (s : State) (h : Hand) (kind : Nat) (fault : List Byte → Option (Nat × Nat))
    (apply : List Byte → State → State) (hq : s.quiet) (hp : s.lp.port = .takingData h) (hm : h.isTable kind = true)
    (he : h.parityError = none) (hf : framingFault h.kept = none) (hr : fault (h.kept.drop 3) = none)
    (hc : (apply (h.kept.drop 3) s).conditions = s.conditions) (hn : (apply (h.kept.drop 3) s).notices.callSound) :
    (s.run fun q => q.tableRow kind fault (applyFront apply)) = .next ((apply (h.kept.drop 3) s).done h false) := by
  rw [s.run_applyFront h kind fault apply hq hp hm he hf hr, s.settleNotices_same _ hc hn]

/-- R191: the counters after a COUNTER CLEAR. -/
theorem clearNamed_get (named : Nat) (cs : Counters) (k : Fin 16) :
    (clearNamed named cs).get k = if named.testBit k.val then 0 else cs.get k := by
  simp [clearNamed, Vector.get_eq_getElem]

/-- R201: a value names source k when it holds 2 to the power k. -/
@[simp] theorem inSet_ofNat (n : Nat) (x : Source10) : inSet (BitVec.ofNat 10 n) x = n.testBit x.number := by
  rw [inSet, BitVec.getLsbD_ofNat]
  simp [x.number_lt]

/-- When no condition rises or falls, what pends is settled as it stands. -/
theorem State.settleNotices_pending_same (s t : State) (hc : t.conditions = s.conditions) :
    (s.settleNotices t).notices.pending = t.notices.pending := by
  rw [State.settleNotices_notices, hc, edgesOn_same, NoticeUnit.setPending_pending]

/-- R204: what pends after a NOTICE CLEAR. -/
theorem State.settled_noticeClear_pending (s : State) (n : Nat) (x : Source10) :
    inSet (s.settleNotices (s.applyNoticeClear (BitVec.ofNat 10 n))).notices.pending x =
      (inSet s.notices.pending x && !(n.testBit x.number && !inSet s.conditions x)) := by
  rw [s.settleNotices_pending_same (s.applyNoticeClear (BitVec.ofNat 10 n)) rfl]
  simp [State.applyNoticeClear]

/-- R205: what pends after a NOTICE CONTROL. -/
theorem State.settled_noticeControl_pending (s : State) (mask : NoticeSet) (confirmed : Bool) (x : Source10) :
    inSet (s.settleNotices (s.applyNoticeControl mask confirmed)).notices.pending x =
      (inSet s.notices.pending x &&
        !(s.notices.confirmed && !confirmed && inSet conditionSources x && !inSet s.conditions x)) := by
  rw [s.settleNotices_pending_same (s.applyNoticeControl mask confirmed) rfl]
  simp only [State.applyNoticeControl, NoticeUnit.driveCall_pending]
  cases s.notices.confirmed <;> cases confirmed <;> simp

/-- Settles O24: the fields of a map record, and the five front tables by the one lemma of front records. The first three
change no condition and no notice, so settling leaves the Notice Unit. -/
theorem frontTablesTakeEffect : Obligations.FrontTablesTakeEffect := by
  unfold Obligations.FrontTablesTakeEffect
  refine ⟨fun body => ⟨fun h0 => ?_, fun h1 => ?_, fun h2 => ?_, charMapOf_substitute body, fun code v hv =>
    ⟨fun g hg => ?_, fun h => ?_, fun h => ?_⟩⟩, ?_⟩
  · simp [charMapOf, h0]
  · simp [charMapOf, h1]
  · simp [charMapOf, h2]
  · rw [charMapOf_entry, ← hv, ← hg, mapEntryOf_glyph]
  · rw [charMapOf_entry, ← hv, h]
    rfl
  · rw [charMapOf_entry, ← hv, h]
    rfl
  · rintro s h body hq hn hp he hf rfl
    refine ⟨fun hm hr => ?_, fun hm hr => ?_, fun hm => ?_, fun hm hr => ?_, fun hm hr => ?_⟩
    · exact s.run_applyFront_unnoticed h 1 _ _ hq hp hm he hf hr rfl hn
    · exact s.run_applyFront_unnoticed h 10 _ _ hq hp hm he hf hr rfl hn
    · exact ⟨_, s.run_applyFront_unnoticed h 11 noFault _ hq hp hm he hf rfl rfl hn, rfl, clearNamed_get _ _⟩
    · refine ⟨_, s.run_applyFront h 9 _ _ hq hp hm he hf hr, rfl, rfl, rfl, s.settled_noticeClear_pending _⟩
    · refine ⟨_, s.run_applyFront h 8 _ _ hq hp hm he hf hr, rfl, rfl, rfl, s.settled_noticeControl_pending _ _⟩

end Sys2Proof.Machine
end

section
/-! PROOFS. The due steps, each when it is due, and the quiet state that all of them leave. -/

namespace Sys2Proof.Machine

/-! ### What each due step does when it is due -/

theorem State.takeOwed_of_due (s : State) (h : s.owedDue = true) :
    ∃ m, s.takeOwed = { s with queue := s.queue ++ [.formEnd m], forms := { s.forms with owed := none } } := by
  obtain ⟨ho, hr⟩ : s.forms.owed.isSome = true ∧ 0 < s.freeEntries := by simpa [State.owedDue] using h
  obtain ⟨m, hm⟩ := Option.isSome_iff_exists.mp ho
  exact ⟨m, s.takeOwed_of_room m hm hr⟩

theorem State.syncCompletes_of_due (s : State) (h : s.syncDoneDue = true) :
    ∃ clamped, s.syncCompletes = s.present .done false clamped := by
  unfold State.syncDoneDue at h
  split at h
  · next clamped hp => exact ⟨clamped, s.syncCompletes_of_empty clamped hp (by simpa using h)⟩
  · cases h

theorem State.syncFails_of_due (s : State) (h : s.syncFailDue = true) :
    ∃ clamped, s.syncFails = s.refuse (syncHand clamped) .engineStopped none (sheetsIn s.ring) := by
  unfold State.syncFailDue at h
  split at h
  · next phase clamped hp =>
    obtain ⟨hr, hh⟩ : sheetsIn s.ring ≠ 0 ∧ s.held = true := by simpa using h
    exact ⟨clamped, s.syncFails_of_stopped phase clamped hp hr hh⟩
  · cases h

theorem State.acceptWaiting_of_due (s : State) (h : s.acceptDue = true) :
    ∃ hand, s.acceptWaiting = s.setPortAccept (.takingData hand) true := by
  unfold State.acceptDue at h
  split at h
  · next b k hp => exact ⟨_, s.acceptWaiting_order b k hp h⟩
  · next hand k hp => exact ⟨_, s.acceptWaiting_kind hand k hp (by simpa using h)⟩
  · cases h

theorem State.grantOnce_of_due (s : State) (h : s.grantDue = true) :
    ∃ e sh, s.chosenEngine = some e ∧ s.oldestReady = some sh ∧ s.grantOnce = s.grantTo e sh := by
  obtain ⟨he, hs⟩ : s.chosenEngine.isSome = true ∧ s.oldestReady.isSome = true := by simpa [State.grantDue] using h
  obtain ⟨e, he⟩ := Option.isSome_iff_exists.mp he
  obtain ⟨sh, hs⟩ := Option.isSome_iff_exists.mp hs
  exact ⟨e, sh, he, hs, by simp [State.grantOnce, he, hs]⟩

/-! ### What the due steps leave alone -/

/-- `t` is `s` but for the Line Port and the counters. -/
abbrev State.PortOnly (s t : State) : Prop := t = { s with lp := t.lp, counters := t.counters }

theorem State.PortOnly.trans {s t u : State} (h : s.PortOnly t) (k : t.PortOnly u) : s.PortOnly u := by
  unfold State.PortOnly at *
  rw [k, h]

theorem State.syncCompletes_portOnly (s : State) : s.PortOnly s.syncCompletes := by
  cases h : s.syncDoneDue with
  | false => rw [s.syncCompletes_of_not_due h]
  | true => obtain ⟨clamped, hx⟩ := s.syncCompletes_of_due h; rw [hx]; rfl

theorem State.syncFails_portOnly (s : State) : s.PortOnly s.syncFails := by
  cases h : s.syncFailDue with
  | false => rw [s.syncFails_of_not_due h]
  | true => obtain ⟨clamped, hx⟩ := s.syncFails_of_due h; rw [hx, s.refuse_syncHand]

theorem State.acceptWaiting_portOnly (s : State) : s.PortOnly s.acceptWaiting := by
  cases h : s.acceptDue with
  | false => rw [s.acceptWaiting_of_not_due h]
  | true => obtain ⟨hand, hx⟩ := s.acceptWaiting_of_due h; rw [hx]; rfl

theorem State.windowShort_linksOnly (s : State) (e : Engine) : s.LinksOnly (s.windowShort e) := by
  unfold State.windowShort
  split
  · exact State.settleNotices_linksOnly s s _ (s.modLink_linksOnly e _)
  · rfl

theorem State.windowMet_linksOnly (s : State) (e : Engine) : s.LinksOnly (s.windowMet e) := by
  unfold State.windowMet
  split
  · exact State.settleNotices_linksOnly s s _ (s.modLink_linksOnly e _)
  · rfl

theorem State.windowsDue_linksOnly (s : State) : s.LinksOnly s.windowsDue :=
  (((State.windowShort_linksOnly _ .a).trans (State.windowShort_linksOnly _ .b)).trans
    (State.windowMet_linksOnly _ .a)).trans (State.windowMet_linksOnly _ .b)

/-- A grant reaches the ring, the links, the dispatcher and the counters. -/
theorem State.grantTo_eq (s : State) (e : Engine) (sh : Sheet) :
    s.grantTo e sh = { s with
      ring := mapSlots (sendSlot e sh.seq) s.ring
      linkA := (s.modLink e (Link.beginTransfer sh)).linkA
      linkB := (s.modLink e (Link.beginTransfer sh)).linkB
      dispatcher := { s.dispatcher with lastGranted := e }
      counters := (s.countReissue sh).counters } := by
  unfold State.grantTo State.countReissue
  cases e <;> split <;> rfl

theorem State.grantOnce_eq (s : State) :
    s.grantOnce = { s with
      ring := s.grantOnce.ring
      linkA := s.grantOnce.linkA
      linkB := s.grantOnce.linkB
      dispatcher := s.grantOnce.dispatcher
      counters := s.grantOnce.counters } := by
  cases h : s.grantDue with
  | false => rw [s.grantOnce_of_not_due h]
  | true => obtain ⟨e, sh, _, _, hx⟩ := s.grantOnce_of_due h; rw [hx, s.grantTo_eq]

/-! ### After the window ends none is due -/

@[simp] theorem State.settleNotices_link (s t : State) (e : Engine) : (s.settleNotices t).link e = t.link e := by
  cases e <;> rfl

theorem State.windowShort_link_other (s : State) (e : Engine) :
    (s.windowShort e).link (otherEngine e) = s.link (otherEngine e) := by
  unfold State.windowShort
  split <;> simp

theorem State.windowMet_link_other (s : State) (e : Engine) :
    (s.windowMet e).link (otherEngine e) = s.link (otherEngine e) := by
  unfold State.windowMet
  split <;> simp

theorem State.windowShort_tOver (s : State) (e : Engine) : ((s.windowShort e).link e).pace.tOver = false := by
  unfold State.windowShort
  split
  · simp [PaceMonitor.endShort, PaceMonitor.reload]
  · next h => simpa using h

theorem State.windowMet_sOver (s : State) (e : Engine) : ((s.windowMet e).link e).pace.sOver = false := by
  unfold State.windowMet
  split
  · simp [PaceMonitor.endMet, PaceMonitor.reload]
  · next h => simpa using h

theorem State.windowMet_tOver (s : State) (e : Engine) (h : (s.link e).pace.tOver = false) :
    ((s.windowMet e).link e).pace.tOver = false := by
  unfold State.windowMet
  split
  · simp [PaceMonitor.endMet, PaceMonitor.reload]
  · exact h

theorem State.windowsDue_linkA (s : State) : s.windowsDue.linkA.windowDue = false := by
  let u := (s.windowShort .a).windowShort .b
  have ht : u.linkA.pace.tOver = false := by
    rw [show u.linkA = (s.windowShort .a).linkA from State.windowShort_link_other _ .b]
    exact s.windowShort_tOver .a
  rw [show s.windowsDue.linkA = (u.windowMet .a).linkA from State.windowMet_link_other _ .b, Link.windowDue,
    Bool.or_eq_false_iff]
  exact ⟨u.windowMet_tOver .a ht, u.windowMet_sOver .a⟩

theorem State.windowsDue_linkB (s : State) : s.windowsDue.linkB.windowDue = false := by
  let u := ((s.windowShort .a).windowShort .b).windowMet .a
  have ht : u.linkB.pace.tOver = false := by
    rw [show u.linkB = ((s.windowShort .a).windowShort .b).linkB from State.windowMet_link_other _ .a]
    exact State.windowShort_tOver _ .b
  rw [Link.windowDue, Bool.or_eq_false_iff]
  exact ⟨u.windowMet_tOver .b ht, u.windowMet_sOver .b⟩

/-! ### After two grants none is due -/

theorem State.grantTo_link_self (s : State) (e : Engine) (sh : Sheet) :
    (s.grantTo e sh).link e = (s.link e).beginTransfer sh := by
  rw [s.grantTo_eq]
  cases e <;> rfl

theorem State.grantTo_link_other (s : State) (e : Engine) (sh : Sheet) :
    (s.grantTo e sh).link (otherEngine e) = s.link (otherEngine e) := by
  rw [s.grantTo_eq]
  cases e <;> rfl

/-- R142: the engine has a sheet SENDING. -/
theorem State.hasSending_iff (s : State) (e : Engine) :
    s.hasSending e = true ↔ ∃ x, some x ∈ s.ring ∧ x.phase = .sending e := by
  simp only [State.hasSending, List.any_eq_true]
  constructor
  · rintro ⟨_ | x, hx, hp⟩
    · cases hp
    · exact ⟨x, hx, by simpa using hp⟩
  · rintro ⟨x, hx, hp⟩
    exact ⟨some x, hx, by simpa using hp⟩

/-- R133: the oldest READY sheet stands READY in the ring. -/
theorem State.oldestReady_mem (s : State) (sh : Sheet) (h : s.oldestReady = some sh) :
    ∃ x, some x ∈ s.ring ∧ x.sheet = sh ∧ x.phase = .ready := by
  obtain ⟨x, hx, hs⟩ := Option.map_eq_some_iff.mp h
  obtain ⟨hm, hp, _⟩ := oldestOf_spec _ _ _ x hx
  exact ⟨x, hm, hs, by simpa using hp⟩

/-- A grant of a READY sheet leaves it SENDING. -/
theorem State.grantTo_hasSending (s : State) (e : Engine) (sh : Sheet) (h : s.oldestReady = some sh) :
    (s.grantTo e sh).hasSending e = true := by
  obtain ⟨x, hx, hs, hp⟩ := s.oldestReady_mem sh h
  rw [State.hasSending_iff, s.grantTo_eq]
  refine ⟨{ x with phase := .sending e }, (mem_mapSlots _ _ _).mpr ⟨x, hx, ?_⟩, rfl⟩
  exact if_pos ⟨congrArg Sheet.seq hs, hp⟩

/-- A grant ends no sending. -/
theorem State.hasSending_grantTo (s : State) (e x : Engine) (sh : Sheet) (h : s.hasSending x = true) :
    (s.grantTo e sh).hasSending x = true := by
  obtain ⟨o, ho, hp⟩ := (s.hasSending_iff x).mp h
  rw [State.hasSending_iff, s.grantTo_eq]
  refine ⟨o, (mem_mapSlots _ _ _).mpr ⟨o, ho, if_neg ?_⟩, hp⟩
  rintro ⟨_, hr⟩
  rw [hp] at hr
  cases hr

/-- An engine just granted a sheet is not eligible. -/
theorem State.grantTo_not_eligible (s : State) (e : Engine) (sh : Sheet) (h : s.oldestReady = some sh) :
    (s.grantTo e sh).eligible e = false := by
  simp [State.eligible, s.grantTo_hasSending e sh h]

/-- A grant makes no engine eligible. -/
theorem State.eligible_of_eligible_grantTo (s : State) (e x : Engine) (sh : Sheet)
    (h : (s.grantTo e sh).eligible x = true) : s.eligible x = true := by
  have hl : ((s.grantTo e sh).link x).state = (s.link x).state ∧
      ((s.grantTo e sh).link x).draining = (s.link x).draining ∧
      (s.link x).inFlight.length ≤ ((s.grantTo e sh).link x).inFlight.length := by
    rcases eq_or_eq_otherEngine e x with rfl | rfl
    · rw [s.grantTo_link_self]
      simp [Link.beginTransfer]
    · rw [s.grantTo_link_other]
      simp
  have ht : (s.grantTo e sh).takesSheets x = s.takesSheets x := by
    rw [s.grantTo_eq]
    rfl
  have hs := s.hasSending_grantTo e x sh
  obtain ⟨hst, hdr, hle⟩ := hl
  simp only [State.eligible, Bool.and_eq_true, decide_eq_true_eq, hst, hdr, ht] at h ⊢
  obtain ⟨⟨hr, hn⟩, hlt⟩ := h
  refine ⟨⟨hr, ?_⟩, by omega⟩
  cases hx : s.hasSending x with
  | false => rfl
  | true => simp [hs hx] at hn

/-- R144: the engine chosen is eligible. -/
theorem State.eligible_of_chosen (s : State) (e : Engine) (h : s.chosenEngine = some e) : s.eligible e = true := by
  unfold State.chosenEngine at h
  split at h
  · cases h
  · next ha _ => cases h; exact ha
  · next _ hb => cases h; exact hb
  · next ha hb => cases e <;> assumption

theorem State.grantDue_of_none_eligible (s : State) (h : ∀ e, s.eligible e = false) : s.grantDue = false := by
  simp [State.grantDue, State.chosenEngine, h]

/-- R143: an engine is granted at most one of the sheets due, and there are two engines. -/
theorem State.grantsDue_settled (s : State) : s.grantsDue.grantDue = false := by
  rw [State.grantsDue]
  cases h1 : s.grantDue with
  | false => rw [s.grantOnce_of_not_due h1, s.grantOnce_of_not_due h1, h1]
  | true =>
    cases h2 : s.grantOnce.grantDue with
    | false => rw [s.grantOnce.grantOnce_of_not_due h2, h2]
    | true =>
      obtain ⟨e, sh, _, hr, hx⟩ := s.grantOnce_of_due h1
      obtain ⟨f, sh', hc, hr', hx'⟩ := s.grantOnce.grantOnce_of_due h2
      rw [hx'] at *
      have hne : f ≠ e := by
        rintro rfl
        have hf := s.grantOnce.eligible_of_chosen f hc
        rw [hx, s.grantTo_not_eligible f sh hr] at hf
        cases hf
      apply State.grantDue_of_none_eligible
      intro x
      rcases eq_or_eq_otherEngine f x with rfl | rfl
      · exact s.grantOnce.grantTo_not_eligible x sh' hr'
      · have he : otherEngine f = e := by cases e <;> cases f <;> first | rfl | exact absurd rfl hne
        rw [Bool.eq_false_iff, he]
        intro h
        have h' := s.grantOnce.eligible_of_eligible_grantTo f e sh' h
        rw [hx, s.grantTo_not_eligible e sh hr] at h'
        cases h'

/-! ### After all that is due nothing is due -/

theorem State.takeOwed_settled (s : State) : s.takeOwed.owedDue = false := by
  cases h : s.owedDue with
  | false => rw [s.takeOwed_of_not_due h, h]
  | true => obtain ⟨m, hx⟩ := s.takeOwed_of_due h; rw [hx]; rfl

theorem State.syncCompletes_settled (s : State) : s.syncCompletes.syncDoneDue = false := by
  cases h : s.syncDoneDue with
  | false => rw [s.syncCompletes_of_not_due h, h]
  | true => obtain ⟨clamped, hx⟩ := s.syncCompletes_of_due h; rw [hx]; rfl

theorem State.syncFails_settled (s : State) (h : s.syncDoneDue = false) :
    s.syncFails.syncDoneDue = false ∧ s.syncFails.syncFailDue = false := by
  cases hd : s.syncFailDue with
  | false => rw [s.syncFails_of_not_due hd]; exact ⟨h, hd⟩
  | true => obtain ⟨clamped, hx⟩ := s.syncFails_of_due hd; rw [hx]; exact ⟨rfl, rfl⟩

theorem State.acceptWaiting_settled (s : State) (h : s.syncDoneDue = false ∧ s.syncFailDue = false) :
    s.acceptWaiting.syncDoneDue = false ∧ s.acceptWaiting.syncFailDue = false ∧ s.acceptWaiting.acceptDue = false := by
  cases hd : s.acceptDue with
  | false => rw [s.acceptWaiting_of_not_due hd]; exact ⟨h.1, h.2, hd⟩
  | true => obtain ⟨hand, hx⟩ := s.acceptWaiting_of_due hd; rw [hx]; exact ⟨rfl, rfl, rfl⟩

/-- The due steps up to the grants. -/
def State.takeInnerDue (s : State) : State := ((s.takeOwed).windowsDue).grantsDue

theorem State.takeDue_eq (s : State) : s.takeDue = s.takeInnerDue.syncCompletes.syncFails.acceptWaiting := rfl

theorem State.takeDue_portOnly (s : State) : s.takeInnerDue.PortOnly s.takeDue :=
  ((State.syncCompletes_portOnly _).trans (State.syncFails_portOnly _)).trans (State.acceptWaiting_portOnly _)

theorem State.windowsDue_owedDue (s : State) : s.windowsDue.owedDue = s.owedDue := by
  rw [s.windowsDue_linksOnly]
  rfl

theorem State.grantsDue_owedDue (s : State) : s.grantsDue.owedDue = s.owedDue := by
  rw [State.grantsDue, State.grantOnce_eq, s.grantOnce_eq]
  rfl

/-- A grant reaches no Pace Monitor. -/
theorem State.grantOnce_windowDue (s : State) (e : Engine) :
    (s.grantOnce.link e).windowDue = (s.link e).windowDue := by
  cases h : s.grantDue with
  | false => rw [s.grantOnce_of_not_due h]
  | true =>
    obtain ⟨f, sh, _, _, hx⟩ := s.grantOnce_of_due h
    rw [hx]
    rcases eq_or_eq_otherEngine f e with rfl | rfl
    · rw [s.grantTo_link_self]
      rfl
    · rw [s.grantTo_link_other]

theorem State.takeInnerDue_settled (s : State) :
    s.takeInnerDue.owedDue = false ∧ s.takeInnerDue.linkA.windowDue = false ∧
      s.takeInnerDue.linkB.windowDue = false ∧ s.takeInnerDue.grantDue = false := by
  refine ⟨?_, ?_, ?_, State.grantsDue_settled _⟩
  · rw [State.takeInnerDue, State.grantsDue_owedDue, State.windowsDue_owedDue, s.takeOwed_settled]
  · exact ((State.grantOnce_windowDue _ .a).trans (State.grantOnce_windowDue _ .a)).trans
      s.takeOwed.windowsDue_linkA
  · exact ((State.grantOnce_windowDue _ .b).trans (State.grantOnce_windowDue _ .b)).trans
      s.takeOwed.windowsDue_linkB

/-- Taking the due steps leaves none due. -/
theorem State.takeDue_quiet (s : State) : s.takeDue.quiet := by
  obtain ⟨ho, ha, hb, hg⟩ := s.takeInnerDue_settled
  have hp := s.takeDue_portOnly
  refine ⟨?_, ?_, ?_, ?_, State.acceptWaiting_settled _ (State.syncFails_settled _ (State.syncCompletes_settled _))⟩
  · rw [hp]; exact ho
  · rw [hp]; exact ha
  · rw [hp]; exact hb
  · rw [hp]; exact hg

theorem State.takeDue_takeDue (s : State) : s.takeDue.takeDue = s.takeDue := s.takeDue.takeDue_of_quiet s.takeDue_quiet

/-- Settles O2: the due steps leave a quiet state, in which taking them again changes nothing. -/
theorem dueStepsComeFirst : Obligations.DueStepsComeFirst := by
  unfold Obligations.DueStepsComeFirst
  intro s
  refine ⟨s.takeDue_quiet, s.takeDue_pending, s.takeDue_of_quiet, fun hp => by simp [step, hp], fun c hc => ?_⟩
  obtain ⟨f, hf | hf⟩ := exec_of_takesDueFirst c hc
  · rw [hf, hf, State.run, State.run, s.takeDue_takeDue]
  · rw [hf, hf, State.runNoticed, State.runNoticed, s.takeDue_takeDue]

end Sys2Proof.Machine
end

section
/-! PROOFS. The NOTICE flag of a reply: which operations leave the Line Port alone, and what each command presents. -/

namespace Sys2Proof.Machine

/-! ### Operations that leave the Line Port alone -/

theorem State.LinksOnly.lp {s t : State} (h : s.LinksOnly t) : t.lp = s.lp := by rw [h]

@[simp] theorem State.failover_lp (s : State) : s.failover.lp = s.lp := s.failover_linksOnly.lp

@[simp] theorem State.negotiationFault_lp (s : State) (e : Engine) : (s.negotiationFault e).lp = s.lp :=
  (s.negotiationFault_linksOnly e).lp

@[simp] theorem State.leaveWork_lp (s : State) (e : Engine) (target : Link → Link) :
    (s.leaveWork e target).lp = s.lp := (s.leaveWork_linksOnly e target).lp

@[simp] theorem State.takeOwed_lp (s : State) : s.takeOwed.lp = s.lp := by
  unfold State.takeOwed
  split
  · rfl
  · split <;> rfl

@[simp] theorem State.windowShort_lp (s : State) (e : Engine) : (s.windowShort e).lp = s.lp :=
  (s.windowShort_linksOnly e).lp

@[simp] theorem State.windowMet_lp (s : State) (e : Engine) : (s.windowMet e).lp = s.lp :=
  (s.windowMet_linksOnly e).lp

@[simp] theorem State.windowsDue_lp (s : State) : s.windowsDue.lp = s.lp := s.windowsDue_linksOnly.lp

@[simp] theorem State.grantOnce_lp (s : State) : s.grantOnce.lp = s.lp := by rw [s.grantOnce_eq]

@[simp] theorem State.takeInnerDue_lp (s : State) : s.takeInnerDue.lp = s.lp := by
  simp [State.takeInnerDue, State.grantsDue]

/-! #### The composer -/

theorem State.withSheet_lp (s : State) (work : State → State) (hw : ∀ u, (work u).lp = u.lp) :
    (s.withSheet work).lp = s.lp := by
  unfold State.withSheet
  split
  · exact hw s
  · split
    · exact hw s.openSheet
    · rfl

@[simp] theorem State.judgeLine_lp (s : State) (text : Text) : (s.judgeLine text).lp = s.lp := by
  unfold State.judgeLine
  simp only
  split <;> rfl

@[simp] theorem State.addOrClip_lp (s : State) (p : PlacedEntry) (v : Verdict) : (s.addOrClip p v).lp = s.lp := by
  unfold State.addOrClip
  split
  · rfl
  · split <;> rfl

@[simp] theorem State.placeJudged_lp (s : State) (p : PlacedEntry) : (s.placeJudged p).lp = s.lp :=
  s.withSheet_lp _ fun u => by simp

@[simp] theorem State.placeUnjudged_lp (s : State) (p : PlacedEntry) : (s.placeUnjudged p).lp = s.lp :=
  s.withSheet_lp _ fun u => by simp

@[simp] theorem State.closeSheet_lp (s : State) (sh : Sheet) : (s.closeSheet sh).lp = s.lp := rfl

@[simp] theorem State.flush_lp (s : State) : s.flush.lp = s.lp := by
  unfold State.flush
  split <;> rfl

@[simp] theorem State.closeColumn_lp (s : State) : s.closeColumn.lp = s.lp := by
  unfold State.closeColumn
  split <;> rfl

@[simp] theorem State.afterColumn_lp (s : State) : s.afterColumn.lp = s.lp := by
  unfold State.afterColumn
  split
  · rfl
  · split <;> rfl

@[simp] theorem State.closeForm_lp (s : State) (f : FormEndMark) : (s.closeForm f).lp = s.lp :=
  s.withSheet_lp _ fun u => by simp

@[simp] theorem State.applyPlan_lp (s : State) (p : SheetPlan) : (s.applyPlan p).lp = s.lp := s.flush_lp

/-! #### The links -/

@[simp] theorem State.returnAll_lp (s : State) (e : Engine) : (s.returnAll e).lp = s.lp := by simp [State.returnAll]

@[simp] theorem State.wakeComposer_lp (s : State) : s.wakeComposer.lp = s.lp := by
  unfold State.wakeComposer
  split <;> rfl

@[simp] theorem State.release_lp (s : State) (e : Engine) (seq : Word16) : (s.release e seq).lp = s.lp := by
  simp [State.release]

@[simp] theorem State.releaseThrough_lp (s : State) (e : Engine) (seq : Word16) :
    (s.releaseThrough e seq).lp = s.lp := by
  unfold State.releaseThrough
  generalize coveredBy (s.link e).inFlight seq = qs
  induction qs generalizing s with
  | nil => rfl
  | cons q qs ih => rw [List.foldl_cons, ih, State.release_lp]

@[simp] theorem State.releaseCovered_lp (s : State) (e : Engine) (last : Option Word16) :
    (s.releaseCovered e last).lp = s.lp := by
  unfold State.releaseCovered
  split
  · rfl
  · split <;> simp

@[simp] theorem State.afterRelease_lp (s : State) (e : Engine) : (s.afterRelease e).lp = s.lp := by
  unfold State.afterRelease
  split <;> simp

@[simp] theorem State.countOffer_lp (s : State) (e : Engine) (modes : ModeSet) : (s.countOffer e modes).lp = s.lp := by
  unfold State.countOffer
  simp only
  split
  · simp
  · split <;> simp

@[simp] theorem State.restartOffering_lp (s : State) (e : Engine) (modes : ModeSet) :
    (s.restartOffering e modes).lp = s.lp := s.modLink_lp e _

@[simp] theorem State.acknowledged_lp (s : State) (e : Engine) : (s.acknowledged e).lp = s.lp := s.modLink_lp e _

@[simp] theorem State.offerFrame_lp (s : State) (e : Engine) (modes : ModeSet) (ack : Bool) :
    (s.offerFrame e modes ack).lp = s.lp := by
  unfold State.offerFrame
  simp only
  split <;> simp [apply_ite State.lp]

@[simp] theorem State.idleFrame_lp (s : State) (e : Engine) : (s.idleFrame e).lp = s.lp := by
  unfold State.idleFrame
  split <;> simp

@[simp] theorem State.sheetTaken_lp (s : State) (e : Engine) (seq : Word16) : (s.sheetTaken e seq).lp = s.lp := by
  simp [State.sheetTaken]

@[simp] theorem State.takenFrame_lp (s : State) (e : Engine) (seq : Word16) : (s.takenFrame e seq).lp = s.lp := by
  simp [State.takenFrame, apply_ite State.lp]

@[simp] theorem State.stackedFrame_lp (s : State) (e : Engine) (seq : Word16) : (s.stackedFrame e seq).lp = s.lp := by
  simp [State.stackedFrame, apply_ite State.lp]

@[simp] theorem State.stopFrame_lp (s : State) (e : Engine) (cause : StopCause) : (s.stopFrame e cause).lp = s.lp := by
  unfold State.stopFrame
  simp only
  split <;> simp

@[simp] theorem State.jamFrame_lp (s : State) (e : Engine) (last : Option Word16) : (s.jamFrame e last).lp = s.lp := by
  unfold State.jamFrame
  simp only
  split <;> simp

@[simp] theorem State.readyFrame_lp (s : State) (e : Engine) : (s.readyFrame e).lp = s.lp := by
  unfold State.readyFrame
  split <;> simp

@[simp] theorem State.sendSheetEnd_lp (s : State) (e : Engine) : (s.sendSheetEnd e).lp = s.lp := by
  unfold State.sendSheetEnd
  split <;> simp

/-! #### The timers -/

@[simp] theorem State.repeatOffer_lp (s : State) (e : Engine) : (s.repeatOffer e).lp = s.lp := by
  unfold State.repeatOffer
  split <;> simp

@[simp] theorem State.plainDetection_lp (s : State) (e : Engine) : (s.plainDetection e).lp = s.lp := by
  unfold State.plainDetection
  split <;> simp

@[simp] theorem State.offerWindowEnds_lp (s : State) (e : Engine) : (s.offerWindowEnds e).lp = s.lp := by
  simp [State.offerWindowEnds, apply_ite State.lp]

@[simp] theorem State.ackWindowEnds_lp (s : State) (e : Engine) : (s.ackWindowEnds e).lp = s.lp := by
  unfold State.ackWindowEnds
  split <;> simp

@[simp] theorem State.settleEnds_lp (s : State) (e : Engine) : (s.settleEnds e).lp = s.lp := by
  unfold State.settleEnds
  split <;> simp

@[simp] theorem State.linkLost_lp (s : State) (e : Engine) : (s.linkLost e).lp = s.lp := by
  simp [State.linkLost, apply_ite State.lp]

@[simp] theorem State.breakEnds_lp (s : State) (e : Engine) : (s.breakEnds e).lp = s.lp := by
  unfold State.breakEnds
  split <;> simp

@[simp] theorem State.timedOut_lp (s : State) (e : Engine) : (s.timedOut e).lp = s.lp := by simp [State.timedOut]

/-! ### What a command presents -/

/-- Whatever reply `t` presents, `s` presented already. -/
abbrev State.PresentsNothing (s t : State) : Prop := ∀ r, t.lp.port = .replying r → s.lp.port = .replying r

/-- A reply that `t` presents and `s` did not has the NOTICE flag of `t`. -/
abbrev State.PresentsTruly (s t : State) : Prop :=
  ∀ r, t.lp.port = .replying r → s.lp.port ≠ .replying r → r.notice = t.noticeFlag

theorem State.PresentsNothing.of_lp {s t : State} (h : t.lp = s.lp) : s.PresentsNothing t := fun r hr => by
  rwa [h] at hr

theorem State.PresentsNothing.truly {s t : State} (h : s.PresentsNothing t) : s.PresentsTruly t :=
  fun r hr hn => absurd (h r hr) hn

/-- Settling the notices presents nothing. -/
theorem State.PresentsNothing.settled {s t : State} (h : s.PresentsNothing t) (b : State) :
    s.PresentsNothing (b.settleNotices t) := h

theorem State.PresentsTruly.of_lp {s t : State} (h : t.lp = s.lp) : s.PresentsTruly t :=
  (State.PresentsNothing.of_lp h).truly

theorem State.PresentsTruly.of_port_ne {s t : State} (h : ∀ r, t.lp.port ≠ .replying r) : s.PresentsTruly t :=
  fun r hr _ => absurd hr (h r)

/-- R13: a reply presented last has the flag of the moment. -/
theorem State.present_presentsTruly (s u : State) (k : ReplyKind) (f c : Bool) : s.PresentsTruly (u.present k f c) := by
  rintro r hr -
  cases hr
  rfl

theorem State.refuse_presentsTruly (s : State) (h : Hand) (kind : CheckKind) (position : Option Nat) (detail : Nat) :
    s.PresentsTruly (s.refuse h kind position detail) := by
  rintro r hr -
  rw [s.refuse_port] at hr
  cases hr
  rfl

/-! #### The due steps -/

theorem State.syncCompletes_presentsTruly (s : State) : s.PresentsTruly s.syncCompletes := by
  cases h : s.syncDoneDue with
  | false => exact .of_lp (by rw [s.syncCompletes_of_not_due h])
  | true => obtain ⟨clamped, hx⟩ := s.syncCompletes_of_due h; rw [hx]; exact s.present_presentsTruly s _ _ _

theorem State.syncFails_presentsTruly (s : State) : s.PresentsTruly s.syncFails := by
  cases h : s.syncFailDue with
  | false => exact .of_lp (by rw [s.syncFails_of_not_due h])
  | true => obtain ⟨clamped, hx⟩ := s.syncFails_of_due h; rw [hx]; exact s.refuse_presentsTruly _ _ _ _

theorem State.acceptWaiting_presentsNothing (s : State) : s.PresentsNothing s.acceptWaiting := by
  cases h : s.acceptDue with
  | false => exact .of_lp (by rw [s.acceptWaiting_of_not_due h])
  | true => obtain ⟨hand, hx⟩ := s.acceptWaiting_of_due h; rw [hx]; intro r hr; cases hr

/-- Steps that reach the Line Port and the counters alone keep the flag. -/
theorem State.PortOnly.noticeFlag {s t : State} (h : s.PortOnly t) : t.noticeFlag = s.noticeFlag := by
  rw [h]
  rfl

/-- One such step after another presents truly, when each does. -/
theorem State.PresentsTruly.trans_portOnly {s t u : State} (h : s.PresentsTruly t) (k : t.PresentsTruly u)
    (hu : t.PortOnly u) : s.PresentsTruly u := by
  intro r hr hn
  by_cases ht : t.lp.port = .replying r
  · rw [hu.noticeFlag]
    exact h r ht hn
  · exact k r hr ht

/-- The replies that the due steps present have the flag of the state after all of them. -/
theorem State.takeDue_presentsTruly (s : State) : s.PresentsTruly s.takeDue := by
  rw [s.takeDue_eq]
  have h0 : s.PresentsTruly s.takeInnerDue := .of_lp s.takeInnerDue_lp
  have h1 := h0.trans_portOnly (State.syncCompletes_presentsTruly _) (State.syncCompletes_portOnly _)
  have h2 := h1.trans_portOnly (State.syncFails_presentsTruly _) (State.syncFails_portOnly _)
  exact h2.trans_portOnly (State.acceptWaiting_presentsNothing _).truly (State.acceptWaiting_portOnly _)

/-- Each due step on its own, and hardware reset, presents truly. -/
theorem exec_presentsTruly_of_not_takesDueFirst (c : Instr) (s t : State) (hc : takesDueFirst c = false)
    (hx : exec c s = .next t) : s.PresentsTruly t := by
  cases c with
  | orderAccept =>
    cases hx
    have h0 : s.PresentsTruly s.takeOwed := .of_lp s.takeOwed_lp
    exact h0.trans_portOnly (State.acceptWaiting_presentsNothing _).truly (State.acceptWaiting_portOnly _)
  | syncDone => cases hx; exact s.syncCompletes_presentsTruly
  | engineStopped => cases hx; exact s.syncFails_presentsTruly
  | hardwareReset straps => cases hx; exact .of_port_ne fun r hr => by cases hr
  | owedFormEnd => cases hx; exact .of_lp s.takeOwed_lp
  | grant => cases hx; exact .of_lp (by simp)
  | windowShort e => cases hx; exact .of_lp (s.windowShort_lp e)
  | windowMet e => cases hx; exact .of_lp (s.windowMet_lp e)
  | stop e cause =>
    rw [show exec (.stop e cause) s = .refused .noSuchFrame from if_neg (by simpa [takesDueFirst] using hc)] at hx
    cases hx
  | _ => cases hc

/-! #### The signals -/

theorem State.takeOrderByte_presentsTruly (s : State) (d : Byte) (p : Bool) : s.PresentsTruly (s.takeOrderByte d p) := by
  unfold State.takeOrderByte
  split
  · exact .of_port_ne fun r hr => by cases hr
  · split
    · exact .of_port_ne fun r hr => by cases hr
    · split
      · exact s.present_presentsTruly _ _ _ _
      · split <;> exact .of_port_ne fun r hr => by cases hr

theorem State.orderByteStrobed_presentsTruly (s : State) (select : Bool) (unit : BitVec 4) (d : Byte) (p : Bool) :
    s.PresentsTruly (s.orderByteStrobed select unit d p) := by
  by_cases hi : select = false ∨ unit ≠ s.lp.unit ∨ s.lp.port ≠ .idle
  · exact .of_lp (by rw [s.orderByteStrobed_of_ignored select unit d p hi])
  · simp only [not_or, Bool.not_eq_false, not_not] at hi
    obtain ⟨hs, hu, hp⟩ := hi
    have hx : s.orderByteStrobed select unit d p = s.takeOrderByte d p := by simp [State.orderByteStrobed, hs, hu, hp]
    rw [hx]
    exact s.takeOrderByte_presentsTruly d p

theorem State.dataByteStrobed_presentsTruly (s : State) (d : Byte) (p : Bool) :
    s.PresentsTruly (s.dataByteStrobed d p) := by
  unfold State.dataByteStrobed
  split
  · split <;> exact .of_port_ne fun r hr => by cases hr
  all_goals exact .of_lp rfl

theorem State.replyTakenSignal_presentsTruly (s : State) : s.PresentsTruly s.replyTakenSignal := by
  unfold State.replyTakenSignal
  split
  · exact .of_port_ne fun r hr => by cases hr
  · exact s.present_presentsTruly s _ _ _
  · exact s.present_presentsTruly s _ _ _
  · exact .of_port_ne fun r hr => by cases hr
  all_goals exact .of_lp rfl

/-! #### END -/

theorem State.atEnd_presentsTruly (s : State) (mine : Hand → Bool) (act : Hand → State → State)
    (ha : ∀ h, s.PresentsTruly (act h s)) : s.PresentsTruly (s.atEnd mine act) := by
  unfold State.atEnd
  split
  · split
    · exact ha _
    · exact .of_lp rfl
  all_goals exact .of_lp rfl

theorem State.judge_presentsTruly (s : State) (h : Hand) (own : State → State) (ho : s.PresentsTruly (own s)) :
    s.PresentsTruly (s.judge h own) := by
  unfold State.judge
  split
  · exact s.refuse_presentsTruly _ _ _ _
  · split
    · exact s.refuse_presentsTruly _ _ _ _
    · exact ho

/-- END of an order presents truly when the order's own work does. -/
theorem State.endRow_presentsTruly (s : State) (mine : Hand → Bool) (own : Hand → State → State)
    (ho : ∀ h, s.PresentsTruly (own h s)) : s.PresentsTruly (s.atEnd mine fun h t => t.judge h (own h)) :=
  s.atEnd_presentsTruly mine _ fun h => s.judge_presentsTruly h (own h) (ho h)

theorem State.endPrint_presentsTruly (s : State) (h : Hand) : s.PresentsTruly (s.endPrint h) := by
  unfold State.endPrint
  split
  · exact s.refuse_presentsTruly _ _ _ _
  · split
    · exact s.refuse_presentsTruly _ _ _ _
    · exact s.present_presentsTruly _ _ _ _

theorem State.endMove_presentsTruly (s : State) (h : Hand) : s.PresentsTruly (s.endMove h) := by
  unfold State.endMove
  split
  · exact s.refuse_presentsTruly _ _ _ _
  · exact s.present_presentsTruly _ _ _ _

theorem State.endSync_presentsTruly (s : State) (h : Hand) : s.PresentsTruly (s.endSync h) :=
  .of_port_ne fun r hr => by cases hr

theorem State.endTable_presentsTruly (s : State) (h : Hand) (fault : List Byte → Option (Nat × Nat))
    (carry : List Byte → State → State) (hc : ∀ body, s.PresentsTruly (carry body s)) :
    s.PresentsTruly (s.endTable h fault carry) := by
  unfold State.endTable
  split
  · exact s.refuse_presentsTruly _ _ _ _
  · split
    · exact s.refuse_presentsTruly _ _ _ _
    · exact hc _

/-- R190: a front table is applied before its reply is presented. -/
theorem State.frontRow_presentsTruly (s : State) (kind : Nat) (fault : List Byte → Option (Nat × Nat))
    (apply : List Byte → State → State) : s.PresentsTruly (s.tableRow kind fault (applyFront apply)) :=
  s.endRow_presentsTruly _ _ fun h => s.endTable_presentsTruly h fault _ fun _ =>
    s.present_presentsTruly _ _ _ _

theorem State.streamRow_presentsTruly (s : State) (kind : Nat) (fault : List Byte → Option (Nat × Nat))
    (read : List Byte → StreamTable) : s.PresentsTruly (s.tableRow kind fault (queueStream read)) :=
  s.endRow_presentsTruly _ _ fun h => s.endTable_presentsTruly h fault _ fun _ =>
    s.present_presentsTruly _ _ _ _

theorem State.endQuery_presentsTruly (s : State) (h : Hand) (answer : State → State)
    (ha : s.PresentsTruly (answer s)) : s.PresentsTruly (s.endQuery h answer) := by
  unfold State.endQuery
  split
  · exact s.refuse_presentsTruly _ _ _ _
  · exact ha

/-- R12: a QUERY presents its bytes before its reply. -/
theorem State.queryRow_presentsTruly (s : State) (sel : Nat) (read : State → State) (bytes : Hand → State → List Byte) :
    s.PresentsTruly (s.queryRow sel fun h t => (read t).respond h (bytes h t)) :=
  s.endRow_presentsTruly _ _ fun h => s.endQuery_presentsTruly h _ (.of_port_ne fun r hr => by cases hr)

/-! #### The composer's steps -/

theorem State.atHead_lp (s : State) (work : Entry → State → State) (hw : ∀ x s, (work x s).lp = s.lp) :
    (s.atHead work).lp = s.lp := by
  unfold State.atHead
  split
  · rfl
  · exact hw _ s

theorem State.atHead_presentsNothing (s : State) (work : Entry → State → State)
    (hw : ∀ x, s.PresentsNothing (work x s)) : s.PresentsNothing (s.atHead work) := by
  unfold State.atHead
  split
  · exact .of_lp rfl
  · exact hw _

theorem workPlacedLine_lp (x : Entry) (s : State) : (workPlacedLine x s).lp = s.lp := by
  unfold workPlacedLine
  split <;> first | rfl | (split <;> simp)

theorem workMerge_lp (x : Entry) (s : State) : (workMerge x s).lp = s.lp := by
  unfold workMerge
  split <;> first | rfl | (split <;> rfl)

theorem workOwnLine_lp (x : Entry) (s : State) : (workOwnLine x s).lp = s.lp := by
  unfold workOwnLine
  split <;> first | rfl | (split <;> simp)

theorem workFormEnd_lp (x : Entry) (s : State) : (workFormEnd x s).lp = s.lp := by
  unfold workFormEnd
  split <;> simp

theorem workSheetPlan_lp (x : Entry) (s : State) : (workSheetPlan x s).lp = s.lp := by
  unfold workSheetPlan
  split <;> simp

theorem workCollation_lp (x : Entry) (s : State) : (workCollation x s).lp = s.lp := by
  unfold workCollation
  split <;> rfl

theorem workFieldLayout_lp (x : Entry) (s : State) : (workFieldLayout x s).lp = s.lp := by
  unfold workFieldLayout
  split <;> rfl

theorem workKeyReset_lp (x : Entry) (s : State) : (workKeyReset x s).lp = s.lp := by
  unfold workKeyReset
  split <;> rfl

/-- R16: the Line Port makes a ring watch of a marker, and no reply. -/
theorem State.markerTaken_presentsNothing (s : State) : s.PresentsNothing s.markerTaken := by
  unfold State.markerTaken
  split
  · split
    · exact .of_lp rfl
    · intro r hr; cases hr
  all_goals exact .of_lp rfl

theorem workSyncMarker_presentsNothing (x : Entry) (s : State) : s.PresentsNothing (workSyncMarker x s) := by
  unfold workSyncMarker
  split
  · intro r hr
    have h := State.markerTaken_presentsNothing _ r hr
    simpa using h
  all_goals exact .of_lp rfl

/-! #### Every command -/

/-- A command run after the due steps either settles no notice and presents truly, or presents nothing. -/
theorem exec_presents (c : Instr) (hc : takesDueFirst c = true) (hr : c ≠ .tableReset) :
    (∃ f : State → State, (∀ s, exec c s = s.run f) ∧ ∀ s : State, s.PresentsTruly (f s)) ∨
      ∃ f : State → State, (∀ s, exec c s = s.runNoticed f) ∧ ∀ s : State, s.PresentsNothing (f s) := by
  cases c
  case stop e cause =>
    exact .inr ⟨fun q => (q.stopFrame e cause).failover, fun s => if_pos hc, fun s => .of_lp (by simp)⟩
  all_goals dsimp only [exec]
  case orderByte a u d p => exact .inl ⟨_, fun _ => rfl, fun s => s.orderByteStrobed_presentsTruly a u d p⟩
  case dataByte d p => exact .inl ⟨_, fun _ => rfl, fun s => s.dataByteStrobed_presentsTruly d p⟩
  case replyTaken => exact .inl ⟨_, fun _ => rfl, State.replyTakenSignal_presentsTruly⟩
  case clear => exact .inl ⟨_, fun _ => rfl, fun s => .of_port_ne fun r hr => by cases hr⟩
  case lineReset => exact .inl ⟨_, fun _ => rfl, fun s => .of_port_ne fun r hr => by cases hr⟩
  case unknownOrder => exact .inl ⟨_, fun _ => rfl, fun s => s.endRow_presentsTruly _ _ fun h => .of_lp rfl⟩
  case print => exact .inl ⟨_, fun _ => rfl, fun s => s.endRow_presentsTruly _ _ s.endPrint_presentsTruly⟩
  case move => exact .inl ⟨_, fun _ => rfl, fun s => s.endRow_presentsTruly _ _ s.endMove_presentsTruly⟩
  case sync => exact .inl ⟨_, fun _ => rfl, fun s => s.endRow_presentsTruly _ _ s.endSync_presentsTruly⟩
  case tableCharacterMap => exact .inl ⟨_, fun _ => rfl, fun s => s.frontRow_presentsTruly _ _ _⟩
  case tableForms => exact .inl ⟨_, fun _ => rfl, fun s => s.frontRow_presentsTruly _ _ _⟩
  case tableCollation => exact .inl ⟨_, fun _ => rfl, fun s => s.streamRow_presentsTruly _ _ _⟩
  case tableFieldLayout => exact .inl ⟨_, fun _ => rfl, fun s => s.streamRow_presentsTruly _ _ _⟩
  case tableKeyReset => exact .inl ⟨_, fun _ => rfl, fun s => s.streamRow_presentsTruly _ _ _⟩
  case tableSheetPlan => exact .inl ⟨_, fun _ => rfl, fun s => s.streamRow_presentsTruly _ _ _⟩
  case tableLinkSettings => exact .inl ⟨_, fun _ => rfl, fun s => s.frontRow_presentsTruly _ _ _⟩
  case tableNoticeControl => exact .inl ⟨_, fun _ => rfl, fun s => s.frontRow_presentsTruly _ _ _⟩
  case tableNoticeClear => exact .inl ⟨_, fun _ => rfl, fun s => s.frontRow_presentsTruly _ _ _⟩
  case tableUnit => exact .inl ⟨_, fun _ => rfl, fun s => s.frontRow_presentsTruly _ _ _⟩
  case tableCounterClear => exact .inl ⟨_, fun _ => rfl, fun s => s.frontRow_presentsTruly _ _ _⟩
  case tableReset => exact absurd rfl hr
  case tableKindUnknown => exact .inl ⟨_, fun _ => rfl, fun s => s.endRow_presentsTruly _ _ fun h =>
    s.endTable_presentsTruly h _ _ fun _ => .of_lp rfl⟩
  case queryCondition => exact .inl ⟨_, fun _ => rfl, fun s => s.queryRow_presentsTruly _ id _⟩
  case queryCheck => exact .inl ⟨_, fun _ => rfl, fun s => s.queryRow_presentsTruly _ id _⟩
  case queryNotices => exact .inl ⟨_, fun _ => rfl, fun s => s.queryRow_presentsTruly _ State.noticesRead _⟩
  case queryCounters => exact .inl ⟨_, fun _ => rfl, fun s => s.queryRow_presentsTruly _ id _⟩
  case queryTable => exact .inl ⟨_, fun _ => rfl, fun s => s.queryRow_presentsTruly _ id _⟩
  case queryEngine => exact .inl ⟨_, fun _ => rfl, fun s => s.queryRow_presentsTruly _ id _⟩
  case queryRing => exact .inl ⟨_, fun _ => rfl, fun s => s.queryRow_presentsTruly _ id _⟩
  case selectorNamingNothing => exact .inl ⟨_, fun _ => rfl, fun s => s.endRow_presentsTruly _ _ fun h =>
    s.endQuery_presentsTruly h _ (.of_lp rfl)⟩
  case placedLine => exact .inr ⟨_, fun _ => rfl, fun s => .of_lp (s.atHead_lp _ workPlacedLine_lp)⟩
  case overstrikeMerge => exact .inr ⟨_, fun _ => rfl, fun s => .of_lp (s.atHead_lp _ workMerge_lp)⟩
  case lineOfItsOwn => exact .inr ⟨_, fun _ => rfl, fun s => .of_lp (s.atHead_lp _ workOwnLine_lp)⟩
  case formEnd => exact .inr ⟨_, fun _ => rfl, fun s => .of_lp (s.atHead_lp _ workFormEnd_lp)⟩
  case syncMarker => exact .inr ⟨_, fun _ => rfl, fun s =>
    s.atHead_presentsNothing _ fun x => workSyncMarker_presentsNothing x s⟩
  case sheetPlanEntry => exact .inr ⟨_, fun _ => rfl, fun s => .of_lp (s.atHead_lp _ workSheetPlan_lp)⟩
  case collationEntry => exact .inl ⟨_, fun _ => rfl, fun s => .of_lp (s.atHead_lp _ workCollation_lp)⟩
  case fieldLayoutEntry => exact .inl ⟨_, fun _ => rfl, fun s => .of_lp (s.atHead_lp _ workFieldLayout_lp)⟩
  case keyResetEntry => exact .inl ⟨_, fun _ => rfl, fun s => .of_lp (s.atHead_lp _ workKeyReset_lp)⟩
  case sheetEnd e => exact .inl ⟨_, fun _ => rfl, fun s => .of_lp (s.sendSheetEnd_lp e)⟩
  case idle e => exact .inl ⟨_, fun _ => rfl, fun s => .of_lp (s.idleFrame_lp e)⟩
  case taken e q => exact .inl ⟨_, fun _ => rfl, fun s => .of_lp (s.takenFrame_lp e q)⟩
  case offerRepeat e => exact .inl ⟨_, fun _ => rfl, fun s => .of_lp (s.repeatOffer_lp e)⟩
  case tick => exact .inl ⟨_, fun _ => rfl, fun s => .of_lp rfl⟩
  case burstTimer => exact .inl ⟨_, fun _ => rfl, fun s => .of_lp rfl⟩
  case callPattern => exact .inl ⟨_, fun _ => rfl, fun s => .of_lp rfl⟩
  case offer e m a => exact .inr ⟨_, fun _ => rfl, fun s => .of_lp (by simp)⟩
  case stacked e q => exact .inr ⟨_, fun _ => rfl, fun s => .of_lp (by simp)⟩
  case jam e q => exact .inr ⟨_, fun _ => rfl, fun s => .of_lp (by simp)⟩
  case ready e => exact .inr ⟨_, fun _ => rfl, fun s => .of_lp (by simp)⟩
  case offerWindow e => exact .inr ⟨_, fun _ => rfl, fun s => .of_lp (by simp)⟩
  case acknowledgementWindow e => exact .inr ⟨_, fun _ => rfl, fun s => .of_lp (by simp)⟩
  case settleTimer e => exact .inr ⟨_, fun _ => rfl, fun s => .of_lp (by simp)⟩
  case silenceTimer e => exact .inr ⟨_, fun _ => rfl, fun s => .of_lp (by simp)⟩
  case breakEnd e => exact .inr ⟨_, fun _ => rfl, fun s => .of_lp (by simp)⟩
  case takenTimeout e => exact .inr ⟨_, fun _ => rfl, fun s => .of_lp (by split <;> simp)⟩
  case stackedTimeout e q => exact .inr ⟨_, fun _ => rfl, fun s => .of_lp (by split <;> simp)⟩
  all_goals cases hc

theorem exec_presentsTruly (c : Instr) (s t : State) (hq : s.quiet ∨ takesDueFirst c = false) (hr : c ≠ .tableReset)
    (hx : exec c s = .next t) : s.PresentsTruly t := by
  cases hc : takesDueFirst c with
  | false => exact exec_presentsTruly_of_not_takesDueFirst c s t hc hx
  | true =>
    have hq : s.quiet := hq.resolve_right (by simp [hc])
    rcases exec_presents c hc hr with ⟨f, hf, hp⟩ | ⟨f, hf, hp⟩
    · rw [hf, s.run_of_quiet f hq] at hx
      cases hx
      exact hp s
    · rw [hf, s.runNoticed_of_quiet f hq] at hx
      cases hx
      exact ((hp s).settled s).truly

/-- Settles O52: a reply newly presented has the flag of the Notice Unit, which tells of live sources. -/
theorem noticeFlagTellsOfLiveSources : Obligations.NoticeFlagTellsOfLiveSources := by
  unfold Obligations.NoticeFlagTellsOfLiveSources
  refine ⟨fun s r hr hn => ?_, fun c s t r hq hc hx hr hn => ?_⟩
  · rw [s.takeDue_presentsTruly r hr hn, State.noticeFlag_iff]
  · rw [exec_presentsTruly c s t hq hc hx r hr hn, State.noticeFlag_iff]

end Sys2Proof.Machine
end

section
/-! PROOFS. The framing tests, the selector tests and the tables of range tests, FORMS apart. -/

namespace Sys2Proof.Machine

/-! ### Framing (R11, R189) -/

theorem framingFault_of_short (kept : List Byte) (h : kept.length < 3) : framingFault kept = some (none, 0) := by
  match kept with
  | [] => rfl
  | [_] => rfl
  | [_, _] => rfl
  | _ :: _ :: _ :: _ => simp at h; omega

theorem kindNamed_iff (k : Byte) : kindNamed k = true ↔ 1 ≤ k.toNat ∧ k.toNat ≤ 12 := by simp [kindNamed]

theorem framingFault_of_unnamed (k hi lo : Byte) (body : List Byte) (h : k = 0 ∨ 13 ≤ k.toNat) :
    framingFault (k :: hi :: lo :: body) = some (some 1, k.toNat) := by
  have hk : kindNamed k = false := by
    rw [Bool.eq_false_iff, Ne, kindNamed_iff]
    rcases h with rfl | h
    · simp
    · omega
  simp [framingFault, hk]

/-- The two length tests of a record of a kind named. -/
theorem framingFault_of_named (k hi lo : Byte) (body : List Byte) (h1 : 1 ≤ k.toNat) (h12 : k.toNat ≤ 12) :
    framingFault (k :: hi :: lo :: body) =
      if body.length ≠ hi.toNat * 256 + lo.toNat then some (some 2, min 255 body.length)
      else if bodyLengthGood k body.length = false then some (some 2, k.toNat) else none := by
  simp [framingFault, (kindNamed_iff k).mpr ⟨h1, h12⟩, held255]

/-- R189: the body lengths of the twelve kinds. -/
theorem bodyLengthGood_iff (k : Byte) (n : Nat) : bodyLengthGood k n = true ↔
    (k, n) ∈ ([(1, 258), (3, 240), (4, 5), (5, 0), (6, 23), (7, 11), (8, 3), (9, 2), (10, 1), (11, 2), (12, 0)] :
      List (Byte × Nat)) ∨ k = 2 ∧ 5 ≤ n ∧ n ≤ 67 ∧ n % 2 = 1 := by
  simp only [bodyLengthGood, List.mem_cons, Prod.mk.injEq, List.not_mem_nil, or_false, ← BitVec.toNat_inj]
  simp only [BitVec.ofNat_eq_ofNat, BitVec.toNat_ofNat, Nat.reducePow, Nat.reduceMod]
  generalize k.toNat = v
  split <;> simp_all [and_assoc]

/-! ### Selectors (R12, R193) -/

theorem selectorFault_of_unnamed (b : Byte) (rest : List Byte) (h : b = 0 ∨ 8 ≤ b.toNat) :
    selectorFault (b :: rest) = some (some 1, b.toNat) := by
  have hv : b.toNat = 0 ∨ 8 ≤ b.toNat := h.imp_left fun h => by simp [h]
  simp only [selectorFault]
  split <;> first | rfl | (exfalso; omega)

theorem selectorFault_of_alone (b : Byte) (rest : List Byte) (h : b ∈ ([1, 2, 3, 4, 7] : List Byte)) :
    selectorFault (b :: rest) = none := by
  simp only [List.mem_cons, List.not_mem_nil, or_false] at h
  rcases h with rfl | rfl | rfl | rfl | rfl <;> rfl

theorem tableSelectorGood_iff (x : Byte) :
    tableSelectorGood x = true ↔ 1 ≤ x.toNat ∧ x.toNat ≤ 8 ∨ x = 10 := by
  simp [tableSelectorGood, ← BitVec.toNat_inj]

theorem selectorFault_of_second (b : Byte) (h : b = 5 ∨ b = 6) (x : Byte) (more : List Byte) :
    selectorFault (b :: x :: more) =
      if b = 5 ∧ (1 ≤ x.toNat ∧ x.toNat ≤ 8 ∨ x = 10) ∨ b = 6 ∧ x.toNat ≤ 1 then none else some (some 2, x.toNat) := by
  rcases h with rfl | rfl
  · rw [show selectorFault (5 :: x :: more) = if tableSelectorGood x then none else some (some 2, x.toNat) from rfl]
    simp [tableSelectorGood_iff]
  · rw [show selectorFault (6 :: x :: more) = if x.toNat ≤ 1 then none else some (some 2, x.toNat) from rfl]
    simp

/-! ### The first test that fails -/

/-- One row of a table of tests: when its condition is `c`, it decides before the rows after it. -/
theorem firstFault_cons {b : Bool} {p d : Nat} {ts : List RangeTest} {c : Prop} [Decidable c] {r : Option (Nat × Nat)}
    (hb : b = true ↔ c) (hr : ¬c → firstFault ts = r) :
    firstFault (⟨b, p, d⟩ :: ts) = if c then some (p, d) else r := by
  by_cases h : c
  · simp [firstFault, hb.mpr h, h]
  · have hf : b = false := by rw [Bool.eq_false_iff, Ne, hb]; exact h
    rw [if_neg h, ← hr h]
    simp [firstFault, hf]

/-- A row that fails decides. -/
theorem firstFault_cons_fails {t : RangeTest} {ts : List RangeTest} (h : t.fails = true) :
    firstFault (t :: ts) = some (t.position, t.detail) := by
  simp [firstFault, h]

/-- A row that passes leaves the decision to the rows after it. -/
theorem firstFault_cons_passes {t : RangeTest} {ts : List RangeTest} (h : t.fails = false) :
    firstFault (t :: ts) = firstFault ts := by
  simp [firstFault, h]

theorem firstFault_append (ts us : List RangeTest) : firstFault (ts ++ us) = (firstFault ts).or (firstFault us) := by
  simp only [firstFault, List.find?_append]
  cases ts.find? fun t => t.fails <;> rfl

/-- Rows numbered from 0: the first number whose row fails decides. -/
theorem firstFault_range_some (n : Nat) (f : Nat → RangeTest) (g : Nat) (hg : g < n) (hf : (f g).fails = true)
    (hb : ∀ j, j < g → (f j).fails = false) :
    firstFault ((List.range n).map f) = some ((f g).position, (f g).detail) := by
  have h : (List.range n).find? ((fun t => t.fails) ∘ f) = some g :=
    List.find?_range_eq_some.mpr ⟨hf, List.mem_range.mpr hg, fun j hj => by simp [hb j hj]⟩
  rw [firstFault, List.find?_map, h]
  rfl

/-- Rows numbered from 0 that all pass. -/
theorem firstFault_range_none (n : Nat) (f : Nat → RangeTest) (h : ∀ g, g < n → (f g).fails = false) :
    firstFault ((List.range n).map f) = none := by
  have h' : (List.range n).find? ((fun t => t.fails) ∘ f) = none :=
    List.find?_range_eq_none.mpr fun j hj => by simp [h j hj]
  rw [firstFault, List.find?_map, h']
  rfl

theorem outside_iff (lo hi n : Nat) : outside lo hi n = true ↔ n < lo ∨ hi < n := by simp [outside]

/-! ### The range tests of the short tables -/

theorem unitFault_eq (body : List Byte) :
    unitFault body = if 15 < byteAt body 0 then some (4, byteAt body 0) else none :=
  firstFault_cons decide_eq_true_iff fun _ => rfl

theorem noticeClearFault_eq (body : List Byte) :
    noticeClearFault body = if 1023 < wordAt body 0 then some (4, min 255 (wordAt body 0 / 100)) else none :=
  firstFault_cons decide_eq_true_iff fun _ => rfl

theorem noticeControlFault_eq (body : List Byte) :
    noticeControlFault body =
      if 1023 < wordAt body 0 then some (4, min 255 (wordAt body 0 / 100))
      else if 1 < byteAt body 2 then some (6, byteAt body 2) else none :=
  firstFault_cons decide_eq_true_iff fun _ => firstFault_cons decide_eq_true_iff fun _ => rfl

theorem collationFault_some (body : List Byte) (g : Nat) (hg : g < 240) (hb : 251 ≤ byteAt body g)
    (hj : ∀ j, j < g → byteAt body j ≤ 250) : collationFault body = some (4 + g, g) :=
  firstFault_range_some 240 _ g hg (decide_eq_true hb) fun j h => decide_eq_false (by have := hj j h; omega)

theorem collationFault_none (body : List Byte) (h : ∀ g, g < 240 → byteAt body g ≤ 250) : collationFault body = none :=
  firstFault_range_none 240 _ fun g hg => decide_eq_false (by have := h g hg; omega)

theorem charMapFault_action (body : List Byte) (h : 2 < byteAt body 0) :
    charMapFault body = some (4, byteAt body 0) :=
  firstFault_cons_fails (decide_eq_true h)

theorem charMapFault_substitute (body : List Byte) (h0 : byteAt body 0 ≤ 2) (h : 239 < byteAt body 1) :
    charMapFault body = some (5, byteAt body 1) :=
  (firstFault_cons_passes (decide_eq_false (by omega))).trans (firstFault_cons_fails (decide_eq_true h))

/-- R44: with a good header the entries decide. -/
theorem charMapFault_entries (body : List Byte) (h0 : byteAt body 0 ≤ 2) (h1 : byteAt body 1 ≤ 239) :
    charMapFault body =
      firstFault ((List.range 256).map fun k => ⟨decide (242 ≤ byteAt body (2 + k)), held255 (6 + k), k⟩) :=
  (firstFault_cons_passes (decide_eq_false (by omega))).trans (firstFault_cons_passes (decide_eq_false (by omega)))

theorem layoutFault_eq (body : List Byte) :
    layoutFault body =
      if byteAt body 0 = 0 ∨ 160 < byteAt body 0 then some (4, byteAt body 0)
      else if byteAt body 1 = 0 ∨ 40 < byteAt body 1 then some (5, byteAt body 1)
      else if 161 < byteAt body 0 + byteAt body 1 then some (5, byteAt body 1)
      else if 160 < byteAt body 2 then some (6, byteAt body 2)
      else if byteAt body 2 = 0 ∧ byteAt body 3 ≠ 0 then some (7, byteAt body 3)
      else if 1 ≤ byteAt body 2 ∧ (byteAt body 3 ≤ byteAt body 2 ∨ 160 < byteAt body 3) then some (7, byteAt body 3)
      else if 1 ≤ byteAt body 2 ∧ 239 < byteAt body 4 then some (8, byteAt body 4) else none := by
  refine firstFault_cons (by rw [outside_iff]; omega) fun _ => ?_
  refine firstFault_cons (by rw [outside_iff]; omega) fun _ => ?_
  refine firstFault_cons (by simp; omega) fun _ => ?_
  refine firstFault_cons (by simp) fun hz => ?_
  refine firstFault_cons (by simp) fun _ => ?_
  refine firstFault_cons (by simp; omega) fun _ => ?_
  exact firstFault_cons (by simp; omega) fun _ => rfl

theorem settingsFault_eq (body : List Byte) :
    settingsFault body =
      if 3 < byteAt body 0 then some (4, byteAt body 0)
      else if byteAt body 1 = 0 ∨ 15 < byteAt body 1 then some (5, byteAt body 1)
      else if 50 < byteAt body 2 then some (6, byteAt body 2)
      else if wordAt body 3 < 1000 ∨ 10000 < wordAt body 3 then some (7, min 255 (wordAt body 3 / 100))
      else if wordAt body 5 < 5000 ∨ 60000 < wordAt body 5 then some (9, min 255 (wordAt body 5 / 100))
      else if wordAt body 7 < 100 ∨ 60000 < wordAt body 7 then some (11, min 255 (wordAt body 7 / 100))
      else if byteAt body 9 = 0 then some (13, 0)
      else if byteAt body 10 = 0 ∨ 7 < byteAt body 10 then some (14, byteAt body 10) else none := by
  refine firstFault_cons decide_eq_true_iff fun _ => ?_
  refine firstFault_cons (by rw [outside_iff]; omega) fun _ => ?_
  refine firstFault_cons decide_eq_true_iff fun _ => ?_
  refine firstFault_cons (outside_iff _ _ _) fun _ => ?_
  refine firstFault_cons (outside_iff _ _ _) fun _ => ?_
  refine firstFault_cons (outside_iff _ _ _) fun _ => ?_
  by_cases h9 : byteAt body 9 = 0
  · rw [if_pos h9, firstFault_cons_fails (by simp [h9]), h9]
  · rw [if_neg h9, firstFault_cons_passes (by simp [h9])]
    exact firstFault_cons (by rw [outside_iff]; omega) fun _ => rfl

theorem planFault_eq (body : List Byte) (across down : Nat)
    (ha : across = wordAt body 5 + byteAt body 0 * wordAt body 10 + (byteAt body 0 - 1) * wordAt body 12)
    (hd : down = wordAt body 7 + wordAt body 14 + wordAt body 16) :
    planFault body =
      if byteAt body 0 = 0 ∨ 4 < byteAt body 0 then some (4, byteAt body 0)
      else if wordAt body 1 < 6000 ∨ 13200 < wordAt body 1 then some (5, min 255 (wordAt body 1 / 100))
      else if wordAt body 3 < 8400 ∨ 20400 < wordAt body 3 then some (7, min 255 (wordAt body 3 / 100))
      else if 2400 < wordAt body 5 then some (9, min 255 (wordAt body 5 / 100))
      else if 2400 < wordAt body 7 then some (11, min 255 (wordAt body 7 / 100))
      else if byteAt body 9 < 40 ∨ 160 < byteAt body 9 then some (13, byteAt body 9)
      else if wordAt body 10 < 600 ∨ 9600 < wordAt body 10 then some (14, min 255 (wordAt body 10 / 100))
      else if 1200 < wordAt body 12 then some (16, min 255 (wordAt body 12 / 100))
      else if 1200 < wordAt body 14 then some (18, min 255 (wordAt body 14 / 100))
      else if wordAt body 16 < 1200 ∨ 16800 < wordAt body 16 then some (20, min 255 (wordAt body 16 / 100))
      else if 4 < byteAt body 18 then some (22, byteAt body 18)
      else if wordAt body 1 < across then some (14, min 255 ((across - wordAt body 1 + 99) / 100))
      else if wordAt body 3 < down then some (20, min 255 ((down - wordAt body 3 + 99) / 100))
      else if byteAt body 19 = 0 ∨ 40 < byteAt body 19 then some (23, byteAt body 19)
      else if 9999 < wordAt body 20 then some (24, min 255 (wordAt body 20 / 100))
      else if 7 < byteAt body 22 then some (26, byteAt body 22) else none := by
  subst ha hd
  refine firstFault_cons ((outside_iff _ _ _).trans (or_congr_left Nat.lt_one_iff)) fun _ => ?_
  refine firstFault_cons (outside_iff _ _ _) fun _ => ?_
  refine firstFault_cons (outside_iff _ _ _) fun _ => ?_
  refine firstFault_cons decide_eq_true_iff fun _ => ?_
  refine firstFault_cons decide_eq_true_iff fun _ => ?_
  refine firstFault_cons (outside_iff _ _ _) fun _ => ?_
  refine firstFault_cons (outside_iff _ _ _) fun _ => ?_
  refine firstFault_cons decide_eq_true_iff fun _ => ?_
  refine firstFault_cons decide_eq_true_iff fun _ => ?_
  refine firstFault_cons (outside_iff _ _ _) fun _ => ?_
  refine firstFault_cons decide_eq_true_iff fun _ => ?_
  refine firstFault_cons decide_eq_true_iff fun _ => ?_
  refine firstFault_cons decide_eq_true_iff fun _ => ?_
  refine firstFault_cons ((outside_iff _ _ _).trans (or_congr_left Nat.lt_one_iff)) fun _ => ?_
  refine firstFault_cons decide_eq_true_iff fun _ => ?_
  exact firstFault_cons decide_eq_true_iff fun _ => rfl

end Sys2Proof.Machine
end

section
/-! PROOFS. The range tests of a FORMS record, and the refusals of records and selectors. -/

namespace Sys2Proof.Machine

/-! ### The stops of a FORMS record (R23) -/

theorem stopPairs_length : ∀ body : List Byte, (stopPairs body).length = body.length / 2
  | [] => rfl
  | [_] => by simp [stopPairs]
  | _ :: _ :: rest => by simp [stopPairs, stopPairs_length rest]; omega

theorem stopPairs_get : ∀ (body : List Byte) (i : Nat), i < (stopPairs body).length →
    (stopPairs body)[i]? = some ⟨byteAt body (2 * i), byteAt body (2 * i + 1)⟩
  | [], i, h => by cases h
  | [_], i, h => by cases h
  | _ :: _ :: _, 0, _ => rfl
  | _ :: _ :: rest, i + 1, h => by
    have h' : i < (stopPairs rest).length := by simpa [stopPairs] using h
    simpa [stopPairs, byteAt, Nat.mul_add] using stopPairs_get rest i h'

theorem byteAt_drop (body : List Byte) (n i : Nat) : byteAt (body.drop n) i = byteAt body (n + i) := by
  simp [byteAt, List.getD_eq_getElem?_getD]

/-- R23: a stop within its ranges that none of the stops `seen` repeats. -/
abbrev Stop.goodAfter (length : Nat) (seen : List Stop) (st : Stop) : Prop :=
  1 ≤ st.line ∧ st.line ≤ length ∧ 1 ≤ st.channel ∧ st.channel ≤ 12 ∧ st ∉ seen

/-- The three tests of one stop, and then those of the stops after it. -/
theorem stopTests_cons (length k : Nat) (seen : List Stop) (st : Stop) (rest : List Stop) :
    stopTests length k seen (st :: rest) =
      ⟨st.line == 0 || decide (length < st.line), 5 + 2 * k, st.line⟩ ::
      ⟨st.channel == 0 || decide (12 < st.channel), 6 + 2 * k, st.channel⟩ ::
      ⟨seen.contains st, 5 + 2 * k, st.line⟩ :: stopTests length (k + 1) (st :: seen) rest := rfl

/-- The tests of one stop, one after another, decide before those of the stops after it. -/
theorem firstFault_stopTests_cons (length k : Nat) (seen : List Stop) (st : Stop) (rest : List Stop) :
    firstFault (stopTests length k seen (st :: rest)) =
      if st.line = 0 ∨ length < st.line then some (5 + 2 * k, st.line)
      else if st.channel = 0 ∨ 12 < st.channel then some (6 + 2 * k, st.channel)
      else if st ∈ seen then some (5 + 2 * k, st.line)
      else firstFault (stopTests length (k + 1) (st :: seen) rest) := by
  rw [stopTests_cons]
  refine firstFault_cons (by simp) fun _ => ?_
  refine firstFault_cons (by simp) fun _ => ?_
  exact firstFault_cons (by simp) fun _ => rfl

/-- A good stop leaves the decision to the stops after it. -/
theorem firstFault_stopTests_good (length k : Nat) (seen : List Stop) (st : Stop) (rest : List Stop)
    (h : st.goodAfter length seen) :
    firstFault (stopTests length k seen (st :: rest)) =
      firstFault (stopTests length (k + 1) (st :: seen) rest) := by
  obtain ⟨h1, h2, h3, h4, h5⟩ := h
  rw [firstFault_stopTests_cons, if_neg (by omega), if_neg (by omega), if_neg h5]

/-- The first `i` stops being good, stop `i` and those after it decide, with the stops before them seen. -/
theorem firstFault_stopTests_drop (length : Nat) :
    ∀ (i k : Nat) (seen stops : List Stop), i ≤ stops.length →
      (∀ j st, j < i → stops[j]? = some st → st.goodAfter length ((stops.take j).reverse ++ seen)) →
      firstFault (stopTests length k seen stops) =
        firstFault (stopTests length (k + i) ((stops.take i).reverse ++ seen) (stops.drop i))
  | 0, _, _, _, _, _ => rfl
  | i + 1, k, seen, [], hl, _ => by simp at hl
  | i + 1, k, seen, st :: rest, hl, hg => by
    have hst : st.goodAfter length seen := by simpa using hg 0 st (by omega) rfl
    rw [firstFault_stopTests_good length k seen st rest hst,
      firstFault_stopTests_drop length i (k + 1) (st :: seen) rest (by simpa using hl) fun j u hj hu => by
        simpa using hg (j + 1) u (by omega) (by simpa using hu)]
    rw [show k + 1 + i = k + (i + 1) by omega]
    simp

/-- The tests of a FORMS body with a good header: those of the stops, and then that of the end channel. -/
theorem formsFault_of_header (body : List Byte) (h12 : 12 ≤ byteAt body 0) (h144 : byteAt body 0 ≤ 144)
    (hp : byteAt body 1 = 6 ∨ byteAt body 1 = 8 ∨ byteAt body 1 = 10) (he : byteAt body 2 ≤ 12) :
    formsFault body = (firstFault (stopTests (byteAt body 0) 1 [] (stopPairs (body.drop 3)))).or
      (if byteAt body 2 ≠ 0 ∧ ∀ st ∈ stopPairs (body.drop 3), st.channel ≠ byteAt body 2 then some (6, byteAt body 2)
        else none) := by
  have hpitch : (pitchOf (byteAt body 1)).isNone = false := by rcases hp with h | h | h <;> rw [h] <;> rfl
  have ho : outside 12 144 (byteAt body 0) = false := by rw [Bool.eq_false_iff, Ne, outside_iff]; omega
  have hlast : ∀ stops : List Stop,
      firstFault [⟨byteAt body 2 != 0 && !(stops.any fun st => st.channel == byteAt body 2), 6, byteAt body 2⟩] =
        if byteAt body 2 ≠ 0 ∧ ∀ st ∈ stops, st.channel ≠ byteAt body 2 then some (6, byteAt body 2) else none :=
    fun stops => firstFault_cons (by simp) fun _ => rfl
  unfold formsFault
  simp only
  rw [firstFault_append, hlast, List.cons_append, List.cons_append, List.cons_append, List.nil_append,
    firstFault_cons_passes ho, firstFault_cons_passes hpitch, firstFault_cons_passes (decide_eq_false (by omega))]

theorem formsFault_length (body : List Byte) (h : byteAt body 0 < 12 ∨ 144 < byteAt body 0) :
    formsFault body = some (4, byteAt body 0) :=
  firstFault_cons_fails ((outside_iff _ _ _).mpr h)

theorem formsFault_pitch (body : List Byte) (h12 : 12 ≤ byteAt body 0) (h144 : byteAt body 0 ≤ 144)
    (h6 : byteAt body 1 ≠ 6) (h8 : byteAt body 1 ≠ 8) (h10 : byteAt body 1 ≠ 10) :
    formsFault body = some (5, byteAt body 1) := by
  have ho : outside 12 144 (byteAt body 0) = false := by rw [Bool.eq_false_iff, Ne, outside_iff]; omega
  have hp : (pitchOf (byteAt body 1)).isNone = true := by
    unfold pitchOf
    split <;> first | contradiction | rfl
  exact (firstFault_cons_passes ho).trans (firstFault_cons_fails hp)

theorem formsFault_end (body : List Byte) (h12 : 12 ≤ byteAt body 0) (h144 : byteAt body 0 ≤ 144)
    (hp : byteAt body 1 = 6 ∨ byteAt body 1 = 8 ∨ byteAt body 1 = 10) (he : 12 < byteAt body 2) :
    formsFault body = some (6, byteAt body 2) := by
  have hpitch : (pitchOf (byteAt body 1)).isNone = false := by rcases hp with h | h | h <;> rw [h] <;> rfl
  have ho : outside 12 144 (byteAt body 0) = false := by rw [Bool.eq_false_iff, Ne, outside_iff]; omega
  exact (firstFault_cons_passes ho).trans ((firstFault_cons_passes hpitch).trans (firstFault_cons_fails (decide_eq_true he)))

/-- With the stops before stop `i` good, the tests of the stops come to those of stop `i` and of the stops after it. -/
theorem firstFault_stopTests_at (length : Nat) (stops : List Stop) (i : Nat) (st : Stop) (hst : stops[i]? = some st)
    (hg : ∀ j u, j < i → stops[j]? = some u → u.goodAfter length (stops.take j)) :
    firstFault (stopTests length 1 [] stops) =
      firstFault (stopTests length (1 + i) (stops.take i).reverse (st :: stops.drop (i + 1))) := by
  obtain ⟨hi, rfl⟩ := List.getElem?_eq_some_iff.mp hst
  rw [firstFault_stopTests_drop length i 1 [] stops (by omega) fun j u hj hu => by simpa [Stop.goodAfter] using hg j u hj hu,
    List.append_nil, List.drop_eq_getElem_cons hi]

/-- With every stop good, the tests of the stops pass. -/
theorem firstFault_stopTests_all (length : Nat) (stops : List Stop)
    (hg : ∀ j u, j < stops.length → stops[j]? = some u → u.goodAfter length (stops.take j)) :
    firstFault (stopTests length 1 [] stops) = none := by
  rw [firstFault_stopTests_drop length stops.length 1 [] stops le_rfl fun j u hj hu => by
    simpa [Stop.goodAfter] using hg j u hj hu, List.drop_length]
  rfl

/-- R23: the stops of a body, and the first test of the body that fails: the header's, then those of the first stop that is
not good, then that of the end channel. -/
theorem formsFault_spec (body : List Byte) (length pitch end_ : Nat) (stops : List Stop) (hl : length = byteAt body 0)
    (hpi : pitch = byteAt body 1) (hen : end_ = byteAt body 2) (hs : stops = stopPairs (body.drop 3)) :
    (stops.length = (body.length - 3) / 2 ∧
      ∀ i, i < stops.length → stops[i]? = some ⟨byteAt body (3 + 2 * i), byteAt body (4 + 2 * i)⟩) ∧
    (length < 12 ∨ 144 < length → formsFault body = some (4, length)) ∧
    (12 ≤ length → length ≤ 144 →
      (pitch ≠ 6 → pitch ≠ 8 → pitch ≠ 10 → formsFault body = some (5, pitch)) ∧
      (pitch = 6 ∨ pitch = 8 ∨ pitch = 10 →
        (12 < end_ → formsFault body = some (6, end_)) ∧
        (end_ ≤ 12 → ∀ good : Nat → Prop,
          (∀ i, good i ↔ ∃ st, stops[i]? = some st ∧ 1 ≤ st.line ∧ st.line ≤ length ∧ 1 ≤ st.channel ∧
            st.channel ≤ 12 ∧ st ∉ stops.take i) →
          (∀ i st, stops[i]? = some st → (∀ j, j < i → good j) →
            (st.line = 0 ∨ length < st.line → formsFault body = some (7 + 2 * i, st.line)) ∧
            (1 ≤ st.line → st.line ≤ length →
              (st.channel = 0 ∨ 12 < st.channel → formsFault body = some (8 + 2 * i, st.channel)) ∧
              (1 ≤ st.channel → st.channel ≤ 12 → st ∈ stops.take i →
                formsFault body = some (7 + 2 * i, st.line)))) ∧
          ((∀ i, i < stops.length → good i) →
            formsFault body =
              if end_ ≠ 0 ∧ ∀ st ∈ stops, st.channel ≠ end_ then some (6, end_) else none)))) := by
  subst hl hpi hen
  refine ⟨⟨?_, fun i hi => ?_⟩, formsFault_length body, fun h12 h144 => ⟨formsFault_pitch body h12 h144, fun hp =>
    ⟨formsFault_end body h12 h144 hp, fun he good hgood => ?_⟩⟩⟩
  · rw [hs, stopPairs_length, List.length_drop]
  · subst hs
    rw [stopPairs_get _ i hi, byteAt_drop, byteAt_drop]
    rw [show 3 + (2 * i + 1) = 4 + 2 * i by omega]
  · have hx := formsFault_of_header body h12 h144 hp he
    rw [← hs] at hx
    have hat : ∀ n, (∀ j, j < n → good j) → ∀ j u, j < n → stops[j]? = some u →
        u.goodAfter (byteAt body 0) (stops.take j) := by
      intro n hn j u hj hu
      obtain ⟨v, hv, hgv⟩ := (hgood j).mp (hn j hj)
      rw [hu] at hv
      cases hv
      exact hgv
    refine ⟨fun i st hst hb => ?_, fun hall => ?_⟩
    · rw [firstFault_stopTests_at _ stops i st hst (hat i hb), firstFault_stopTests_cons] at hx
      refine ⟨fun hline => ?_, fun h1 h2 => ⟨fun hch => ?_, fun h3 h4 hm => ?_⟩⟩
      · rw [hx, if_pos hline, Option.some_or]
        congr 2
        omega
      · rw [hx, if_neg (by omega), if_pos hch, Option.some_or]
        congr 2
        omega
      · rw [hx, if_neg (by omega), if_neg (by omega), if_pos (List.mem_reverse.mpr hm), Option.some_or]
        congr 2
        omega
    · rw [hx, firstFault_stopTests_all _ stops (hat _ hall), Option.none_or]

/-! ### The refusals -/

/-- R11: a TABLE of no known kind, or of fewer than 3 bytes, fails its framing. -/
theorem framingFault_of_unknownTable (h : Hand) (hm : h.unknownTable = true) : ∃ f, framingFault h.kept = some f := by
  simp only [Hand.unknownTable, Bool.and_eq_true] at hm
  obtain ⟨-, hm⟩ := hm
  split at hm
  · next k hi lo body hk => exact ⟨_, by rw [hk]; simp only [framingFault, hm]; rfl⟩
  · next hk =>
    refine ⟨(none, 0), framingFault_of_short _ ?_⟩
    match hkept : h.kept with
    | [] => simp
    | [_] => simp
    | [_, _] => simp
    | a :: b :: c :: rest => exact absurd hkept (hk a b c rest)

theorem State.endTable_of_format (s : State) (h : Hand) (fault : List Byte → Option (Nat × Nat))
    (carry : List Byte → State → State) (f : Option Nat × Nat) (hf : framingFault h.kept = some f) :
    s.endTable h fault carry = s.refuse h .tableFormat f.1 f.2 := by
  simp [State.endTable, hf]

theorem State.endTable_of_range (s : State) (h : Hand) (fault : List Byte → Option (Nat × Nat))
    (carry : List Byte → State → State) (f : Nat × Nat) (hf : framingFault h.kept = none)
    (hr : fault (h.kept.drop 3) = some f) : s.endTable h fault carry = s.refuse h .tableRange (some f.1) f.2 := by
  simp [State.endTable, hf, hr]

theorem State.endQuery_of_fault (s : State) (h : Hand) (answer : State → State) (f : Option Nat × Nat)
    (hf : selectorFault h.kept = some f) : s.endQuery h answer = s.refuse h .order f.1 f.2 := by
  simp [State.endQuery, hf]

/-- R11: END of a badly framed TABLE, in whatever row. -/
theorem State.exec_of_framingFault (s : State) (c : Instr) (h : Hand) (hq : s.quiet) (hp : s.lp.port = .takingData h)
    (hm : endsHand c h = true) (he : h.parityError = none) (hk : h.kind = some .table) (f : Option Nat × Nat)
    (hf : framingFault h.kept = some f) : ∃ t, exec c s = .next t ∧ s.RefusedAs t h .tableFormat f.1 f.2 := by
  obtain ⟨carry, hx⟩ := exec_of_endsHand_table c h hm hk
  apply State.exists_refusedAs
  rw [hx, s.run_atEnd_judge _ (fun h u => u.endTable h (rangeFault c) (carry h)) h .table hq hp hm he hk,
    s.endTable_of_format h _ _ f hf]

/-- R190: END of a TABLE with a field out of range, in whatever row. -/
theorem State.exec_of_rangeFault (s : State) (c : Instr) (h : Hand) (hq : s.quiet) (hp : s.lp.port = .takingData h)
    (hm : endsHand c h = true) (he : h.parityError = none) (hk : h.kind = some .table) (f : Nat × Nat)
    (hf : framingFault h.kept = none) (hr : rangeFault c (h.kept.drop 3) = some f) :
    ∃ t, exec c s = .next t ∧ s.RefusedAs t h .tableRange (some f.1) f.2 := by
  obtain ⟨carry, hx⟩ := exec_of_endsHand_table c h hm hk
  apply State.exists_refusedAs
  rw [hx, s.run_atEnd_judge _ (fun h u => u.endTable h (rangeFault c) (carry h)) h .table hq hp hm he hk,
    s.endTable_of_range h _ _ f hf hr]

/-- R12: END of a QUERY whose selector names nothing, in whatever row. -/
theorem State.exec_of_selectorFault (s : State) (c : Instr) (h : Hand) (hq : s.quiet) (hp : s.lp.port = .takingData h)
    (hm : endsHand c h = true) (he : h.parityError = none) (hk : h.kind = some .query) (f : Option Nat × Nat)
    (hf : selectorFault h.kept = some f) : ∃ t, exec c s = .next t ∧ s.RefusedAs t h .order f.1 f.2 := by
  obtain ⟨answer, hx⟩ := exec_of_endsHand_query c h hm hk
  apply State.exists_refusedAs
  rw [hx, s.run_atEnd_judge _ (fun h u => u.endQuery h (answer h)) h .query hq hp hm he hk,
    s.endQuery_of_fault h _ f hf]

/-- Settles O22: each table of tests by its own lemma above, and the refusals by the three lemmas of the END rows. -/
theorem badRecordsAndSelectorsAreRefused : Obligations.BadRecordsAndSelectorsAreRefused := by
  unfold Obligations.BadRecordsAndSelectorsAreRefused
  refine ⟨framingFault_of_short, fun k hi lo body => ⟨framingFault_of_unnamed k hi lo body, fun h1 h12 hl => ?_,
    fun h1 h12 hl hg => ?_, fun h1 h12 hl hg => ?_⟩, bodyLengthGood_iff, ⟨rfl, rfl, rfl, fun b rest =>
    ⟨selectorFault_of_unnamed b rest, selectorFault_of_alone b rest, ?_⟩⟩, fun body => ⟨unitFault_eq body,
    noticeClearFault_eq body, noticeControlFault_eq body, collationFault_some body, collationFault_none body,
    charMapFault_action body, charMapFault_substitute body, fun h0 h1 => ⟨fun k hk hb hj => ?_, fun hall => ?_⟩⟩, ?_,
    settingsFault_eq, planFault_eq, formsFault_spec, ⟨rfl, rfl, rfl, rfl, rfl, rfl, rfl, rfl, rfl, fun body =>
    ⟨rfl, rfl, rfl⟩⟩, fun c s h hq hp hm he => ⟨s.exec_of_framingFault c h hq hp hm he, fun hk hf f hr => ?_, ?_,
    s.exec_of_selectorFault c h hq hp hm he⟩⟩
  · rw [framingFault_of_named k hi lo body h1 h12, if_pos hl]
  · rw [framingFault_of_named k hi lo body h1 h12, if_neg (not_not.mpr hl), if_pos hg]
  · rw [framingFault_of_named k hi lo body h1 h12, if_neg (not_not.mpr hl), if_neg (by simp [hg])]
  · rintro hb x more rfl
    exact selectorFault_of_second b hb x more
  · rw [charMapFault_entries body h0 h1]
    exact firstFault_range_some 256 _ k hk (decide_eq_true hb) fun j h => decide_eq_false (by have := hj j h; omega)
  · rw [charMapFault_entries body h0 h1]
    exact firstFault_range_none 256 _ fun k hk => decide_eq_false (by have := hall k hk; omega)
  · rintro body _ _ _ _ _ rfl rfl rfl rfl rfl
    exact layoutFault_eq body
  · exact s.exec_of_rangeFault c h hq hp hm he hk f hf hr
  · rintro rfl
    obtain ⟨f, hf⟩ := framingFault_of_unknownTable h hm
    have hk : h.kind = some .table := by
      simp only [endsHand, Hand.unknownTable, Bool.and_eq_true, beq_iff_eq] at hm
      exact hm.1
    obtain ⟨t, hx, ht⟩ := s.exec_of_framingFault _ h hq hp hm he hk f hf
    exact ⟨f, t, hf, hx, ht⟩

end Sys2Proof.Machine
end

section
/-! PROOFS. The bytes of the responses, field by field, and the snapshot a QUERY takes. -/

namespace Sys2Proof.Machine

/-! ### The bytes of a response (R193) -/

theorem byteOf_toNat (n : Nat) (h : n ≤ 255) : (byteOf n).toNat = n := by
  rw [byteOf, BitVec.toNat_ofNat]
  omega

theorem flagByte_toNat (b : Bool) : (flagByte b).toNat = b.toNat := by cases b <;> rfl

/-- R193: the two bytes of a value of 16 bits. -/
theorem wordAt_be16 (n : Nat) (h : n ≤ 65535) (rest : List Byte) : wordAt (be16 n ++ rest) 0 = n := by
  show (byteOf (n / 256)).toNat * 256 + (byteOf n).toNat = n
  simp only [byteOf, BitVec.toNat_ofNat]
  omega

/-- R193: the four bytes of a value of 32 bits. -/
theorem wordAt_be32 (n : Nat) (h : n < 4294967296) : wordAt (be32 n) 0 * 65536 + wordAt (be32 n) 2 = n := by
  show ((byteOf (n / 65536 / 256)).toNat * 256 + (byteOf (n / 65536)).toNat) * 65536 +
    ((byteOf (n / 256)).toNat * 256 + (byteOf n).toNat) = n
  simp only [byteOf, BitVec.toNat_ofNat]
  omega

/-- The bytes of a list of parts of one width. -/
theorem byteAt_flatMap {α : Type} (f : α → List Byte) (w : Nat) (hw : ∀ x, (f x).length = w) :
    ∀ (l : List α) (k j : Nat) (x : α), l[k]? = some x → j < w → byteAt (l.flatMap f) (w * k + j) = byteAt (f x) j
  | [], _, _, _, h, _ => by simp at h
  | y :: l, 0, j, x, h, hj => by
    obtain rfl : y = x := by simpa using h
    rw [byteAt, byteAt, List.flatMap_cons, Nat.mul_zero, Nat.zero_add, List.getD_append _ _ _ _ (by rw [hw]; exact hj)]
  | y :: l, k + 1, j, x, h, hj => by
    have ih := byteAt_flatMap f w hw l k j x (by simpa using h) hj
    rw [byteAt] at ih ⊢
    rw [List.flatMap_cons, List.getD_append_right _ _ _ _ (by rw [hw]; nlinarith), hw, ← ih]
    congr 2
    rw [Nat.mul_succ]
    omega

theorem flatMap_length {α : Type} (f : α → List Byte) (w : Nat) (hw : ∀ x, (f x).length = w) (l : List α) :
    (l.flatMap f).length = w * l.length := by
  simp [List.length_flatMap, hw, Nat.mul_comm]

/-! ### QUERY CONDITION (R194) -/

/-- R130, R199: the eight states of an occupied slot with its engine. -/
def allPhases : List SlotPhase :=
  [.assembling, .ready, .sending .a, .sending .b, .sent .a, .sent .b, .finished .a, .finished .b]

theorem mem_allPhases (ph : SlotPhase) : ph ∈ allPhases := by
  rcases ph with _ | _ | (_ | _) | (_ | _) | (_ | _) <;> decide

theorem slotsIn_cons_none (r : Ring) (p : SlotPhase → Bool) : slotsIn (none :: r) p = slotsIn r p := rfl

theorem slotsIn_cons_some (x : Occupied) (r : Ring) (p : SlotPhase → Bool) :
    slotsIn (some x :: r) p = slotsIn r p + (p x.phase).toNat := by
  cases h : p x.phase <;> simp [slotsIn, h]

theorem slotsIn_le (r : Ring) (p : SlotPhase → Bool) : slotsIn r p ≤ r.length := List.countP_le_length

/-- A byte that counts the slots in the phases listed. -/
theorem byteOf_slotsIn (r : Ring) (p : SlotPhase → Bool) (ps : List SlotPhase) (hl : r.length = 6)
    (hp : ∀ ph ∈ allPhases, p ph = ps.contains ph) : (byteOf (slotsIn r p)).toNat = slotsIn r ps.contains := by
  have hx : p = ps.contains := funext fun ph => hp ph (mem_allPhases ph)
  have hle := slotsIn_le r p
  rw [byteOf_toNat _ (by omega), hx]

/-- R194: the bytes of QUERY CONDITION, field by field, with the slots counted by the phases listed. -/
theorem State.conditionBytes_spec (s : State) (b : List Byte) (n : List SlotPhase → Nat) (hb : b = s.conditionBytes)
    (hq : s.queueSound) (hl : s.ring.length = 6) (hf : ∀ f, s.composer.nextFolio = some f → f ≤ 9999)
    (hn : ∀ ps, n ps = slotsIn s.ring ps.contains) :
    byteAt b 0 = s.queue.length ∧ byteAt b 1 = s.forms.owed.isSome.toNat ∧
      byteAt b 2 = (s.ring.filter fun o => o.isNone).length ∧ byteAt b 3 = n [.assembling] ∧ byteAt b 4 = n [.ready] ∧
      byteAt b 5 = n [.sending .a, .sending .b] ∧ byteAt b 6 = n [.sent .a, .sent .b] ∧
      byteAt b 7 = n [.finished .a, .finished .b] ∧ byteAt b 8 = s.composer.waiting.toNat ∧ byteAt b 9 = s.held.toNat ∧
      wordAt b 10 = s.forms.form ∧ byteAt b 12 = s.forms.line ∧ wordAt b 13 = s.composer.nextFolio.getD 0 ∧
      wordAt b 15 = s.composer.nextSeq.toNat ∧ byteAt b 17 = s.keys.heldKey.isSome.toNat ∧
      byteAt b 18 = (decide (.sync ∈ s.queue)).toNat := by
  obtain ⟨⟨h12, h144, hf1, hform, hl1, hline, hlay⟩, _, hqueue, _⟩ := hq
  have hfree : s.ring.countP (fun o => o.isNone) ≤ s.ring.length := List.countP_le_length
  have hseq := s.composer.nextSeq.isLt
  have hfolio : s.composer.nextFolio.getD 0 ≤ 9999 := by
    cases hx : s.composer.nextFolio with
    | none => simp
    | some f => simpa [hx] using hf f hx
  subst hb
  simp only [hn]
  refine ⟨byteOf_toNat _ (by omega), flagByte_toNat _, ?_, byteOf_slotsIn _ _ _ hl (by decide),
    byteOf_slotsIn _ _ _ hl (by decide), byteOf_slotsIn _ _ _ hl (by decide), byteOf_slotsIn _ _ _ hl (by decide),
    byteOf_slotsIn _ _ _ hl (by decide), flagByte_toNat _, flagByte_toNat _,
    wordAt_be16 _ (by omega) [], byteOf_toNat _ (by omega), wordAt_be16 _ (by omega) [],
    wordAt_be16 _ (by omega) [], flagByte_toNat _, ?_⟩
  · rw [← List.countP_eq_length_filter]
    exact byteOf_toNat _ (by omega)
  · rw [← List.contains_eq_mem]
    exact flagByte_toNat _

/-- The five states counted by QUERY CONDITION are all and exclude each other. -/
theorem phase_partition : ∀ ph ∈ allPhases, (ph == .assembling).toNat + (ph == .ready).toNat +
    (ph == .sending .a || ph == .sending .b).toNat + (ph == .sent .a || ph == .sent .b).toNat + ph.isFinished.toNat = 1 := by
  decide

/-- R130: every slot is FREE or in one of the five other states. -/
theorem slots_partition : ∀ r : Ring, (r.countP fun o => o.isNone) + slotsIn r (fun p => p == .assembling) +
    slotsIn r (fun p => p == .ready) + slotsIn r (fun p => p == .sending .a || p == .sending .b) +
    slotsIn r (fun p => p == .sent .a || p == .sent .b) + slotsIn r (fun p => p.isFinished) = r.length
  | [] => rfl
  | none :: r => by
    have ih := slots_partition r
    simp only [slotsIn_cons_none, List.countP_cons, List.length_cons, Option.isNone_none, if_true]
    omega
  | some x :: r => by
    have ih := slots_partition r
    have hx := phase_partition x.phase (mem_allPhases x.phase)
    simp only [slotsIn_cons_some, List.countP_cons, List.length_cons, Option.isNone_some]
    simp only [Bool.false_eq_true, if_false]
    omega

/-- R194: the six slot counts sum to the slots of the ring. -/
theorem State.conditionBytes_slots (s : State) (h : s.ring.length ≤ 6) :
    (((s.conditionBytes.drop 2).take 6).map fun b => b.toNat).sum = s.ring.length := by
  have hp := slots_partition s.ring
  have hx : ((s.conditionBytes.drop 2).take 6).map (fun b => b.toNat) =
      [s.ring.countP fun o => o.isNone, slotsIn s.ring (fun p => p == .assembling),
        slotsIn s.ring (fun p => p == .ready), slotsIn s.ring (fun p => p == .sending .a || p == .sending .b),
        slotsIn s.ring (fun p => p == .sent .a || p == .sent .b), slotsIn s.ring (fun p => p.isFinished)] := by
    show [(byteOf _).toNat, (byteOf _).toNat, (byteOf _).toNat, (byteOf _).toNat, (byteOf _).toNat, (byteOf _).toNat] = _
    rw [byteOf_toNat _ (by omega), byteOf_toNat _ (by omega), byteOf_toNat _ (by omega), byteOf_toNat _ (by omega),
      byteOf_toNat _ (by omega), byteOf_toNat _ (by omega)]
  rw [hx]
  simp only [List.sum_cons, List.sum_nil]
  omega

/-! ### QUERY CHECK (R195) -/

/-- R195: the bytes of QUERY CHECK for a check record, field by field. -/
theorem checkBytes_spec (c : CheckRecord) (b : List Byte) (hb : b = checkBytes (some c))
    (hp : ∀ p, c.position = some p → p ≤ 255) (hd : c.detail ≤ 255) :
    (c.kind, byteAt b 0) ∈ ([(.parity, 1), (.order, 2), (.motion, 3), (.noStop, 4), (.data, 5), (.tableFormat, 6),
      (.tableRange, 7), (.engineStopped, 8)] : List (CheckKind × Nat)) ∧
      byteAt b 1 = c.order.toNat ∧ byteAt b 2 = c.position.isSome.toNat ∧ byteAt b 3 = c.position.getD 0 ∧
      byteAt b 4 = c.detail := by
  subst hb
  have hpos : c.position.getD 0 ≤ 255 := by
    cases hx : c.position with
    | none => simp
    | some p => simpa using hp p hx
  refine ⟨?_, rfl, flagByte_toNat _, byteOf_toNat _ hpos, byteOf_toNat _ hd⟩
  rw [show byteAt (checkBytes (some c)) 0 = (byteOf c.kind.number).toNat from rfl]
  cases c.kind <;> decide

/-! ### QUERY COUNTERS (R200) -/

/-- R200: counter k stands in the four bytes from byte 4k. -/
theorem counterBytes_word (cs : Counters) (k : Fin 16) :
    wordAt (counterBytes cs) (4 * k.val) * 65536 + wordAt (counterBytes cs) (4 * k.val + 2) = (cs.get k).toNat := by
  have hk : cs.toList[k.val]? = some (cs.get k) := by simp [Vector.get_eq_getElem]
  have hb := byteAt_flatMap (fun v : Word32 => be32 v.toNat) 4 (fun _ => rfl) cs.toList k.val
  rw [← wordAt_be32 (cs.get k).toNat (cs.get k).isLt]
  simp only [wordAt, counterBytes]
  rw [← hb 0 _ hk (by omega), ← hb (0 + 1) _ hk (by omega), ← hb 2 _ hk (by omega), ← hb (2 + 1) _ hk (by omega)]
  rfl

theorem counterBytes_length (cs : Counters) : (counterBytes cs).length = 64 := by
  rw [counterBytes, flatMap_length _ 4 fun _ => rfl]
  simp

/-! ### QUERY ENGINE (R198) -/

theorem State.isSending_iff (s : State) (e : Engine) (q : Word16) :
    s.isSending e q = true ↔ ∃ x, some x ∈ s.ring ∧ x.sheet.seq = q ∧ x.phase = .sending e := by
  simp only [State.isSending, List.any_eq_true]
  constructor
  · rintro ⟨_ | x, hx, hp⟩
    · cases hp
    · exact ⟨x, hx, by simpa using hp⟩
  · rintro ⟨x, hx, hp⟩
    exact ⟨some x, hx, by simpa using hp⟩

/-- The three bytes of an in-flight sheet, present or absent. -/
theorem State.inFlightBytes_eq (s : State) (e : Engine) (i : Option InFlight) :
    ∃ hi lo st, s.inFlightBytes e i = [hi, lo, st] := by
  cases i with
  | none => exact ⟨_, _, _, rfl⟩
  | some i => exact ⟨_, _, _, rfl⟩

theorem State.inFlightBytes_none (s : State) (e : Engine) :
    wordAt (s.inFlightBytes e none) 0 = 0 ∧ byteAt (s.inFlightBytes e none) 2 = 0 := by
  simp [State.inFlightBytes, wordAt, byteAt]

theorem State.inFlightBytes_some (s : State) (e : Engine) (i : InFlight) :
    wordAt (s.inFlightBytes e (some i)) 0 = i.seq.toNat ∧
      ((∃ x, some x ∈ s.ring ∧ x.sheet.seq = i.seq ∧ x.phase = .sending e) →
        byteAt (s.inFlightBytes e (some i)) 2 = 3) ∧
      ((∀ x, some x ∈ s.ring → x.sheet.seq = i.seq → x.phase ≠ .sending e) →
        byteAt (s.inFlightBytes e (some i)) 2 = 4) := by
  have hseq := i.seq.isLt
  have hbyte : byteAt (s.inFlightBytes e (some i)) 2 = if s.isSending e i.seq then 3 else 4 := by
    show (if s.isSending e i.seq then (3 : Byte) else 4).toNat = _
    split <;> rfl
  refine ⟨wordAt_be16 _ (by omega) _, fun hx => ?_, fun hx => ?_⟩
  · rw [hbyte, if_pos ((s.isSending_iff e i.seq).mpr hx)]
  · rw [hbyte, if_neg]
    rintro h
    obtain ⟨x, hm, hs, hp⟩ := (s.isSending_iff e i.seq).mp h
    exact hx x hm hs hp

/-- Where the two in-flight sheets stand among the bytes of QUERY ENGINE. -/
theorem State.engineBytes_inFlight (s : State) (e : Engine) (k : Nat) (hk : k = 0 ∨ k = 1) :
    wordAt (s.engineBytes e) (8 + 3 * k) = wordAt (s.inFlightBytes e (s.link e).inFlight[k]?) 0 ∧
      byteAt (s.engineBytes e) (10 + 3 * k) = byteAt (s.inFlightBytes e (s.link e).inFlight[k]?) 2 := by
  obtain ⟨h0, l0, t0, hx0⟩ := s.inFlightBytes_eq e (s.link e).inFlight[0]?
  obtain ⟨h1, l1, t1, hx1⟩ := s.inFlightBytes_eq e (s.link e).inFlight[1]?
  simp only [State.engineBytes, hx0, hx1]
  rcases hk with rfl | rfl
  · rw [hx0]
    exact ⟨rfl, rfl⟩
  · rw [hx1]
    exact ⟨rfl, rfl⟩

/-- The bytes after the two in-flight sheets. -/
theorem State.engineBytes_pace (s : State) (e : Engine) (hc : (s.link e).pace.shortCount ≤ 7) :
    wordAt (s.engineBytes e) 14 = (s.link e).pace.t.toNat ∧ byteAt (s.engineBytes e) 16 = (s.link e).pace.s.toNat ∧
      byteAt (s.engineBytes e) 17 = (s.link e).pace.shortCount ∧
      byteAt (s.engineBytes e) 18 = (s.link e).pace.degraded.toNat := by
  obtain ⟨h0, l0, t0, hx0⟩ := s.inFlightBytes_eq e (s.link e).inFlight[0]?
  obtain ⟨h1, l1, t1, hx1⟩ := s.inFlightBytes_eq e (s.link e).inFlight[1]?
  have ht := (s.link e).pace.t.isLt
  have hs := (s.link e).pace.s.isLt
  simp only [State.engineBytes, hx0, hx1]
  exact ⟨wordAt_be16 _ (by omega) [], byteOf_toNat _ (by omega), byteOf_toNat _ (by omega), flagByte_toNat _⟩

theorem State.engineBytes_length (s : State) (e : Engine) : (s.engineBytes e).length = 19 := by
  obtain ⟨h0, l0, t0, hx0⟩ := s.inFlightBytes_eq e (s.link e).inFlight[0]?
  obtain ⟨h1, l1, t1, hx1⟩ := s.inFlightBytes_eq e (s.link e).inFlight[1]?
  simp only [State.engineBytes, hx0, hx1]
  rfl

theorem linkState_number_mem (x : LinkState) : (x, (byteOf x.number).toNat) ∈
    ([(.off, 0), (.offering, 1), (.agreeing, 2), (.settling, 3), (.ready, 4), (.stopped, 5), (.broken, 6)] :
      List (LinkState × Nat)) := by
  cases x <;> decide

theorem modeNumber_mem (m : Option Mode) : (m, (byteOf (modeNumber m)).toNat) ∈
    ([(none, 0), (some .fine, 1), (some .standard, 2), (some .proof, 3), (some .plain, 4)] :
      List (Option Mode × Nat)) := by
  rcases m with _ | _ | _ | _ | _ <;> decide

theorem causeNumber_mem (c : Option StopCause) : (c, (byteOf (causeNumber c)).toNat) ∈
    ([(none, 0), (some .paperOut, 1), (some .coverOpen, 2), (some .engineFault, 3), (some .jam, 4),
      (some .timeout, 5)] : List (Option StopCause × Nat)) := by
  rcases c with _ | _ | _ | _ | _ | _ <;> decide

/-! ### QUERY RING (R199) -/

theorem slotBytes_length (o : Option Occupied) : (slotBytes o).length = 7 := by cases o <;> rfl

theorem slotNumbers_mem (p : SlotPhase) : (p, (byteOf p.numbers.1).toNat, (byteOf p.numbers.2).toNat) ∈
    ([(.assembling, 1, 0), (.ready, 2, 0), (.sending .a, 3, 1), (.sending .b, 3, 2), (.sent .a, 4, 1), (.sent .b, 4, 2),
      (.finished .a, 5, 1), (.finished .b, 5, 2)] : List (SlotPhase × Nat × Nat)) := by
  rcases p with _ | _ | (_ | _) | (_ | _) | (_ | _) <;> decide

/-- The bytes of slot k. -/
theorem byteAt_ringBytes (r : Ring) (k j : Nat) (o : Option Occupied) (h : r[k]? = some o) (hj : j < 7) :
    byteAt (ringBytes r) (7 * k + j) = byteAt (slotBytes o) j :=
  byteAt_flatMap slotBytes 7 slotBytes_length r k j o h hj

theorem byteAt_slotBytes_none (j : Nat) (hj : j < 7) : byteAt (slotBytes none) j = 0 := by
  revert j
  decide

/-- R199: the bytes of an occupied slot, field by field. -/
theorem slotBytes_spec (x : Occupied) (hf : ∀ f, x.sheet.folio = some f → f ≤ 9999) (hr : x.sheet.reissue ≤ 255) :
    (x.phase, byteAt (slotBytes (some x)) 0, byteAt (slotBytes (some x)) 5) ∈ ([(.assembling, 1, 0), (.ready, 2, 0),
      (.sending .a, 3, 1), (.sending .b, 3, 2), (.sent .a, 4, 1), (.sent .b, 4, 2), (.finished .a, 5, 1),
      (.finished .b, 5, 2)] : List (SlotPhase × Nat × Nat)) ∧
      wordAt (slotBytes (some x)) 1 = x.sheet.seq.toNat ∧ wordAt (slotBytes (some x)) 3 = x.sheet.folio.getD 0 ∧
      byteAt (slotBytes (some x)) 6 = x.sheet.reissue := by
  have hseq := x.sheet.seq.isLt
  have hfolio : x.sheet.folio.getD 0 ≤ 9999 := by
    cases hx : x.sheet.folio with
    | none => simp
    | some f => simpa using hf f hx
  exact ⟨slotNumbers_mem x.phase, wordAt_be16 _ (by omega) [], wordAt_be16 _ (by omega) [], byteOf_toNat _ hr⟩

/-- R199: the bytes of slot k in the whole response. -/
theorem ringBytes_spec (r : Ring) (k : Nat) (b : List Byte) (hb : b = ringBytes r) :
    (r[k]? = some none → ∀ j, j < 7 → byteAt b (7 * k + j) = 0) ∧
    ∀ x, r[k]? = some (some x) → (∀ f, x.sheet.folio = some f → f ≤ 9999) → x.sheet.reissue ≤ 255 →
      (x.phase, byteAt b (7 * k), byteAt b (7 * k + 5)) ∈ ([(.assembling, 1, 0), (.ready, 2, 0), (.sending .a, 3, 1),
          (.sending .b, 3, 2), (.sent .a, 4, 1), (.sent .b, 4, 2), (.finished .a, 5, 1), (.finished .b, 5, 2)] :
          List (SlotPhase × Nat × Nat)) ∧
        wordAt b (7 * k + 1) = x.sheet.seq.toNat ∧ wordAt b (7 * k + 3) = x.sheet.folio.getD 0 ∧
        byteAt b (7 * k + 6) = x.sheet.reissue := by
  subst hb
  refine ⟨fun hn j hj => ?_, fun x hx hf hr => ?_⟩
  · rw [byteAt_ringBytes r k j none hn hj, byteAt_slotBytes_none j hj]
  · have hb := byteAt_ringBytes r k
    have hw : ∀ j, j < 6 → wordAt (ringBytes r) (7 * k + j) = wordAt (slotBytes (some x)) j := fun j hj => by
      rw [wordAt, wordAt, Nat.add_assoc, hb j _ hx (by omega), hb (j + 1) _ hx (by omega)]
    have h0 : byteAt (ringBytes r) (7 * k) = byteAt (slotBytes (some x)) 0 := hb 0 _ hx (by omega)
    rw [h0, hb 5 _ hx (by omega), hb 6 _ hx (by omega), hw 1 (by omega), hw 3 (by omega)]
    exact slotBytes_spec x hf hr

/-! ### QUERY TABLE for the held key (R88, R197) -/

/-- R88, R197: the record that reports the held key: its kind, its length and its ranks. -/
theorem State.heldKeyBytes_spec (s : State) (ranks : List Nat) (hr : ranks = s.keys.heldKey.getD [])
    (hl : ranks.length ≤ 40) (hb : ∀ r ∈ ranks, r ≤ 250) :
    (s.tableBytes 5).length = 3 + ranks.length ∧ byteAt (s.tableBytes 5) 0 = 5 ∧
      wordAt (s.tableBytes 5) 1 = ranks.length ∧
      ∀ i r, ranks[i]? = some r → byteAt (s.tableBytes 5) (3 + i) = r := by
  have hx : s.tableBytes 5 = 5 :: (be16 ranks.length ++ ranks.map byteOf) := by
    subst hr
    simp only [State.tableBytes, State.tableBody, List.length_map]
    rfl
  rw [hx]
  refine ⟨?_, rfl, wordAt_be16 _ (by omega) (ranks.map byteOf), fun i r hi => ?_⟩
  · simp [be16]
    omega
  · have hle := hb r (List.mem_of_getElem? hi)
    have hbyte : byteAt (5 :: (be16 ranks.length ++ ranks.map byteOf)) (3 + i) = byteAt (ranks.map byteOf) i := by
      rw [Nat.add_comm]
      rfl
    rw [hbyte, byteAt, List.getD_eq_getElem?_getD, List.getElem?_map, hi]
    exact byteOf_toNat r (by omega)

/-! ### The snapshot (R12) -/

/-- A QUERY whose selector names something presents its bytes and changes nothing else. -/
theorem State.run_respond (s : State) (h : Hand) (sel : Nat) (bytes : Hand → State → List Byte) (hq : s.quiet)
    (hp : s.lp.port = .takingData h) (hm : h.isQuery sel = true) (he : h.parityError = none)
    (hs : selectorFault h.kept = none) :
    (s.run fun q => q.queryRow sel fun h t => t.respond h (bytes h t)) =
      .next { s with lp := { s.lp with port := .responding (bytes h s) h.clamped } } := by
  rw [s.run_of_quiet _ hq, s.queryRow_good h sel _ hp hm he hs]
  rfl

theorem counterTable_index : ∀ x ∈ ([(0, .linesAccepted), (1, .ordersRefused), (2, .unprintable), (3, .placedLines),
    (4, .overstrikeMerges), (5, .keyedLines), (6, .outOfOrder), (7, .duplicates), (8, .overLines), (9, .squeezedLines),
    (10, .depthClipped), (11, .sheetsCommitted), (12, .stackedA), (13, .stackedB), (14, .reissued), (15, .strays)] :
    List (Nat × Counter)), x.1 = x.2.index.val := by
  decide

/-- Settles O27: each response by the lemma of its bytes above, and the seven selectors by the one lemma of QUERY rows. -/
theorem queriesTakeASnapshot : Obligations.QueriesTakeASnapshot := by
  unfold Obligations.QueriesTakeASnapshot
  refine ⟨fun s b n hb hq hl hf hn => ?_, ⟨rfl, checkBytes_spec⟩, fun s x hx => ?_, ?_, ringBytes_spec,
    State.heldKeyBytes_spec, fun s h hq hp he hs => ⟨fun hm => ?_, fun hm => ?_, fun hm => ?_, fun hm => ?_, fun hm => ?_,
    fun hm => ?_, rfl, ?_, rfl, counterBytes_length _, s.engineBytes_length, flatMap_length _ 7 slotBytes_length _,
    s.conditionBytes_slots⟩⟩
  · exact s.conditionBytes_spec b n hb hq hl hf fun ps => (hn ps).trans List.countP_eq_length_filter.symm
  · rw [counterTable_index x hx]
    exact counterBytes_word s.counters x.2.index
  · rintro s e _ _ rfl rfl hl hc
    obtain ⟨ht, hpace, hshort, hdeg⟩ := s.engineBytes_pace e hc
    refine ⟨linkState_number_mem _, modeNumber_mem _, flagByte_toNat _, flagByte_toNat _, causeNumber_mem _,
      flagByte_toNat _, flagByte_toNat _, byteOf_toNat _ (by omega), fun k hk => ?_, ht, hpace, hshort, hdeg⟩
    obtain ⟨hword, hbyte⟩ := s.engineBytes_inFlight e k hk
    rw [hword, hbyte]
    refine ⟨fun hi => ?_, fun i hi => ?_⟩
    · rw [hi]
      exact s.inFlightBytes_none e
    · rw [hi]
      exact s.inFlightBytes_some e i
  · exact s.run_respond h 1 (fun _ t => t.conditionBytes) hq hp hm he hs
  · exact s.run_respond h 2 (fun _ t => checkBytes t.lp.check) hq hp hm he hs
  · exact s.run_respond h 4 (fun _ t => counterBytes t.counters) hq hp hm he hs
  · exact s.run_respond h 5 (fun h t => t.tableBytes h.second) hq hp hm he hs
  · exact s.run_respond h 6 (fun h t => t.engineBytes (engineOf h.second)) hq hp hm he hs
  · exact s.run_respond h 7 (fun _ t => ringBytes t.ring) hq hp hm he hs
  · cases s.lp.check <;> rfl

end Sys2Proof.Machine
end

section
/-! PROOFS. Where motions end, the FORMS END flag and placements on the virtual form, and a forms load. -/

namespace Sys2Proof.Machine

/-! ### Stops -/

/-- R22: a line carries a channel when a stop of the table says so. -/
theorem FormsTable.carries_iff (t : FormsTable) (line channel : Nat) :
    t.carries line channel = true ↔ ∃ st ∈ t.stops, st.line = line ∧ st.channel = channel := by
  rw [FormsTable.carries, List.contains_iff_mem]
  constructor
  · exact fun h => ⟨_, h, rfl, rfl⟩
  · rintro ⟨st, h, rfl, rfl⟩
    exact h

theorem FormsTable.hasChannel_iff (t : FormsTable) (channel : Nat) :
    t.hasChannel channel = true ↔ ∃ st ∈ t.stops, st.channel = channel := by
  simp [FormsTable.hasChannel]

/-! ### Series of single-line steps (R26) -/

/-- A step that stays on the form. -/
theorem Forms.stepOnce_of_lt (f : Forms) (h : f.line < f.table.length) :
    f.stepOnce = ({ f with line := f.line + 1, layers := 0 }, []) := if_pos h

/-- A step that crosses the end of the form. -/
theorem Forms.stepOnce_of_le (f : Forms) (h : f.table.length ≤ f.line) :
    f.stepOnce = ({ f with form := nextForm f.form, line := 1, layers := 0, touched := false }, [f.endMark]) :=
  if_neg (by omega)

theorem Forms.steps_succ (n : Nat) (f : Forms) :
    f.steps (n + 1) = ((f.stepOnce.1.steps n).1, f.stepOnce.2 ++ (f.stepOnce.1.steps n).2) := rfl

/-- Steps that stay on the form. -/
theorem Forms.steps_of_within : ∀ (n : Nat) (f : Forms), 1 ≤ n → f.line + n ≤ f.table.length →
    f.steps n = ({ f with line := f.line + n, layers := 0 }, [])
  | 1, f, _, h => by
    rw [Forms.steps_succ, f.stepOnce_of_lt (by omega)]
    rfl
  | n + 2, f, _, h => by
    have ih := Forms.steps_of_within (n + 1) { f with line := f.line + 1, layers := 0 } (by omega)
      (by simp only; omega)
    rw [Forms.steps_succ, f.stepOnce_of_lt (by omega), ih]
    simp only [List.append_nil]
    rw [show f.line + 1 + (n + 1) = f.line + (n + 2) by omega]

/-- At most a form round of steps that passes the end of the form crosses it once. -/
theorem Forms.steps_of_crossing : ∀ (n : Nat) (f : Forms), f.line ≤ f.table.length → n ≤ f.table.length →
    f.table.length < f.line + n →
    f.steps n = ({ f with
      form := nextForm f.form, line := f.line + n - f.table.length, layers := 0, touched := false }, [f.endMark])
  | 0, f, hl, _, h => by omega
  | n + 1, f, hl, hn, h => by
    rw [Forms.steps_succ]
    by_cases hlt : f.line < f.table.length
    · have ih := Forms.steps_of_crossing n { f with line := f.line + 1, layers := 0 } hlt (by simp only; omega)
        (by simp only; omega)
      rw [f.stepOnce_of_lt hlt, ih]
      simp only [List.nil_append]
      rw [show f.line + 1 + n = f.line + (n + 1) by omega]
      rfl
    · rw [f.stepOnce_of_le (by omega)]
      cases n with
      | zero =>
        rw [show f.line + (0 + 1) - f.table.length = 1 by omega]
        rfl
      | succ n =>
        rw [Forms.steps_of_within (n + 1) _ (by omega) (by simp only; omega)]
        simp only [List.append_nil]
        rw [show 1 + (n + 1) = f.line + (n + 1 + 1) - f.table.length by omega]

/-! ### The line arrived on -/

theorem Forms.arrival_of_within (f : Forms) (k : Nat) (h1 : 1 ≤ f.line) (h : f.line + k ≤ f.table.length) :
    f.arrival k = f.line + k := by
  rw [Forms.arrival, Nat.mod_eq_of_lt (by omega)]
  omega

theorem Forms.arrival_of_crossing (f : Forms) (k : Nat) (h1 : 1 ≤ f.line) (hl : f.line ≤ f.table.length)
    (hk : k ≤ f.table.length) (h : f.table.length < f.line + k) : f.arrival k = f.line + k - f.table.length := by
  rw [Forms.arrival, Nat.mod_eq_sub_mod (by omega), Nat.mod_eq_of_lt (by omega)]
  omega

/-- Within one form round every line of the form is arrived on. -/
theorem Forms.exists_arrival (f : Forms) (line : Nat) (h1 : 1 ≤ f.line) (hl : f.line ≤ f.table.length)
    (hline : 1 ≤ line) (hle : line ≤ f.table.length) : ∃ k, 1 ≤ k ∧ k ≤ f.table.length ∧ f.arrival k = line := by
  by_cases hlt : f.line < line
  · refine ⟨line - f.line, by omega, by omega, ?_⟩
    rw [f.arrival_of_within _ h1 (by omega)]
    omega
  · refine ⟨line + f.table.length - f.line, by omega, by omega, ?_⟩
    rw [f.arrival_of_crossing _ h1 hl (by omega) (by omega)]
    omega

/-! ### How many steps a motion takes (R27, R28) -/

theorem Forms.stepCount_space (f : Forms) (n : Nat) : f.stepCount (.space n) = n := rfl

/-- R28: a SKIP takes its steps to the first line arrived on that carries a stop of its channel. -/
theorem Forms.stepCount_skip (f : Forms) (c k : Nat) (h1 : 1 ≤ k) (hk : k ≤ f.table.length)
    (hc : f.table.carries (f.arrival k) c = true)
    (hj : ∀ j, 1 ≤ j → j < k → f.table.carries (f.arrival j) c = false) : f.stepCount (.skip c) = k := by
  have hfind : (List.range f.table.length).find? (fun i => f.table.carries (f.arrival (i + 1)) c) = some (k - 1) := by
    refine List.find?_range_eq_some.mpr ⟨?_, List.mem_range.mpr (by omega), fun j hlt => ?_⟩
    · rwa [Nat.sub_add_cancel h1]
    · simp [hj (j + 1) (by omega) (by omega)]
  simp only [Forms.stepCount, hfind]
  omega

/-- R28: a SKIP takes at most a form round. -/
theorem Forms.stepCount_skip_le (f : Forms) (c : Nat) : f.stepCount (.skip c) ≤ f.table.length := by
  simp only [Forms.stepCount]
  split
  · next k hk => exact List.mem_range.mp (List.mem_of_find?_eq_some hk)
  · exact le_rfl

/-! ### Motions -/

theorem Forms.move_of_none (f : Forms) (action : MotionAction) (hn : f.stepCount action = 0) :
    f.move action = ({ f with touched := true }, []) := by
  simp [Forms.move, hn, Forms.steps]

/-- R27, R36: a motion that stays on the form touches it. -/
theorem Forms.move_of_within (f : Forms) (action : MotionAction) (k : Nat) (hn : f.stepCount action = k) (h0 : 1 ≤ k)
    (h1 : 1 ≤ f.line) (h : f.line + k ≤ f.table.length) :
    f.move action = ({ f with line := f.line + k, layers := 0, touched := true }, []) := by
  have hline : f.line + k ≠ 1 := by omega
  simp [Forms.move, hn, Forms.steps_of_within k f h0 h, hline]

/-- R26, R36: a motion that crosses the end of the form queues its marker, and touches the next form unless the crossing
is its last step. -/
theorem Forms.move_of_crossing (f : Forms) (action : MotionAction) (k : Nat) (hn : f.stepCount action = k)
    (hl : f.line ≤ f.table.length) (hk : k ≤ f.table.length) (h : f.table.length < f.line + k) :
    f.move action =
      ({ f with
          form := nextForm f.form
          line := f.line + k - f.table.length
          layers := 0
          touched := decide (f.line + k ≠ f.table.length + 1) }, [f.endMark]) := by
  have htouched : (k == 0 || f.line + k - f.table.length != 1) = decide (f.line + k ≠ f.table.length + 1) := by
    rw [Bool.eq_iff_iff, Bool.or_eq_true, beq_iff_eq, bne_iff_ne, decide_eq_true_iff]
    omega
  simp only [Forms.move, hn, Forms.steps_of_crossing k f hl hk h, htouched]

/-- Settles O18: a motion of at most a form round stays on the form or crosses its end once, and the least number of steps
to a stop is found among those of one round. -/
theorem motionsEndWhereTheyShould : Obligations.MotionsEndWhereTheyShould := by
  unfold Obligations.MotionsEndWhereTheyShould
  refine ⟨fun t line channel => ⟨t.carries_iff line channel, t.hasChannel_iff channel⟩, ?_⟩
  rintro f ⟨h12, -, -, -, hl1, hl, -⟩
  refine ⟨f.move_of_none _ rfl, fun action k ha => ?_, ?_⟩
  · have hk : 1 ≤ k ∧ k ≤ f.table.length ∧ f.stepCount action = k := by
      rcases ha with ⟨rfl, h1, h3⟩ | ⟨c, rfl, h1, hk, hc, hj⟩
      · exact ⟨h1, by omega, rfl⟩
      · exact ⟨h1, hk, f.stepCount_skip c k h1 hk hc hj⟩
    obtain ⟨h1, hk, hn⟩ := hk
    exact ⟨fun h => ⟨f.arrival_of_within k hl1 h, f.move_of_within action k hn h1 hl1 h⟩,
      fun h => ⟨f.arrival_of_crossing k hl1 hl hk h, f.move_of_crossing action k hn hl hk h⟩⟩
  · rintro c ⟨st, hst, rfl, hs1, hsl⟩
    obtain ⟨n, hn1, hnl, hna⟩ := f.exists_arrival st.line hl1 hl hs1 hsl
    have hex : ∃ k, 1 ≤ k ∧ f.table.carries (f.arrival k) st.channel = true :=
      ⟨n, hn1, (f.table.carries_iff _ _).mpr ⟨st, hst, hna.symm, rfl⟩⟩
    obtain ⟨h1, hc⟩ := Nat.find_spec hex
    refine ⟨Nat.find hex, h1, ?_, hc, fun j hj1 hj => ?_⟩
    · exact (Nat.find_min' hex ⟨hn1, (f.table.carries_iff _ _).mpr ⟨st, hst, hna.symm, rfl⟩⟩).trans hnl
    · rw [Bool.eq_false_iff]
      exact fun hcj => Nat.find_min hex hj ⟨hj1, hcj⟩

/-! ### FORMS END and placements -/

/-- R29: the flag of a SPACE under an end channel. -/
theorem Forms.formsEnd_space (f : Forms) (n c : Nat) (hc : f.table.endChannel = some c) :
    f.formsEnd (.space n) = true ↔ ∃ k, 1 ≤ k ∧ k ≤ n ∧ f.table.carries (f.arrival k) c = true := by
  simp only [Forms.formsEnd, hc, List.any_eq_true, List.mem_range]
  constructor
  · rintro ⟨k, hk, h⟩
    exact ⟨k + 1, by omega, by omega, h⟩
  · rintro ⟨k, h1, hk, h⟩
    exact ⟨k - 1, by omega, by rwa [Nat.sub_add_cancel h1]⟩

theorem Forms.formsEnd_of_no_channel (f : Forms) (n : Nat) (hc : f.table.endChannel = none) :
    f.formsEnd (.space n) = false := by
  simp [Forms.formsEnd, hc]

theorem Forms.place_of_blank (f : Forms) (clamped : Bool) : f.place [] clamped = (f, []) := rfl

theorem Forms.place_of_text (f : Forms) (text : Text) (clamped : Bool) (h : text ≠ []) :
    f.place text clamped =
      ({ f with layers := raiseLayer f.layers, touched := true },
        [.placedLine ⟨f.form, f.line, raiseLayer f.layers, text, clamped, f.table.length, f.table.pitch⟩]) := by
  simp [Forms.place, h]

theorem raiseLayer_eq (layers : Nat) : raiseLayer layers = if layers < 3 then layers + 1 else 3 := by
  unfold raiseLayer
  split <;> omega

/-- Settles O19: FORMS END by the kind of the motion, and a placement by whether it has text. -/
theorem formsEndAndPlacement : Obligations.FormsEndAndPlacement := by
  unfold Obligations.FormsEndAndPlacement
  refine ⟨fun f action => ?_, fun f clamped => ⟨f.place_of_blank clamped, fun text ht =>
    ⟨_, (raiseLayer_eq f.layers), f.place_of_text text clamped ht⟩⟩⟩
  cases action with
  | skip c =>
    constructor
    · intro h
      cases h
    · rintro ⟨n, _, _, h, _⟩
      cases h
  | space n =>
    cases hc : f.table.endChannel with
    | none =>
      rw [f.formsEnd_of_no_channel n hc]
      simp
    | some c =>
      rw [f.formsEnd_space n c hc]
      constructor
      · rintro ⟨k, h⟩
        exact ⟨n, c, k, rfl, rfl, h⟩
      · rintro ⟨_, _, k, h, hd, hk⟩
        cases h
        cases hd
        exact ⟨k, hk⟩

end Sys2Proof.Machine
end

section
/-! PROOFS. A forms load, and what hardware reset leaves in every block. -/

namespace Sys2Proof.Machine

/-! ### FORMS records (R23, R37, R38) -/

theorem exec_tableForms (s : State) :
    exec .tableForms s =
      s.run fun q => q.tableRow 2 formsFault (applyFront fun body t => t.loadForms (formsOf body)) := rfl

/-- R22: the pitch that a good pitch byte names. -/
theorem formsOf_pitch_mem (body : List Byte) (h : byteAt body 1 = 6 ∨ byteAt body 1 = 8 ∨ byteAt body 1 = 10) :
    (byteAt body 1, (formsOf body).pitch) ∈ ([(6, .lpi6), (8, .lpi8), (10, .lpi10)] : List (Nat × LinePitch)) := by
  simp only [formsOf]
  rcases h with h | h | h <;> rw [h] <;> decide

theorem Forms.load_of_untouched (f : Forms) (t : FormsTable) (h : f.touched = false) :
    f.load t = ({ f with table := t, line := 1, layers := 0 }, none) := by
  simp [Forms.load, h]

theorem Forms.load_of_touched (f : Forms) (t : FormsTable) (h : f.touched = true) :
    f.load t =
      ({ f with table := t, form := nextForm f.form, line := 1, touched := false, layers := 0 }, some f.endMark) :=
  if_pos h

/-- R37: an untouched form keeps its number. -/
theorem State.loadForms_of_untouched (s : State) (t : FormsTable) (h : s.forms.touched = false) :
    s.loadForms t = { s with forms := { s.forms with table := t, line := 1, layers := 0 } } := by
  simp only [State.loadForms, s.forms.load_of_untouched t h]

/-- R37, R38: a touched form ends; with a free entry its marker is queued, and else it is owed. -/
theorem State.loadForms_of_touched (s : State) (t : FormsTable) (h : s.forms.touched = true) :
    s.loadForms t = { s with
      forms := { s.forms with
        table := t
        form := nextForm s.forms.form
        line := 1
        touched := false
        layers := 0
        owed := if s.queue.length < 16 then s.forms.owed else some s.forms.endMark }
      queue := if s.queue.length < 16 then s.queue ++ [.formEnd s.forms.endMark] else s.queue } := by
  have hfree : 0 < s.freeEntries ↔ s.queue.length < 16 := by rw [s.freeEntries_eq]; omega
  simp only [State.loadForms, s.forms.load_of_touched t h, hfree]
  split <;> rfl

/-- A forms load reaches the Forms Controller and the queue alone. -/
theorem State.loadForms_eq (s : State) (t : FormsTable) :
    s.loadForms t = { s with forms := (s.loadForms t).forms, queue := (s.loadForms t).queue } := by
  cases h : s.forms.touched with
  | false => rw [s.loadForms_of_untouched t h]
  | true => rw [s.loadForms_of_touched t h]

/-- Settles O25: the fields by the lemmas of a FORMS record; the load, which reaches no condition, by whether the form is
touched. -/
theorem formsLoadEndsATouchedForm : Obligations.FormsLoadEndsATouchedForm := by
  unfold Obligations.FormsLoadEndsATouchedForm
  refine ⟨fun body => ⟨rfl, formsOf_pitch_mem body⟩, fun body => ?_, ?_⟩
  · obtain ⟨⟨hl, hg⟩, -⟩ := formsFault_spec body _ _ _ _ rfl rfl rfl rfl
    exact ⟨rfl, hl, fun i hi => hg i (hl ▸ hi)⟩
  · rintro s h table hq hn hp hm he hf hr rfl
    have hx := s.loadForms_eq (formsOf (h.kept.drop 3))
    refine ⟨(s.loadForms (formsOf (h.kept.drop 3))).done h false, ?_, ?_, fun ht => ?_, fun ht => ?_⟩
    · rw [exec_tableForms]
      exact s.run_applyFront_unnoticed h 2 formsFault _ hq hp hm he hf hr (by rw [hx]; rfl) (by rw [hx]; exact hn)
    · rw [hx]
      rfl
    · rw [s.loadForms_of_untouched _ ht]
      exact ⟨rfl, rfl⟩
    · rw [s.loadForms_of_touched _ ht]
      exact ⟨rfl, rfl⟩

/-! ### Hardware reset -/

theorem exec_hardwareReset (straps : Straps) (s : State) :
    exec (.hardwareReset straps) s = .next { State.atReset straps with pending := s.pending } := rfl

/-- R43: the entry of a code in the default map. -/
theorem defaultMap_entry (k : Byte) :
    defaultMap.entry k =
      if k = 32 then .blank
      else if 33 ≤ k.toNat ∧ k.toNat ≤ 126 then .glyph (Fin.ofNat 240 (k.toNat - 33))
      else .unprintable := by
  have h : (k = 32#8) = (k.toNat = 32) := by rw [← BitVec.toNat_inj]; rfl
  simp [CharMap.entry, defaultMap, defaultMapEntry, h]

/-- R72: the ranks of the default collation. -/
theorem defaultCollation_get (g : Glyph) : defaultCollation.get g = some (g.val + 1) := by
  simp [defaultCollation, Vector.get_eq_getElem]

theorem countersAtReset_get (k : Fin 16) : countersAtReset.get k = 0 := by
  simp [countersAtReset, Vector.get_eq_getElem]

/-- R165, R188: a link after hardware reset, by whether the arrangement uses it. -/
theorem linkAtReset_of_used (cfg : LinkSettings) (e : Engine) (h : cfg.arrangement.uses e = true) :
    linkAtReset cfg e = (linkAtStart cfg).enterOffering cfg := if_pos h

theorem linkAtReset_of_unused (cfg : LinkSettings) (e : Engine) (h : cfg.arrangement.uses e = false) :
    linkAtReset cfg e = linkAtStart cfg := if_neg (by simp [h])

theorem State.atReset_link (straps : Straps) (e : Engine) :
    (State.atReset straps).link e = linkAtReset (State.atReset straps).settings e := by
  cases e <;> rfl

theorem linkAtReset_state (cfg : LinkSettings) (e : Engine) :
    (linkAtReset cfg e).state = if cfg.arrangement.uses e then .offering else .off := by
  unfold linkAtReset
  split <;> rfl

theorem linkAtReset_pace (cfg : LinkSettings) (e : Engine) : (linkAtReset cfg e).pace = paceAtStart cfg := by
  unfold linkAtReset
  split <;> rfl

theorem linkAtReset_hasBeenReady (cfg : LinkSettings) (e : Engine) : (linkAtReset cfg e).hasBeenReady = false := by
  unfold linkAtReset
  split <;> rfl

theorem linkAtReset_inFlight (cfg : LinkSettings) (e : Engine) : (linkAtReset cfg e).inFlight = [] := by
  unfold linkAtReset
  split <;> rfl

/-- R201: no condition is true after hardware reset. -/
theorem State.atReset_conditions (straps : Straps) : (State.atReset straps).conditions = 0 := by
  have hstop : ∀ e, engineStoppedHolds (State.atReset straps).settings e ((State.atReset straps).link e) = false := by
    intro e
    rw [State.atReset_link, engineStoppedHolds, linkAtReset_state, linkAtReset_hasBeenReady]
    cases (State.atReset straps).settings.arrangement.uses e <;> rfl
  have hdeg : degradedHolds (State.atReset straps) = false := by
    have hp : ∀ e, ((State.atReset straps).link e).pace.degraded = false := fun e => by
      rw [State.atReset_link, linkAtReset_pace]
      rfl
    simp [degradedHolds, show (State.atReset straps).linkA.pace.degraded = false from hp .a,
      show (State.atReset straps).linkB.pace.degraded = false from hp .b]
  apply inSet_ext
  intro x
  rw [State.inSet_conditions, show (0 : NoticeSet) = 0#10 from rfl, inSet_empty]
  cases x with
  | engineStoppedA => exact hstop .a
  | engineStoppedB => exact hstop .b
  | degraded => exact hdeg
  | _ => rfl

/-- Settles O5: each value is read off the state after hardware reset; the map, the collation and the counters by the
lemma of their entries, and a link by whether the arrangement uses it. -/
theorem hardwareResetReachesEveryBlock : Obligations.HardwareResetReachesEveryBlock := by
  unfold Obligations.HardwareResetReachesEveryBlock
  intro straps s
  refine ⟨{ State.atReset straps with pending := s.pending }, exec_hardwareReset straps s, rfl, defaultMap_entry, rfl,
    rfl, rfl, rfl, defaultCollation_get, rfl, rfl, ?_, rfl, rfl, rfl, rfl, rfl, rfl, rfl, fun e => ?_, rfl,
    State.atReset_conditions straps, countersAtReset_get⟩
  · show defaultPlan straps.gang = _
    cases straps.gang <;> rfl
  · have hl : ({ State.atReset straps with pending := s.pending } : State).link e =
        linkAtReset (State.atReset straps).settings e := by cases e <;> rfl
    rw [hl]
    cases hu : (State.atReset straps).settings.arrangement.uses e with
    | true =>
      rw [linkAtReset_of_used _ e hu]
      exact ⟨rfl, rfl, rfl, rfl, rfl, rfl, rfl, rfl, rfl, rfl, fun _ => ⟨rfl, rfl⟩⟩
    | false =>
      rw [linkAtReset_of_unused _ e hu]
      exact ⟨rfl, rfl, rfl, rfl, rfl, rfl, rfl, rfl, rfl, rfl, fun h => by cases h⟩

/-! ### The invariants at hardware reset -/

/-- R16, R143, R186: nothing is due after hardware reset. -/
theorem State.atReset_quiet (straps : Straps) : (State.atReset straps).quiet := by
  have hw : ∀ e, ((State.atReset straps).link e).windowDue = false := fun e => by
    rw [State.atReset_link, Link.windowDue, linkAtReset_pace]
    rfl
  refine ⟨rfl, hw .a, hw .b, ?_, rfl, rfl, rfl⟩
  rw [State.grantDue, show (State.atReset straps).oldestReady = none from rfl]
  simp

/-- R141: nothing is in flight after hardware reset. -/
theorem State.atReset_inFlight (straps : Straps) (e : Engine) : ((State.atReset straps).link e).inFlight = [] := by
  rw [State.atReset_link, linkAtReset_inFlight]

/-- R138: every slot is FREE after hardware reset. -/
theorem not_mem_emptyRing (x : Occupied) : some x ∉ emptyRing := by simp [emptyRing]

theorem State.atReset_linesSound (straps : Straps) : (State.atReset straps).linesSound := by
  rintro o ho x rfl
  exact absurd ho (not_mem_emptyRing x)

theorem State.atReset_guidesSound (straps : Straps) : (State.atReset straps).guidesSound := by
  rintro o ho x rfl
  exact absurd ho (not_mem_emptyRing x)

/-- R22: the default FORMS table is within its ranges. -/
theorem defaultForms_valid : defaultForms.valid := by decide

/-- R71, R72: so is the default collation. -/
theorem defaultCollation_valid : collationValid defaultCollation := by
  intro g r hr
  rw [defaultCollation_get] at hr
  cases hr
  omega

/-- R89, R109: so are the two plans of the GANG strap. -/
theorem defaultPlan_valid (gang : Bool) : (defaultPlan gang).valid := by cases gang <;> decide

/-- R161: so are the settings of every arrangement. -/
theorem defaultSettings_valid (a : Arrangement) : (defaultSettings a).valid := by cases a <;> decide

/-- R75: so is the default field layout. -/
theorem defaultLayout_valid : defaultLayout.valid := by decide

theorem State.atReset_tablesSound (straps : Straps) : (State.atReset straps).tablesSound :=
  ⟨defaultForms_valid, defaultCollation_valid, defaultLayout_valid, defaultPlan_valid straps.gang,
    defaultSettings_valid _, fun x hx => by cases hx⟩

theorem State.atReset_queueSound (straps : Straps) : (State.atReset straps).queueSound := by
  have hf : (formsAtStart defaultForms).inRange := by decide
  exact ⟨hf, rfl, Nat.zero_le 16, fun _ => rfl⟩

/-- R181: no link is READY after hardware reset. -/
theorem State.atReset_failoverSettled (straps : Straps) : (State.atReset straps).failoverSettled := by
  rintro - - h
  rw [State.atReset_link, linkAtReset_state] at h
  split at h <;> cases h

theorem State.atReset_ringSound (straps : Straps) : (State.atReset straps).ringSound := by
  have hring : (State.atReset straps).ring = emptyRing := rfl
  exact ⟨rfl, by rw [hring]; decide, fun _ => rfl⟩

theorem State.atReset_runSound (straps : Straps) : (State.atReset straps).runSound := by
  have hsheets : sheetsOf (State.atReset straps).ring = [] := rfl
  rw [State.runSound, hsheets]
  exact ⟨List.nodup_nil, fun x hx => by cases hx⟩

theorem State.atReset_flightSound (straps : Straps) : (State.atReset straps).flightSound := fun e => by
  rw [State.atReset_inFlight]
  exact ⟨Nat.zero_le 2, fun _ => Iff.rfl⟩

theorem State.atReset_flightOrdered (straps : Straps) : (State.atReset straps).flightOrdered := fun e => by
  rw [State.atReset_inFlight]
  exact ⟨List.nodup_nil, Nat.zero_le 1, fun q hq => by cases hq⟩

/-- R207: nothing pends after hardware reset. -/
theorem State.atReset_latchedSound (straps : Straps) : (State.atReset straps).latchedSound := fun _ => by
  rw [State.atReset_conditions, show (State.atReset straps).notices.pending = 0 from rfl]
  rfl

/-- R206: no source is live and no pattern shown at hardware reset. -/
theorem noticesAtReset_callSound : noticesAtReset.callSound := by decide

/-- Settles O6: the straps of State.reset are among all straps, and each invariant holds by its lemma above. -/
theorem resetMeetsTheInvariants : Obligations.ResetMeetsTheInvariants := by
  unfold Obligations.ResetMeetsTheInvariants
  intro s hs
  obtain ⟨straps, rfl⟩ : ∃ straps, s = State.atReset straps := hs.elim (fun h => ⟨_, h⟩) id
  exact ⟨State.atReset_quiet straps, State.atReset_queueSound straps, State.atReset_ringSound straps,
    State.atReset_runSound straps, State.atReset_flightSound straps, State.atReset_flightOrdered straps,
    State.atReset_linesSound straps, State.atReset_guidesSound straps, State.atReset_latchedSound straps,
    State.atReset_tablesSound straps, noticesAtReset_callSound, State.atReset_failoverSettled straps⟩

end Sys2Proof.Machine
end

section
/-! PROOFS. A record that passes its range tests holds a table within its ranges. -/

namespace Sys2Proof.Machine

/-- A test that decides nothing has passed, and so have the tests after it. -/
theorem ite_some_eq_none_iff {α : Type} {c : Prop} [Decidable c] {x : α} {r : Option α} :
    (if c then some x else r) = none ↔ ¬c ∧ r = none := by
  by_cases h : c <;> simp [h]

/-- Rows numbered from 0, none of which fails. -/
theorem firstFault_range_passes {n : Nat} {f : Nat → RangeTest} (h : firstFault ((List.range n).map f) = none) (g : Nat)
    (hg : g < n) : (f g).fails = false := by
  rw [firstFault, Option.map_eq_none_iff, List.find?_eq_none] at h
  simpa using h (f g) (List.mem_map_of_mem (List.mem_range.mpr hg))

/-! ### The short tables -/

/-- R73: a COLLATION that passes its tests. -/
theorem collationOf_valid (body : List Byte) (h : collationFault body = none) : collationValid (collationOf body) := by
  intro g r hr
  have hb : byteAt body g.val ≤ 250 := by
    have hp := firstFault_range_passes h g.val g.isLt
    simp only [decide_eq_false_iff_not] at hp
    omega
  rw [collationOf_get] at hr
  split at hr
  · cases hr
  · next h0 =>
    cases hr
    omega

/-- R76: a FIELD LAYOUT that passes its tests. -/
theorem layoutOf_valid (body : List Byte) (h : layoutFault body = none) : (layoutOf body).valid := by
  rw [layoutFault_eq] at h
  simp only [ite_some_eq_none_iff, and_true] at h
  obtain ⟨hstart, hlen, hsum, hfirst, -, hlast, -⟩ := h
  refine ⟨?_, ?_, ?_, ?_, ?_, fun z hz => ?_⟩
  · show 1 ≤ byteAt body 0
    omega
  · show byteAt body 0 ≤ 160
    omega
  · show 1 ≤ byteAt body 1
    omega
  · show byteAt body 1 ≤ 40
    omega
  · show byteAt body 0 + byteAt body 1 - 1 ≤ 160
    omega
  · simp only [layoutOf, Option.mem_def] at hz
    split at hz
    · cases hz
    · cases hz
      simp only
      omega

/-- R91, R110: a SHEET PLAN that passes its tests. -/
theorem planOf_valid (body : List Byte) (h : planFault body = none) : (planOf body).valid := by
  rw [planFault_eq body (planOf body).rightEdge (planOf body).bottomEdge rfl rfl] at h
  simp only [ite_some_eq_none_iff, and_true, not_or, not_lt] at h
  obtain ⟨⟨hg, hg'⟩, ⟨hw, hw'⟩, ⟨hh, hh'⟩, hl, ht, ⟨hc, hc'⟩, ⟨hcw, hcw'⟩, hgu, hhd, ⟨hd, hd'⟩, hs, hr, hb, ⟨hgw, hgw'⟩,
    hf, -⟩ := h
  refine ⟨Nat.one_le_iff_ne_zero.mpr hg, hg', hw, hw', hh, hh', hl, ht, hc, hc', hcw, hcw', hgu, hhd, hd, hd', hs, hr, hb,
    Nat.one_le_iff_ne_zero.mpr hgw, hgw', fun n hn => ?_⟩
  simp only [planOf, Option.mem_def] at hn
  split at hn
  · cases hn
  · cases hn
    omega

/-- R161: an advertised set of 1 to 15 holds a mode. -/
theorem advertised_ne_zero (n : Nat) (h1 : 1 ≤ n) (h15 : n ≤ 15) : BitVec.ofNat 4 n ≠ 0 := by
  intro h
  have h' := congrArg BitVec.toNat h
  simp only [BitVec.ofNat_eq_ofNat, BitVec.toNat_ofNat] at h'
  omega

/-- R162: LINK SETTINGS that pass their tests. -/
theorem settingsOf_valid (body : List Byte) (h : settingsFault body = none) : (settingsOf body).valid := by
  rw [settingsFault_eq] at h
  simp only [ite_some_eq_none_iff, and_true, not_or, not_lt] at h
  obtain ⟨-, ⟨ha, ha'⟩, hs, ⟨ht, ht'⟩, ⟨hk, hk'⟩, ⟨hw, hw'⟩, hp, ⟨hd, hd'⟩⟩ := h
  have hpace : byteAt body 9 ≤ 255 := Nat.lt_succ_iff.mp (body.getD 9 0).isLt
  refine ⟨advertised_ne_zero _ (Nat.one_le_iff_ne_zero.mpr ha) ha', ?_, Nat.mul_mod_right 100 _, ht, ht', hk, hk', hw, hw',
    Nat.one_le_iff_ne_zero.mpr hp, hpace, Nat.one_le_iff_ne_zero.mpr hd, hd'⟩
  show 100 * byteAt body 2 ≤ 5000
  omega

/-! ### FORMS -/

/-- R23: stops whose tests pass are within their ranges, distinct, and none of those seen before. -/
theorem stops_of_no_fault (length : Nat) : ∀ (k : Nat) (seen stops : List Stop),
    firstFault (stopTests length k seen stops) = none → stops.Nodup ∧ ∀ st ∈ stops, st.goodAfter length seen
  | _, _, [], _ => ⟨List.nodup_nil, fun _ hst => by cases hst⟩
  | k, seen, st :: rest, h => by
    rw [firstFault_stopTests_cons] at h
    simp only [ite_some_eq_none_iff] at h
    obtain ⟨hline, hchannel, hseen, hrest⟩ := h
    obtain ⟨hnodup, hgood⟩ := stops_of_no_fault length (k + 1) (st :: seen) rest hrest
    refine ⟨List.nodup_cons.mpr ⟨fun hm => ?_, hnodup⟩, fun u hu => ?_⟩
    · obtain ⟨-, -, -, -, hn⟩ := hgood st hm
      exact hn List.mem_cons_self
    · rcases List.mem_cons.mp hu with rfl | hu
      · exact ⟨by omega, by omega, by omega, by omega, hseen⟩
      · obtain ⟨h1, h2, h3, h4, hn⟩ := hgood u hu
        exact ⟨h1, h2, h3, h4, fun hm => hn (List.mem_cons_of_mem _ hm)⟩

/-- R23: the header of a FORMS body that passes its tests. -/
theorem header_of_formsFault_none (body : List Byte) (h : formsFault body = none) :
    12 ≤ byteAt body 0 ∧ byteAt body 0 ≤ 144 ∧ (byteAt body 1 = 6 ∨ byteAt body 1 = 8 ∨ byteAt body 1 = 10) ∧
      byteAt body 2 ≤ 12 := by
  have hl : 12 ≤ byteAt body 0 ∧ byteAt body 0 ≤ 144 := by
    by_contra hn
    rw [formsFault_length body (by omega)] at h
    cases h
  have hp : byteAt body 1 = 6 ∨ byteAt body 1 = 8 ∨ byteAt body 1 = 10 := by
    by_contra hn
    rw [formsFault_pitch body hl.1 hl.2 (by omega) (by omega) (by omega)] at h
    cases h
  refine ⟨hl.1, hl.2, hp, ?_⟩
  by_contra hn
  rw [formsFault_end body hl.1 hl.2 hp (by omega)] at h
  cases h

/-- R189: a FORMS record well framed has the bytes of 1 to 32 stops. -/
theorem forms_body_length (kept : List Byte) (hk : kept.head?.map (fun b => b.toNat) = some 2)
    (hf : framingFault kept = none) : 5 ≤ (kept.drop 3).length ∧ (kept.drop 3).length ≤ 67 := by
  match kept with
  | [] => cases hk
  | [_] => cases hf
  | [_, _] => cases hf
  | k :: hi :: lo :: body =>
    have hk2 : k.toNat = 2 := by simpa using hk
    rw [framingFault_of_named k hi lo body (by omega) (by omega)] at hf
    simp only [ite_some_eq_none_iff] at hf
    obtain ⟨-, hg, -⟩ := hf
    obtain ⟨h5, h67, -⟩ : 5 ≤ body.length ∧ body.length ≤ 67 ∧ body.length % 2 = 1 := by
      simpa [bodyLengthGood, hk2] using hg
    exact ⟨h5, h67⟩

/-- R23: a FORMS record that passes its tests. -/
theorem formsOf_valid (body : List Byte) (h : formsFault body = none) (h5 : 5 ≤ body.length) (h67 : body.length ≤ 67) :
    (formsOf body).valid := by
  obtain ⟨h12, h144, hp, he⟩ := header_of_formsFault_none body h
  rw [formsFault_of_header body h12 h144 hp he, Option.or_eq_none_iff, ite_some_eq_none_iff] at h
  obtain ⟨hstops, hend, -⟩ := h
  obtain ⟨hnodup, hgood⟩ := stops_of_no_fault _ _ _ _ hstops
  have hlen : (formsOf body).stops.length = (body.length - 3) / 2 := by
    rw [formsOf, stopPairs_length, List.length_drop]
  refine ⟨h12, h144, by omega, by omega, hnodup, fun st hst => ?_, fun c hc => ?_⟩
  · obtain ⟨h1, h2, h3, h4, -⟩ := hgood st hst
    exact ⟨h1, h2, h3, h4⟩
  · simp only [formsOf, Option.mem_def] at hc
    split at hc
    · cases hc
    · next h0 =>
      cases hc
      refine ⟨by omega, he, ?_⟩
      by_contra hn
      exact hend ⟨h0, fun st hst hch => hn ⟨st, hst, hch⟩⟩

end Sys2Proof.Machine
end

section
/-! PROOFS. The operations behind the Intake Queue: what they leave of the Line Port, the virtual form, the queue and the
tables in force. -/

namespace Sys2Proof.Machine

/-- From `s` to `t` the part worked behind the Intake Queue alone: the port state, the virtual form and the tables in
force stand, and the queue lost entries from its head at most. -/
structure State.BackOnly (s t : State) : Prop where
  port : t.lp.port = s.lp.port
  forms : t.forms = s.forms
  queue : t.queue <:+ s.queue
  collation : t.keys.collation = s.keys.collation
  layout : t.keys.layout = s.keys.layout
  plan : t.composer.plan = s.composer.plan
  settings : t.settings = s.settings

theorem State.BackOnly.refl (s : State) : s.BackOnly s := ⟨rfl, rfl, List.suffix_rfl, rfl, rfl, rfl, rfl⟩

theorem State.BackOnly.trans {s t u : State} (h : s.BackOnly t) (k : t.BackOnly u) : s.BackOnly u where
  port := k.port.trans h.port
  forms := k.forms.trans h.forms
  queue := k.queue.trans h.queue
  collation := k.collation.trans h.collation
  layout := k.layout.trans h.layout
  plan := k.plan.trans h.plan
  settings := k.settings.trans h.settings

/-- With the queue as it was, only the fields named here may differ. -/
theorem State.BackOnly.of_eq {s t : State} (h : t = { s with
    lp := { t.lp with port := s.lp.port }
    map := t.map
    keys := { s.keys with heldKey := t.keys.heldKey }
    composer := { t.composer with plan := s.composer.plan }
    ring := t.ring
    dispatcher := t.dispatcher
    linkA := t.linkA
    linkB := t.linkB
    notices := t.notices
    counters := t.counters
    pending := t.pending }) : s.BackOnly t := by
  rw [h]
  exact ⟨rfl, rfl, List.suffix_rfl, rfl, rfl, rfl, rfl⟩

/-- The links, the active engine and the notices lie behind the queue. -/
theorem State.LinksOnly.backOnly {s t : State} (h : s.LinksOnly t) : s.BackOnly t := by
  rw [h]
  exact .of_eq rfl

/-- So does the ring. -/
theorem State.BackOnly.of_ring {s t : State} (h : s.BackOnly t) (r : Ring) : s.BackOnly { t with ring := r } :=
  h.trans (.of_eq rfl)

theorem State.count_backOnly (s : State) (c : Counter) (n : Nat) : s.BackOnly (s.count c n) :=
  .of_eq rfl

theorem State.removeHead_backOnly (s : State) : s.BackOnly s.removeHead :=
  ⟨rfl, rfl, List.tail_suffix _, rfl, rfl, rfl, rfl⟩

theorem State.modSheet_backOnly (s : State) (f : Sheet → Sheet) : s.BackOnly (s.modSheet f) :=
  .of_eq rfl

theorem State.openSheet_backOnly (s : State) : s.BackOnly s.openSheet :=
  .of_eq rfl

theorem State.post_backOnly (s : State) (x : Source10) : s.BackOnly (s.post x) := (s.post_linksOnly x).backOnly

theorem State.modLink_backOnly (s : State) (e : Engine) (f : Link → Link) : s.BackOnly (s.modLink e f) :=
  (s.modLink_linksOnly e f).backOnly

/-- Settling the notices lies behind the queue. -/
theorem State.BackOnly.settled {s t : State} (h : s.BackOnly t) (b : State) : s.BackOnly (b.settleNotices t) :=
  h.trans (.of_eq rfl)

/-! ### The composer -/

theorem State.withSheet_backOnly (s : State) (work : State → State) (hw : ∀ u : State, u.BackOnly (work u)) :
    s.BackOnly (s.withSheet work) := by
  unfold State.withSheet
  split
  · exact hw s
  · split
    · exact s.openSheet_backOnly.trans (hw s.openSheet)
    · exact .of_eq rfl

/-- R83: a judgement changes the held key and no table. -/
theorem KeyComparator.afterLine_tables (k : KeyComparator) (text : Text) :
    (k.afterLine text).collation = k.collation ∧ (k.afterLine text).layout = k.layout := by
  unfold KeyComparator.afterLine
  split <;> exact ⟨rfl, rfl⟩

theorem State.afterLine_backOnly (s : State) (text : Text) : s.BackOnly { s with keys := s.keys.afterLine text } := by
  obtain ⟨hc, hl⟩ := s.keys.afterLine_tables text
  exact ⟨rfl, rfl, List.suffix_rfl, hc, hl, rfl, rfl⟩

theorem State.judgeLine_backOnly (s : State) (text : Text) : s.BackOnly (s.judgeLine text) := by
  have hk := s.afterLine_backOnly text
  unfold State.judgeLine
  simp only
  split
  · exact hk
  · exact hk.trans (State.count_backOnly _ _ _)
  · exact hk.trans (State.count_backOnly _ _ _)
  · exact (hk.trans (State.count_backOnly _ _ _)).trans (State.count_backOnly _ _ _)
  · exact ((hk.trans (State.count_backOnly _ _ _)).trans (State.count_backOnly _ _ _)).trans (State.post_backOnly _ _)

theorem State.addOrClip_backOnly (s : State) (p : PlacedEntry) (v : Verdict) : s.BackOnly (s.addOrClip p v) := by
  unfold State.addOrClip
  split
  · exact .refl s
  · split
    · exact s.count_backOnly _ _
    · exact s.modSheet_backOnly _

theorem State.placeJudged_backOnly (s : State) (p : PlacedEntry) : s.BackOnly (s.placeJudged p) :=
  s.withSheet_backOnly _ fun u => ((((u.modSheet_backOnly _).trans (State.judgeLine_backOnly _ _)).trans
    (State.addOrClip_backOnly _ _ _)).trans (State.count_backOnly _ _ _)).trans (State.removeHead_backOnly _)

theorem State.placeUnjudged_backOnly (s : State) (p : PlacedEntry) : s.BackOnly (s.placeUnjudged p) :=
  s.withSheet_backOnly _ fun u => (((u.modSheet_backOnly _).trans (State.addOrClip_backOnly _ _ _)).trans
    (State.count_backOnly _ _ _)).trans (State.removeHead_backOnly _)

theorem State.merge_backOnly (s : State) (p : PlacedEntry) : s.BackOnly (s.merge p) :=
  (((s.modSheet_backOnly _).trans (State.count_backOnly _ _ _)).trans (State.count_backOnly _ _ _)).trans
    (State.removeHead_backOnly _)

theorem State.countFits_backOnly (s : State) (ls : List Line) : s.BackOnly (s.countFits ls) :=
  (s.count_backOnly _ _).trans (State.count_backOnly _ _ _)

theorem State.closeSheet_backOnly (s : State) (sh : Sheet) : s.BackOnly (s.closeSheet sh) :=
  .of_eq rfl

theorem State.flush_backOnly (s : State) : s.BackOnly s.flush := by
  unfold State.flush
  split
  · exact .refl s
  · exact s.closeSheet_backOnly _

theorem State.closeColumn_backOnly (s : State) : s.BackOnly s.closeColumn := by
  unfold State.closeColumn
  split
  · exact .refl s
  · exact (s.countFits_backOnly _).trans (State.modSheet_backOnly _ _)

theorem State.afterColumn_backOnly (s : State) : s.BackOnly s.afterColumn := by
  unfold State.afterColumn
  split
  · exact .refl s
  · split
    · exact s.closeSheet_backOnly _
    · exact .of_eq rfl

theorem State.closeForm_backOnly (s : State) (f : FormEndMark) : s.BackOnly (s.closeForm f) :=
  s.withSheet_backOnly _ fun u => (((u.modSheet_backOnly _).trans (State.closeColumn_backOnly _)).trans
    (State.afterColumn_backOnly _)).trans (State.removeHead_backOnly _)

/-! ### The ring and the links -/

theorem State.returnAll_backOnly (s : State) (e : Engine) : s.BackOnly (s.returnAll e) :=
  (s.modLink_backOnly e _).of_ring _

theorem State.wakeComposer_backOnly (s : State) : s.BackOnly s.wakeComposer := by
  unfold State.wakeComposer
  split
  · exact s.openSheet_backOnly
  · exact .refl s

theorem State.release_backOnly (s : State) (e : Engine) (seq : Word16) : s.BackOnly (s.release e seq) :=
  (((s.modLink_backOnly e _).trans (State.count_backOnly _ _ _)).of_ring _).trans (State.wakeComposer_backOnly _)

theorem State.foldl_release_backOnly (e : Engine) : ∀ (qs : List Word16) (s : State),
    s.BackOnly (qs.foldl (fun t q => t.release e q) s)
  | [], s => .refl s
  | q :: qs, s => (s.release_backOnly e q).trans (State.foldl_release_backOnly e qs _)

theorem State.releaseThrough_backOnly (s : State) (e : Engine) (seq : Word16) : s.BackOnly (s.releaseThrough e seq) :=
  State.foldl_release_backOnly e _ s

theorem State.releaseCovered_backOnly (s : State) (e : Engine) (last : Option Word16) :
    s.BackOnly (s.releaseCovered e last) := by
  unfold State.releaseCovered
  split
  · exact .refl s
  · split
    · exact s.releaseThrough_backOnly e _
    · exact .refl s

theorem State.failover_backOnly (s : State) : s.BackOnly s.failover := s.failover_linksOnly.backOnly

theorem State.leaveWork_backOnly (s : State) (e : Engine) (target : Link → Link) : s.BackOnly (s.leaveWork e target) :=
  (s.leaveWork_linksOnly e target).backOnly

theorem State.afterRelease_backOnly (s : State) (e : Engine) : s.BackOnly (s.afterRelease e) := by
  unfold State.afterRelease
  split
  · exact s.leaveWork_backOnly e _
  · exact .refl s

theorem State.negotiationFault_backOnly (s : State) (e : Engine) : s.BackOnly (s.negotiationFault e) :=
  (s.negotiationFault_linksOnly e).backOnly

theorem State.countOffer_backOnly (s : State) (e : Engine) (modes : ModeSet) : s.BackOnly (s.countOffer e modes) := by
  have hl := fun l => (s.setLink_linksOnly e l).backOnly
  unfold State.countOffer
  simp only
  split
  · exact hl _
  · split
    · exact hl _
    · exact (hl _).trans (State.negotiationFault_backOnly _ e)

/-- R155, R158: sheets returned, and the link OFFERING anew or OFF. -/
theorem State.offerFrame_backOnly (s : State) (e : Engine) (modes : ModeSet) (ack : Bool) :
    s.BackOnly (s.offerFrame e modes ack) := by
  have hlost : s.BackOnly (if (s.returnAll e).uses e then (s.returnAll e).restartOffering e modes
      else (s.returnAll e).modLink e Link.enterOff) := by
    split <;> exact (s.returnAll_backOnly e).trans (State.modLink_backOnly _ e _)
  unfold State.offerFrame
  simp only
  split
  · exact .refl s
  · exact s.countOffer_backOnly e modes
  · split
    · split
      · exact s.modLink_backOnly e _
      · exact .refl s
    · exact s.modLink_backOnly e _
  · split <;> exact s.modLink_backOnly e _
  · exact hlost
  · exact hlost
  · exact .refl s

theorem State.idleFrame_backOnly (s : State) (e : Engine) : s.BackOnly (s.idleFrame e) := by
  unfold State.idleFrame
  split <;> first | exact s.modLink_backOnly e _ | exact .refl s

theorem State.takenFrame_backOnly (s : State) (e : Engine) (seq : Word16) : s.BackOnly (s.takenFrame e seq) := by
  have hheard := s.modLink_backOnly e Link.heard
  unfold State.takenFrame
  simp only
  split
  · exact .refl s
  · split
    · split
      · exact hheard.trans ((State.modLink_backOnly _ e _).of_ring _)
      · exact hheard
    · exact hheard.trans (State.count_backOnly _ _ _)

theorem State.stackedFrame_backOnly (s : State) (e : Engine) (seq : Word16) : s.BackOnly (s.stackedFrame e seq) := by
  have hheard := s.modLink_backOnly e Link.heard
  unfold State.stackedFrame
  simp only
  split
  · exact .refl s
  · split
    · exact ((hheard.trans (State.releaseThrough_backOnly _ e seq)).trans (State.modLink_backOnly _ e _)).trans
        (State.afterRelease_backOnly _ e)
    · exact hheard.trans (State.count_backOnly _ _ _)

theorem State.stopFrame_backOnly (s : State) (e : Engine) (cause : StopCause) : s.BackOnly (s.stopFrame e cause) := by
  have hheard := s.modLink_backOnly e Link.heard
  unfold State.stopFrame
  simp only
  split
  · exact (hheard.trans (State.returnAll_backOnly _ e)).trans (State.leaveWork_backOnly _ e _)
  · exact hheard.trans (State.modLink_backOnly _ e _)
  · exact hheard.trans (State.modLink_backOnly _ e _)
  all_goals exact .refl s

theorem State.jamFrame_backOnly (s : State) (e : Engine) (last : Option Word16) : s.BackOnly (s.jamFrame e last) := by
  have hheard := s.modLink_backOnly e Link.heard
  unfold State.jamFrame
  simp only
  split
  · exact ((hheard.trans (State.releaseCovered_backOnly _ e last)).trans (State.returnAll_backOnly _ e)).trans
      (State.leaveWork_backOnly _ e _)
  · exact hheard.trans (State.modLink_backOnly _ e _)
  · exact hheard.trans (State.modLink_backOnly _ e _)
  all_goals exact .refl s

theorem State.readyFrame_backOnly (s : State) (e : Engine) : s.BackOnly (s.readyFrame e) := by
  unfold State.readyFrame
  split
  · exact (s.modLink_backOnly e _).trans (State.post_backOnly _ _)
  · exact s.modLink_backOnly e _
  · exact s.modLink_backOnly e _
  all_goals exact .refl s

theorem State.sendSheetEnd_backOnly (s : State) (e : Engine) : s.BackOnly (s.sendSheetEnd e) := by
  unfold State.sendSheetEnd
  split
  · exact .refl s
  · exact s.modLink_backOnly e _

/-! ### The timers -/

theorem State.repeatOffer_backOnly (s : State) (e : Engine) : s.BackOnly (s.repeatOffer e) := by
  unfold State.repeatOffer
  split <;> first | exact s.modLink_backOnly e _ | exact .refl s

theorem State.plainDetection_backOnly (s : State) (e : Engine) : s.BackOnly (s.plainDetection e) := by
  unfold State.plainDetection
  split
  · exact s.modLink_backOnly e _
  · exact s.negotiationFault_backOnly e

theorem State.offerWindowEnds_backOnly (s : State) (e : Engine) : s.BackOnly (s.offerWindowEnds e) := by
  unfold State.offerWindowEnds
  simp only
  split
  · split
    · exact s.negotiationFault_backOnly e
    · split
      · exact s.plainDetection_backOnly e
      · exact (s.setLink_linksOnly e _).backOnly
  · exact .refl s

theorem State.ackWindowEnds_backOnly (s : State) (e : Engine) : s.BackOnly (s.ackWindowEnds e) := by
  unfold State.ackWindowEnds
  split
  · exact s.modLink_backOnly e _
  · exact .refl s

theorem State.settleEnds_backOnly (s : State) (e : Engine) : s.BackOnly (s.settleEnds e) := by
  unfold State.settleEnds
  split
  · exact s.modLink_backOnly e _
  · exact .refl s

theorem State.linkLost_backOnly (s : State) (e : Engine) : s.BackOnly (s.linkLost e) := by
  unfold State.linkLost
  simp only
  split
  · split <;> exact (s.returnAll_backOnly e).trans (State.modLink_backOnly _ e _)
  · exact .refl s

theorem State.breakEnds_backOnly (s : State) (e : Engine) : s.BackOnly (s.breakEnds e) := by
  unfold State.breakEnds
  split
  · exact s.modLink_backOnly e _
  · exact .refl s

theorem State.timedOut_backOnly (s : State) (e : Engine) : s.BackOnly (s.timedOut e) :=
  (s.returnAll_backOnly e).trans (State.leaveWork_backOnly _ e _)

/-- R173, R175: a timeout, when its timer runs. -/
theorem State.timeout_backOnly (s : State) (e : Engine) (runs : Bool) :
    s.BackOnly (if runs then (s.timedOut e).failover else s) := by
  split
  · exact (s.timedOut_backOnly e).trans (State.failover_backOnly _)
  · exact .refl s

/-! ### The due steps -/

theorem State.grantOnce_backOnly (s : State) : s.BackOnly s.grantOnce := by
  rw [s.grantOnce_eq]
  exact .of_eq rfl

theorem State.windowsDue_backOnly (s : State) : s.BackOnly s.windowsDue := s.windowsDue_linksOnly.backOnly

end Sys2Proof.Machine
end

section
/-! PROOFS. The moves of the front: what one command can do to the Line Port, the virtual form, the queue and the tables in
force. Every command is a series of such moves, so a law of those blocks is kept by every command once it is kept by every
move. -/

namespace Sys2Proof.Machine

/-! ### The moves -/

/-- The port keeps the data bytes of an order. -/
def PortState.keepsData : PortState → Bool
  | .takingData _ => true
  | .waitingKind _ _ => true
  | .idle => false
  | .waitingOrder _ _ => false
  | .responding _ _ => false
  | .replying _ => false
  | .syncWithheld _ _ => false

/-- R56, R57: a stream table that waits in the queue is within its ranges. -/
def Entry.tableSound : Entry → Prop
  | .streamTable (.collation c) _ => collationValid c
  | .streamTable (.fieldLayout l) _ => l.valid
  | .streamTable (.sheetPlan p) _ => p.valid
  | .streamTable .keyReset _ => True
  | .placedLine _ => True
  | .formEnd _ => True
  | .sync => True

/-- A motion or a placement took the virtual form from `f` to `g` and queued `n` entries, at most `room`: the table and
the owed marker stand, and a position in range stays in range. -/
structure Forms.MovesTo (f g : Forms) (n room : Nat) : Prop where
  table : g.table = f.table
  owed : g.owed = f.owed
  inRange : f.inRange → g.inRange
  room : f.inRange → n ≤ room

/-- One move of the front. -/
inductive State.FrontMove : State → State → Prop
  /-- Work behind the queue. -/
  | back {s t : State} (h : s.BackOnly t) : FrontMove s t
  /-- The port ends its order, or none was in hand. -/
  | port {s : State} (lp : LinePort) (hp : lp.port.keepsData = false) : FrontMove s { s with lp := lp }
  /-- R3, R4: an order byte is accepted, with the room it needs. -/
  | accept {s : State} (b : Byte) (k : Option OrderKind) (e : Option (Nat × Byte)) (ho : s.owedDue = false)
      (hr : (newHand b k e).reserves ≤ s.freeEntries) : FrontMove s (s.setPortAccept (.takingData (newHand b k e)) true)
  /-- R6: the kind byte of a stream table waits. -/
  | hold {s : State} (h : Hand) (d : Byte) (p : Bool) (hp : s.lp.port = .takingData h) (hh : s.holdsKind h d p = true) :
      FrontMove s (s.setPortAccept (.waitingKind h d) false)
  /-- R8: a data byte is taken. -/
  | take {s : State} (h : Hand) (d : Byte) (p : Bool) (hp : s.lp.port = .takingData h) (ho : s.owedDue = false)
      (hh : ¬s.holdsKind h d p = true) : FrontMove s (s.setPortAccept (.takingData (h.take d p)) true)
  /-- R6: a kind byte that waited is taken. -/
  | takeKind {s : State} (h : Hand) (k : Byte) (hp : s.lp.port = .waitingKind h k) (ho : s.owedDue = false)
      (hr : 0 < s.freeEntries) : FrontMove s (s.setPortAccept (.takingData (h.take k (oddParity k))) true)
  /-- R38: the owed marker takes a free place. -/
  | owed {s : State} (m : FormEndMark) (hm : s.forms.owed = some m) (hr : 0 < s.freeEntries) :
      FrontMove s { s with queue := s.queue ++ [.formEnd m], forms := { s.forms with owed := none } }
  /-- The order in hand is carried out and queues its entries in the room it has reserved. -/
  | finish {s : State} (h : Hand) (f : Forms) (es : List Entry) (lp : LinePort) (hp : s.lp.port = .takingData h)
      (hf : s.forms.MovesTo f es.length h.reserves) (hes : ∀ x ∈ es, x.tableSound) (hlp : lp.port.keepsData = false) :
      FrontMove s { s with forms := f, queue := s.queue ++ es, lp := lp }
  /-- R37: a forms load. -/
  | load {s : State} (t : FormsTable) (hr : s.reserved = 0) (ht : t.valid) : FrontMove s (s.loadForms t)
  /-- R163: new settings. -/
  | settings {s : State} (c : LinkSettings) (hc : c.valid) : FrontMove s { s with settings := c }
  /-- R74: a collation that waited is put in force. -/
  | collation {s : State} (c : Collation) (fenced : Bool) (hm : .streamTable (.collation c) fenced ∈ s.queue) :
      FrontMove s (s.applyCollation c)
  /-- R77: a field layout that waited is put in force. -/
  | layout {s : State} (l : FieldLayout) (fenced : Bool) (hm : .streamTable (.fieldLayout l) fenced ∈ s.queue) :
      FrontMove s (s.applyLayout l)
  /-- R126: a sheet plan that waited is put in force. -/
  | plan {s : State} (p : SheetPlan) (fenced : Bool) (hm : .streamTable (.sheetPlan p) fenced ∈ s.queue) :
      FrontMove s { s with composer := { s.composer with plan := p, column := 1, nextFolio := p.folioStart } }
  /-- R20: the soft reset of the blocks. -/
  | softReset {s : State} : FrontMove s s.softResetBlocks
  /-- R21: hardware reset. -/
  | hardwareReset {s : State} (straps : Straps) : FrontMove s { State.atReset straps with pending := s.pending }

/-- A series of moves of the front. -/
abbrev State.FrontMoves : State → State → Prop := Relation.ReflTransGen State.FrontMove

theorem State.FrontMoves.single {s t : State} (h : s.FrontMove t) : s.FrontMoves t := Relation.ReflTransGen.single h

theorem State.BackOnly.moves {s t : State} (h : s.BackOnly t) : s.FrontMoves t := .single (.back h)

/-- Whatever every move keeps, a series of moves keeps. -/
theorem State.FrontMoves.keeps {I : State → Prop} (hI : ∀ s t : State, I s → s.FrontMove t → I t) {s t : State}
    (h : s.FrontMoves t) (hs : I s) : I t := by
  induction h with
  | refl => exact hs
  | tail _ hm ih => exact hI _ _ ih hm

/-! ### Replies and refusals -/

theorem State.setPort_moves (s : State) (p : PortState) (hp : p.keepsData = false) : s.FrontMoves (s.setPort p) :=
  .single (.port _ hp)

theorem State.present_moves (s : State) (k : ReplyKind) (f c : Bool) : s.FrontMoves (s.present k f c) :=
  s.setPort_moves _ rfl

/-- R14: a refusal writes the Line Port and reaches the counters and the notices. -/
theorem State.RefusedAs.moves {s t : State} {h : Hand} {kind : CheckKind} {position : Option Nat} {detail : Nat}
    (hr : s.RefusedAs t h kind position detail) : s.FrontMoves t := by
  have hx : t = { s with lp := t.lp, counters := t.counters, notices := t.notices } := by rw [hr]
  have hp : t.lp.port.keepsData = false := by rw [hr]; rfl
  have hback : s.BackOnly { s with counters := t.counters, notices := t.notices } :=
    .of_eq rfl
  rw [hx]
  exact hback.moves.tail (.port t.lp hp)

theorem State.refuse_moves (s : State) (h : Hand) (kind : CheckKind) (position : Option Nat) (detail : Nat) :
    s.FrontMoves (s.refuse h kind position detail) :=
  State.RefusedAs.moves (s.refuse_refusedAs h kind position detail)

/-! ### The due steps -/

theorem State.takeOwed_moves (s : State) : s.FrontMoves s.takeOwed := by
  unfold State.takeOwed
  split
  · exact .refl
  · next m hm =>
    split
    · next hr => exact .single (.owed m hm hr)
    · exact .refl

theorem State.syncCompletes_moves (s : State) : s.FrontMoves s.syncCompletes := by
  cases h : s.syncDoneDue with
  | false => rw [s.syncCompletes_of_not_due h]
  | true =>
    obtain ⟨clamped, hx⟩ := s.syncCompletes_of_due h
    rw [hx]
    exact s.present_moves _ _ _

theorem State.syncFails_moves (s : State) : s.FrontMoves s.syncFails := by
  cases h : s.syncFailDue with
  | false => rw [s.syncFails_of_not_due h]
  | true =>
    obtain ⟨clamped, hx⟩ := s.syncFails_of_due h
    rw [hx]
    exact s.refuse_moves _ _ _ _

/-- R4: an order newly accepted has reserved the room it needs. -/
theorem newHand_reserves (b : Byte) (k : OrderKind) : (newHand b (some k) none).reserves = roomNeeded k := by
  cases k <;> rfl

theorem State.acceptOrder_move (s : State) (b : Byte) (k : OrderKind) (ho : s.owedDue = false)
    (ha : s.accepts k = true) : s.FrontMove (s.setPortAccept (.takingData (newHand b (some k) none)) true) := by
  refine .accept b (some k) none ho ?_
  rw [newHand_reserves]
  exact ((s.accepts_iff k).mp ha).1

/-- R61: an owed form end comes before a byte that waits. -/
theorem State.acceptWaiting_moves (s : State) (ho : s.owedDue = false) : s.FrontMoves s.acceptWaiting := by
  unfold State.acceptWaiting
  split
  · next b k hp =>
    split
    · next ha => exact .single (s.acceptOrder_move b k ho ha)
    · exact .refl
  · next h k hp =>
    split
    · next hr => exact .single (.takeKind h k hp ho hr)
    · exact .refl
  all_goals exact .refl

theorem State.PortOnly.owedDue {s t : State} (h : s.PortOnly t) : t.owedDue = s.owedDue := by
  rw [h]
  rfl

theorem State.takeDue_moves (s : State) : s.FrontMoves s.takeDue := by
  have hinner : s.FrontMoves s.takeInnerDue :=
    (s.takeOwed_moves.trans (State.windowsDue_backOnly _).moves).trans
      ((State.grantOnce_backOnly _).trans (State.grantOnce_backOnly _)).moves
  have hsync : s.takeInnerDue.PortOnly s.takeInnerDue.syncCompletes.syncFails :=
    (State.syncCompletes_portOnly _).trans (State.syncFails_portOnly _)
  obtain ⟨ho, -⟩ := s.takeInnerDue_settled
  rw [s.takeDue_eq]
  exact ((hinner.trans (State.syncCompletes_moves _)).trans (State.syncFails_moves _)).trans
    (State.acceptWaiting_moves _ (hsync.owedDue.trans ho))

/-! ### The signals -/

theorem State.takeOrderByte_moves (s : State) (d : Byte) (p : Bool) (ho : s.owedDue = false) :
    s.FrontMoves (s.takeOrderByte d p) := by
  have hnone : ∀ e, s.FrontMoves (s.setPortAccept (.takingData (newHand d none e)) true) := fun e =>
    .single (.accept d none e ho (Nat.zero_le _))
  unfold State.takeOrderByte
  split
  · exact hnone _
  · split
    · exact hnone _
    · next k hk =>
      split
      · exact .single (.port _ rfl)
      · split
        · next ha => exact .single (s.acceptOrder_move d k ho ha)
        · exact .single (.port _ rfl)

theorem State.orderByteStrobed_moves (s : State) (select : Bool) (unit : BitVec 4) (d : Byte) (p : Bool)
    (ho : s.owedDue = false) : s.FrontMoves (s.orderByteStrobed select unit d p) := by
  unfold State.orderByteStrobed
  split
  · split
    · exact s.takeOrderByte_moves d p ho
    all_goals exact .refl
  · exact .refl

theorem State.dataByteStrobed_moves (s : State) (d : Byte) (p : Bool) (ho : s.owedDue = false) :
    s.FrontMoves (s.dataByteStrobed d p) := by
  unfold State.dataByteStrobed
  split
  · next h hp =>
    split
    · next hh => exact .single (.hold h d p hp hh)
    · next hh => exact .single (.take h d p hp ho hh)
  all_goals exact .refl

theorem State.replyTakenSignal_moves (s : State) : s.FrontMoves s.replyTakenSignal := by
  unfold State.replyTakenSignal
  split
  · exact s.setPort_moves _ rfl
  · exact s.present_moves _ _ _
  · exact s.present_moves _ _ _
  · exact s.setPort_moves _ rfl
  all_goals exact .refl

theorem State.lineResetSignal_moves (s : State) : s.FrontMoves s.lineResetSignal :=
  (State.FrontMoves.single .softReset).tail (.port _ rfl)

/-! ### END -/

theorem State.judge_moves (s : State) (h : Hand) (own : State → State)
    (ho : h.parityError = none → s.FrontMoves (own s)) : s.FrontMoves (s.judge h own) := by
  unfold State.judge
  split
  · exact s.refuse_moves _ _ _ _
  · next he =>
    split
    · exact s.refuse_moves _ _ _ _
    · exact ho he

/-- END of an order that its row carries out by moves. -/
theorem State.endRow_moves (s : State) (mine : Hand → Bool) (own : Hand → State → State)
    (ho : ∀ h, s.lp.port = .takingData h → mine h = true → h.parityError = none → s.FrontMoves (own h s)) :
    s.FrontMoves (s.atEnd mine fun h t => t.judge h (own h)) := by
  unfold State.atEnd
  split
  · next h hp =>
    split
    · next hm => exact s.judge_moves h (own h) (ho h hp hm)
    · exact .refl
  all_goals exact .refl

/-! #### Motions and placements -/

theorem nextForm_inRange (form : Nat) (h1 : 1 ≤ form) (h : form ≤ 65535) : 1 ≤ nextForm form ∧ nextForm form ≤ 65535 := by
  unfold nextForm Config.lastForm
  split <;> omega

/-- R209: a motion byte spaces at most 3 lines. -/
theorem motionOf_space_le (b : Byte) (m : Motion) (n : Nat) (h : motionOf b = some m) (ha : m.action = .space n) :
    n ≤ 3 := by
  unfold motionOf at h
  simp only at h
  split at h
  · cases h
  · split at h
    · split at h
      · next hle =>
        cases h
        cases ha
        exact hle
      · cases h
    · split at h
      · cases h
        cases ha
      · cases h
    · cases h

theorem motionOrFault_ok (t : FormsTable) (kept : List Byte) (m : Motion) (h : motionOrFault t kept = .ok m) :
    ∃ b, motionOf b = some m := by
  unfold motionOrFault at h
  split at h
  · cases h
  · next b rest =>
    refine ⟨b, ?_⟩
    split at h
    · cases h
    · next m' hm =>
      split at h
      · cases h
        exact hm
      · split at h
        · cases h
          exact hm
        · cases h

/-- R27, R28: a motion of the part takes at most a form round of steps. -/
theorem Forms.stepCount_le (f : Forms) (b : Byte) (m : Motion) (hm : motionOf b = some m) (h12 : 12 ≤ f.table.length) :
    f.stepCount m.action ≤ f.table.length := by
  cases ha : m.action with
  | space n =>
    have hn := motionOf_space_le b m n hm ha
    rw [f.stepCount_space]
    omega
  | skip c => exact f.stepCount_skip_le c

/-- A motion keeps the table and what is owed, whatever its steps. -/
theorem Forms.steps_keep : ∀ (n : Nat) (f : Forms), (f.steps n).1.table = f.table ∧ (f.steps n).1.owed = f.owed
  | 0, _ => ⟨rfl, rfl⟩
  | n + 1, f => by
    obtain ⟨ht, ho⟩ := Forms.steps_keep n f.stepOnce.1
    obtain ⟨ht1, ho1⟩ : f.stepOnce.1.table = f.table ∧ f.stepOnce.1.owed = f.owed := by
      unfold Forms.stepOnce
      split <;> exact ⟨rfl, rfl⟩
    rw [Forms.steps_succ]
    exact ⟨ht.trans ht1, ho.trans ho1⟩

/-- R26: a motion of the part queues at most one marker and ends in range. -/
theorem Forms.move_movesTo (f : Forms) (b : Byte) (m : Motion) (hm : motionOf b = some m) :
    f.MovesTo (f.move m.action).1 (f.move m.action).2.length 1 := by
  obtain ⟨ht, ho⟩ := Forms.steps_keep (f.stepCount m.action) f
  have hmove : f.inRange → (f.move m.action).1.inRange ∧ (f.move m.action).2.length ≤ 1 := by
    rintro ⟨h12, h144, hf1, hf, hl1, hl, hlay⟩
    have hk := f.stepCount_le b m hm h12
    rcases Nat.eq_zero_or_pos (f.stepCount m.action) with h0 | h0
    · rw [f.move_of_none m.action h0]
      exact ⟨⟨h12, h144, hf1, hf, hl1, hl, hlay⟩, Nat.zero_le 1⟩
    · rcases Nat.lt_or_ge f.table.length (f.line + f.stepCount m.action) with hx | hx
      · rw [f.move_of_crossing m.action _ rfl hl hk hx]
        obtain ⟨hn1, hn⟩ := nextForm_inRange f.form hf1 hf
        exact ⟨⟨h12, h144, hn1, hn, by simp only; omega, by simp only; omega, Nat.zero_le 3⟩, le_rfl⟩
      · rw [f.move_of_within m.action _ rfl h0 hl1 hx]
        exact ⟨⟨h12, h144, hf1, hf, by simp only; omega, hx, Nat.zero_le 3⟩, Nat.zero_le 1⟩
  exact ⟨ht, ho, fun hr => (hmove hr).1, fun hr => (hmove hr).2⟩

/-- R32, R34: a placement queues at most one entry and ends in range. -/
theorem Forms.place_movesTo (f : Forms) (text : Text) (clamped : Bool) :
    f.MovesTo (f.place text clamped).1 (f.place text clamped).2.length 1 := by
  by_cases ht : text = []
  · rw [ht, f.place_of_blank]
    exact ⟨rfl, rfl, id, fun _ => Nat.zero_le 1⟩
  · rw [f.place_of_text text clamped ht]
    refine ⟨rfl, rfl, ?_, fun _ => le_rfl⟩
    rintro ⟨h12, h144, hf1, hf, hl1, hl, -⟩
    exact ⟨h12, h144, hf1, hf, hl1, hl, Nat.min_le_left _ _⟩

/-- One after the other they queue what both queue. -/
theorem Forms.MovesTo.trans {f g h : Forms} {m n a b : Nat} (k : f.MovesTo g m a) (l : g.MovesTo h n b) :
    f.MovesTo h (m + n) (a + b) where
  table := l.table.trans k.table
  owed := l.owed.trans k.owed
  inRange := fun hf => l.inRange (k.inRange hf)
  room := fun hf => Nat.add_le_add (k.room hf) (l.room (k.inRange hf))

theorem Forms.print_movesTo (f : Forms) (b : Byte) (m : Motion) (text : Text) (clamped : Bool)
    (hm : motionOf b = some m) :
    f.MovesTo (f.print m text clamped).1 (f.print m text clamped).2.length 2 := by
  unfold Forms.print
  simp only
  split
  · rw [List.length_append, List.length_map]
    exact (f.place_movesTo text clamped).trans (Forms.move_movesTo _ b m hm)
  · rw [List.length_append, List.length_map]
    exact (f.move_movesTo b m hm).trans (Forms.place_movesTo _ text clamped)

/-- A PRINT and a MOVE queue no table. -/
theorem tableSound_of_mem_formEnds {marks : List FormEndMark} {x : Entry} (h : x ∈ marks.map .formEnd) :
    x.tableSound := by
  obtain ⟨m, -, rfl⟩ := List.mem_map.mp h
  trivial

theorem Forms.place_tableSound (f : Forms) (text : Text) (clamped : Bool) :
    ∀ x ∈ (f.place text clamped).2, x.tableSound := by
  intro x hx
  unfold Forms.place at hx
  split at hx
  · cases hx
  · rw [List.mem_singleton.mp hx]
    trivial

theorem Forms.print_tableSound (f : Forms) (m : Motion) (text : Text) (clamped : Bool) :
    ∀ x ∈ (f.print m text clamped).2, x.tableSound := by
  intro x hx
  unfold Forms.print at hx
  simp only at hx
  split at hx
  · rcases List.mem_append.mp hx with hx | hx
    · exact f.place_tableSound _ _ x hx
    · exact tableSound_of_mem_formEnds hx
  · rcases List.mem_append.mp hx with hx | hx
    · exact tableSound_of_mem_formEnds hx
    · exact Forms.place_tableSound _ _ _ x hx

theorem State.endPrint_moves (s : State) (h : Hand) (hp : s.lp.port = .takingData h) (hk : h.kind = some .print) :
    s.FrontMoves (s.endPrint h) := by
  unfold State.endPrint
  split
  · exact s.refuse_moves _ _ _ _
  · next m hm =>
    split
    · exact s.refuse_moves _ _ _ _
    · obtain ⟨b, hb⟩ := motionOrFault_ok _ _ _ hm
      have hroom : h.reserves = 2 := by simp [Hand.reserves, hk, roomNeeded]
      have hf := s.forms.print_movesTo b m (s.map.translate h.kept.tail) h.clamped hb
      rw [← hroom] at hf
      rw [s.printText_eq]
      have hmove := State.FrontMove.finish (s := s) h _ _
        { s.lp with port := .replying ⟨.done, s.forms.formsEnd m.action, s.noticeFlag, h.clamped⟩ } hp hf
        (s.forms.print_tableSound _ _ _) rfl
      exact (State.FrontMoves.single hmove).tail
        (.back (.of_eq rfl))

theorem State.endMove_moves (s : State) (h : Hand) (hp : s.lp.port = .takingData h) (hk : h.kind = some .move) :
    s.FrontMoves (s.endMove h) := by
  cases hm : motionOrFault s.forms.table h.kept with
  | error e =>
    rw [s.endMove_of_fault h e hm]
    exact s.refuse_moves _ _ _ _
  | ok m =>
    obtain ⟨b, hb⟩ := motionOrFault_ok _ _ _ hm
    have hroom : h.reserves = 2 := by simp [Hand.reserves, hk, roomNeeded]
    have hf := s.forms.move_movesTo b m hb
    rw [s.endMove_of_good h m hm]
    refine .single (.finish h _ _ _ hp ⟨hf.table, hf.owed, hf.inRange, fun hr => ?_⟩
      (fun x hx => tableSound_of_mem_formEnds hx) rfl)
    rw [List.length_map, hroom]
    exact (hf.room hr).trans (by omega)

theorem State.endSync_moves (s : State) (h : Hand) (hp : s.lp.port = .takingData h) (hk : h.kind = some .sync) :
    s.FrontMoves (s.endSync h) := by
  have hroom : h.reserves = 1 := by simp [Hand.reserves, hk, roomNeeded]
  refine .single (.finish h s.forms [.sync] _ hp ⟨rfl, rfl, id, fun _ => by rw [hroom]; rfl⟩ (fun x hx => ?_) rfl)
  rw [List.mem_singleton.mp hx]
  trivial

/-! #### Records -/

/-- END of a record: it is refused, or carried out after its tests. -/
theorem State.tableRow_moves (s : State) (kind : Nat) (fault : List Byte → Option (Nat × Nat))
    (carry : Hand → List Byte → State → State)
    (hc : ∀ h, s.lp.port = .takingData h → h.isTable kind = true → h.parityError = none → framingFault h.kept = none →
      fault (h.kept.drop 3) = none → s.FrontMoves (carry h (h.kept.drop 3) s)) :
    s.FrontMoves (s.tableRow kind fault carry) :=
  s.endRow_moves _ _ fun h hp hm he => by
    unfold State.endTable
    split
    · exact s.refuse_moves _ _ _ _
    · next hf =>
      split
      · exact s.refuse_moves _ _ _ _
      · next hr => exact hc h hp hm he hf hr

/-- END of a front record whose effect is made of moves. -/
theorem State.frontRow_moves (s : State) (kind : Nat) (fault : List Byte → Option (Nat × Nat))
    (apply : List Byte → State → State)
    (ha : ∀ h, s.lp.port = .takingData h → h.isTable kind = true → framingFault h.kept = none →
      fault (h.kept.drop 3) = none → s.FrontMoves (apply (h.kept.drop 3) s)) :
    s.FrontMoves (s.tableRow kind fault (applyFront apply)) :=
  s.tableRow_moves kind fault _ fun h hp hm _ hf hr =>
    ((ha h hp hm hf hr).tail (.back ((State.BackOnly.refl _).settled s))).trans (State.present_moves _ _ _ _)

/-- The kind byte of a record whose kind is known. -/
theorem Hand.kept_of_isTable (h : Hand) (kind : Nat) (hm : h.isTable kind = true) :
    h.kept.head?.map (fun b => b.toNat) = some kind := by
  simp only [Hand.isTable, Bool.and_eq_true, beq_iff_eq] at hm
  exact hm.2

/-- R4, R6: the room that a record of a known kind has reserved. -/
theorem Hand.reserves_of_isTable (h : Hand) (kind : Nat) (hm : h.isTable kind = true) (he : h.parityError = none) :
    h.reserves = if 3 ≤ kind ∧ kind ≤ 6 then 1 else 0 := by
  have hk := h.isTable_kind kind hm
  obtain ⟨k, hhead, rfl⟩ := Option.map_eq_some_iff.mp (h.kept_of_isTable kind hm)
  obtain ⟨rest, hkept⟩ := List.head?_eq_some_iff.mp hhead
  simp [Hand.reserves, hk, hkept, he, kindIsStream]

theorem State.reserved_of_takingData (s : State) (h : Hand) (hp : s.lp.port = .takingData h) :
    s.reserved = h.reserves := by
  simp [State.reserved, hp]

/-- R64, R65: END of a stream record. -/
theorem State.streamRow_moves (s : State) (kind : Nat) (fault : List Byte → Option (Nat × Nat))
    (read : List Byte → StreamTable) (h3 : 3 ≤ kind) (h6 : kind ≤ 6)
    (hread : ∀ body fenced, fault body = none → (Entry.streamTable (read body) fenced).tableSound) :
    s.FrontMoves (s.tableRow kind fault (queueStream read)) :=
  s.tableRow_moves kind fault _ fun h hp hm he _ hr => by
    have hroom : h.reserves = 1 := by rw [h.reserves_of_isTable kind hm he, if_pos ⟨h3, h6⟩]
    refine .single (.finish h s.forms [.streamTable (read (h.kept.drop 3)) s.lp.fenceArmed] _ hp
      ⟨rfl, rfl, id, fun _ => by rw [hroom]; rfl⟩ (fun x hx => ?_) rfl)
    rw [List.mem_singleton.mp hx]
    exact hread _ _ hr

/-- R37: END of a FORMS record. -/
theorem State.formsRow_moves (s : State) :
    s.FrontMoves (s.tableRow 2 formsFault (applyFront fun body t => t.loadForms (formsOf body))) :=
  s.tableRow_moves 2 formsFault _ fun h hp hm he hf hr => by
    obtain ⟨h5, h67⟩ := forms_body_length h.kept (h.kept_of_isTable 2 hm) hf
    have hroom : s.reserved = 0 := by
      rw [s.reserved_of_takingData h hp, h.reserves_of_isTable 2 hm he, if_neg (by omega)]
    have hload : s.FrontMove (s.loadForms (formsOf (h.kept.drop 3))) := .load _ hroom (formsOf_valid _ hr h5 h67)
    exact ((State.FrontMoves.single hload).tail (.back ((State.BackOnly.refl _).settled s))).trans
      (State.present_moves _ _ _ _)

theorem State.applySettings_moves (s : State) (c : LinkSettings) (hc : c.valid) : s.FrontMoves (s.applySettings c) :=
  (State.FrontMoves.single (.settings c hc)).tail (.back (s.applySettings_linksOnly c).backOnly)

/-- R20, R192: END of a RESET record. -/
theorem State.resetRecord_moves (s : State) (h : Hand) : s.FrontMoves (s.resetRecord h) :=
  (s.present_moves _ _ _).tail .softReset

/-- R12: END of a QUERY. -/
theorem State.queryRow_moves (s : State) (sel : Nat) (read : State → State) (bytes : Hand → State → List Byte)
    (hread : s.BackOnly (read s)) : s.FrontMoves (s.queryRow sel fun h t => (read t).respond h (bytes h t)) :=
  s.endRow_moves _ _ fun h _ _ _ => by
    unfold State.endQuery
    split
    · exact s.refuse_moves _ _ _ _
    · exact hread.moves.tail (.port _ rfl)

theorem State.noticesRead_backOnly (s : State) : s.BackOnly s.noticesRead := by
  unfold State.noticesRead
  split
  · exact .refl s
  · exact .of_eq rfl

/-! ### The composer's steps -/

theorem State.atHead_moves (s : State) (work : Entry → State → State)
    (hw : ∀ x ∈ s.queue, s.FrontMoves (work x s)) : s.FrontMoves (s.atHead work) := by
  unfold State.atHead
  split
  · exact .refl
  · next x rest hq => exact hw x (by rw [hq]; exact List.mem_cons_self)

theorem workPlacedLine_backOnly (x : Entry) (s : State) : s.BackOnly (workPlacedLine x s) := by
  unfold workPlacedLine
  split
  · split
    · exact s.placeJudged_backOnly _
    · exact .refl s
  all_goals exact .refl s

theorem workMerge_backOnly (x : Entry) (s : State) : s.BackOnly (workMerge x s) := by
  unfold workMerge
  split
  · split
    · exact s.merge_backOnly _
    · exact .refl s
  all_goals exact .refl s

theorem workOwnLine_backOnly (x : Entry) (s : State) : s.BackOnly (workOwnLine x s) := by
  unfold workOwnLine
  split
  · split
    · exact s.placeUnjudged_backOnly _
    · exact .refl s
  all_goals exact .refl s

theorem workFormEnd_backOnly (x : Entry) (s : State) : s.BackOnly (workFormEnd x s) := by
  unfold workFormEnd
  split
  · exact s.closeForm_backOnly _
  all_goals exact .refl s

theorem workKeyReset_backOnly (x : Entry) (s : State) : s.BackOnly (workKeyReset x s) := by
  unfold workKeyReset
  split
  · exact State.BackOnly.trans (t := { s with keys := s.keys.clearHeld }) (.of_eq rfl) (State.removeHead_backOnly _)
  all_goals exact .refl s

/-- R16: the ring watch keeps no data. -/
theorem State.markerTaken_moves (s : State) : s.FrontMoves s.markerTaken := by
  unfold State.markerTaken
  split
  · split
    · exact .refl
    · exact s.setPort_moves _ rfl
  all_goals exact .refl

theorem workSyncMarker_moves (x : Entry) (s : State) : s.FrontMoves (workSyncMarker x s) := by
  unfold workSyncMarker
  split
  · exact (s.flush_backOnly.trans (State.removeHead_backOnly _)).moves.trans (State.markerTaken_moves _)
  all_goals exact .refl

/-- R126: the flush leaves the queue, so the plan still stands in it. -/
theorem State.flush_queue (s : State) : s.flush.queue = s.queue := by
  unfold State.flush
  split <;> rfl

theorem workSheetPlan_moves (x : Entry) (s : State) (hx : x ∈ s.queue) : s.FrontMoves (workSheetPlan x s) := by
  unfold workSheetPlan
  split
  · next p fenced =>
    have hplan : s.flush.FrontMove (s.applyPlan p) := .plan p fenced (by rw [s.flush_queue]; exact hx)
    exact (s.flush_backOnly.moves.tail hplan).tail (.back (State.removeHead_backOnly _))
  all_goals exact .refl

theorem workCollation_moves (x : Entry) (s : State) (hx : x ∈ s.queue) : s.FrontMoves (workCollation x s) := by
  unfold workCollation
  split
  · next c fenced => exact (State.FrontMoves.single (.collation c fenced hx)).tail (.back (State.removeHead_backOnly _))
  all_goals exact .refl

theorem workFieldLayout_moves (x : Entry) (s : State) (hx : x ∈ s.queue) : s.FrontMoves (workFieldLayout x s) := by
  unfold workFieldLayout
  split
  · next l fenced => exact (State.FrontMoves.single (.layout l fenced hx)).tail (.back (State.removeHead_backOnly _))
  all_goals exact .refl

/-! ### Every command -/

/-- A command after the due steps, whose effect is made of moves. -/
theorem State.run_moves {s t : State} {f : State → State} (hx : s.run f = .next t)
    (hf : ∀ u : State, u.owedDue = false → u.FrontMoves (f u)) : s.FrontMoves t := by
  cases hx
  obtain ⟨ho, -⟩ := s.takeDue_quiet
  exact s.takeDue_moves.trans (hf _ ho)

theorem State.runNoticed_moves {s t : State} {f : State → State} (hx : s.runNoticed f = .next t)
    (hf : ∀ u : State, u.FrontMoves (f u)) : s.FrontMoves t := by
  cases hx
  exact (s.takeDue_moves.trans (hf _)).tail (.back ((State.BackOnly.refl _).settled _))

/-- Every command is a series of moves of the front. -/
theorem exec_moves (c : Instr) (s t : State) (hx : exec c s = .next t) : s.FrontMoves t := by
  cases c
  all_goals dsimp only [exec] at hx
  case orderByte a u d p => exact State.run_moves hx fun v ho => v.orderByteStrobed_moves a u d p ho
  case orderAccept =>
    cases hx
    exact s.takeOwed_moves.trans (State.acceptWaiting_moves _ s.takeOwed_settled)
  case dataByte d p => exact State.run_moves hx fun v ho => v.dataByteStrobed_moves d p ho
  case unknownOrder => exact State.run_moves hx fun v _ => v.endRow_moves _ _ fun _ _ _ _ => .refl
  case print =>
    exact State.run_moves hx fun v _ => v.endRow_moves _ _ fun h hp hm _ => v.endPrint_moves h hp (by simpa using hm)
  case move =>
    exact State.run_moves hx fun v _ => v.endRow_moves _ _ fun h hp hm _ => v.endMove_moves h hp (by simpa using hm)
  case sync =>
    exact State.run_moves hx fun v _ => v.endRow_moves _ _ fun h hp hm _ => v.endSync_moves h hp (by simpa using hm)
  case syncDone => cases hx; exact s.syncCompletes_moves
  case engineStopped => cases hx; exact s.syncFails_moves
  case tableCharacterMap =>
    exact State.run_moves hx fun v _ => v.frontRow_moves _ _ _ fun _ _ _ _ _ =>
      State.BackOnly.moves (.of_eq rfl)
  case tableForms => exact State.run_moves hx fun v _ => v.formsRow_moves
  case tableCollation =>
    exact State.run_moves hx fun v _ => v.streamRow_moves 3 _ _ (by omega) (by omega) fun b _ hr => collationOf_valid b hr
  case tableFieldLayout =>
    exact State.run_moves hx fun v _ => v.streamRow_moves 4 _ _ (by omega) (by omega) fun b _ hr => layoutOf_valid b hr
  case tableKeyReset =>
    exact State.run_moves hx fun v _ => v.streamRow_moves 5 _ _ (by omega) (by omega) fun _ _ _ => trivial
  case tableSheetPlan =>
    exact State.run_moves hx fun v _ => v.streamRow_moves 6 _ _ (by omega) (by omega) fun b _ hr => planOf_valid b hr
  case tableLinkSettings =>
    exact State.run_moves hx fun v _ => v.frontRow_moves _ _ _ fun h _ _ _ hr =>
      v.applySettings_moves _ (settingsOf_valid _ hr)
  case tableNoticeControl =>
    exact State.run_moves hx fun v _ => v.frontRow_moves _ _ _ fun _ _ _ _ _ =>
      State.BackOnly.moves (.of_eq rfl)
  case tableNoticeClear =>
    exact State.run_moves hx fun v _ => v.frontRow_moves _ _ _ fun _ _ _ _ _ =>
      State.BackOnly.moves (.of_eq rfl)
  case tableUnit =>
    exact State.run_moves hx fun v _ => v.frontRow_moves _ _ _ fun _ _ _ _ _ =>
      State.BackOnly.moves (.of_eq rfl)
  case tableCounterClear =>
    exact State.run_moves hx fun v _ => v.frontRow_moves _ _ _ fun _ _ _ _ _ =>
      State.BackOnly.moves (.of_eq rfl)
  case tableReset => exact State.run_moves hx fun v _ => v.tableRow_moves _ _ _ fun h _ _ _ _ _ => v.resetRecord_moves h
  case tableKindUnknown =>
    refine State.run_moves hx fun v _ => v.endRow_moves _ _ fun h _ _ _ => ?_
    unfold State.endTable
    split
    · exact v.refuse_moves _ _ _ _
    · exact .refl
  case queryCondition => exact State.run_moves hx fun v _ => v.queryRow_moves _ id _ (.refl v)
  case queryCheck => exact State.run_moves hx fun v _ => v.queryRow_moves _ id _ (.refl v)
  case queryNotices => exact State.run_moves hx fun v _ => v.queryRow_moves _ State.noticesRead _ v.noticesRead_backOnly
  case queryCounters => exact State.run_moves hx fun v _ => v.queryRow_moves _ id _ (.refl v)
  case queryTable => exact State.run_moves hx fun v _ => v.queryRow_moves _ id _ (.refl v)
  case queryEngine => exact State.run_moves hx fun v _ => v.queryRow_moves _ id _ (.refl v)
  case queryRing => exact State.run_moves hx fun v _ => v.queryRow_moves _ id _ (.refl v)
  case selectorNamingNothing =>
    refine State.run_moves hx fun v _ => v.endRow_moves _ _ fun h _ _ _ => ?_
    unfold State.endQuery
    split
    · exact v.refuse_moves _ _ _ _
    · exact .refl
  case replyTaken => exact State.run_moves hx fun v _ => v.replyTakenSignal_moves
  case clear => exact State.run_moves hx fun v _ => .single (.port _ rfl)
  case lineReset => exact State.run_moves hx fun v _ => v.lineResetSignal_moves
  case hardwareReset straps => cases hx; exact .single (.hardwareReset straps)
  case owedFormEnd => cases hx; exact s.takeOwed_moves
  case placedLine =>
    exact State.runNoticed_moves hx fun v => v.atHead_moves _ fun x _ => (workPlacedLine_backOnly x v).moves
  case overstrikeMerge =>
    exact State.runNoticed_moves hx fun v => v.atHead_moves _ fun x _ => (workMerge_backOnly x v).moves
  case lineOfItsOwn =>
    exact State.runNoticed_moves hx fun v => v.atHead_moves _ fun x _ => (workOwnLine_backOnly x v).moves
  case formEnd =>
    exact State.runNoticed_moves hx fun v => v.atHead_moves _ fun x _ => (workFormEnd_backOnly x v).moves
  case syncMarker => exact State.runNoticed_moves hx fun v => v.atHead_moves _ fun x _ => workSyncMarker_moves x v
  case sheetPlanEntry => exact State.runNoticed_moves hx fun v => v.atHead_moves _ fun x hm => workSheetPlan_moves x v hm
  case collationEntry => exact State.run_moves hx fun v _ => v.atHead_moves _ fun x hm => workCollation_moves x v hm
  case fieldLayoutEntry => exact State.run_moves hx fun v _ => v.atHead_moves _ fun x hm => workFieldLayout_moves x v hm
  case keyResetEntry =>
    exact State.run_moves hx fun v _ => v.atHead_moves _ fun x _ => (workKeyReset_backOnly x v).moves
  case grant => cases hx; exact (s.windowsDue_backOnly.trans (State.grantOnce_backOnly _)).moves
  case sheetEnd e => exact State.run_moves hx fun v _ => (v.sendSheetEnd_backOnly e).moves
  case offer e m a =>
    exact State.runNoticed_moves hx fun v => ((v.offerFrame_backOnly e m a).trans (State.failover_backOnly _)).moves
  case idle e => exact State.run_moves hx fun v _ => (v.idleFrame_backOnly e).moves
  case taken e q => exact State.run_moves hx fun v _ => (v.takenFrame_backOnly e q).moves
  case stacked e q =>
    exact State.runNoticed_moves hx fun v => ((v.stackedFrame_backOnly e q).trans (State.failover_backOnly _)).moves
  case stop e cause =>
    unfold execStop at hx
    split at hx
    · exact State.runNoticed_moves hx fun v => ((v.stopFrame_backOnly e cause).trans (State.failover_backOnly _)).moves
    · cases hx
  case jam e q =>
    exact State.runNoticed_moves hx fun v => ((v.jamFrame_backOnly e q).trans (State.failover_backOnly _)).moves
  case ready e =>
    exact State.runNoticed_moves hx fun v => ((v.readyFrame_backOnly e).trans (State.failover_backOnly _)).moves
  case offerRepeat e => exact State.run_moves hx fun v _ => (v.repeatOffer_backOnly e).moves
  case offerWindow e =>
    exact State.runNoticed_moves hx fun v => ((v.offerWindowEnds_backOnly e).trans (State.failover_backOnly _)).moves
  case acknowledgementWindow e => exact State.runNoticed_moves hx fun v => (v.ackWindowEnds_backOnly e).moves
  case settleTimer e =>
    exact State.runNoticed_moves hx fun v => ((v.settleEnds_backOnly e).trans (State.failover_backOnly _)).moves
  case silenceTimer e =>
    exact State.runNoticed_moves hx fun v => ((v.linkLost_backOnly e).trans (State.failover_backOnly _)).moves
  case breakEnd e => exact State.runNoticed_moves hx fun v => (v.breakEnds_backOnly e).moves
  case takenTimeout e => exact State.runNoticed_moves hx fun v => (v.timeout_backOnly e _).moves
  case stackedTimeout e q => exact State.runNoticed_moves hx fun v => (v.timeout_backOnly e _).moves
  case windowShort e => cases hx; exact (s.windowShort_linksOnly e).backOnly.moves
  case windowMet e => cases hx; exact (s.windowMet_linksOnly e).backOnly.moves
  case tick =>
    exact State.run_moves hx fun v _ => State.BackOnly.moves (.of_eq rfl)
  case burstTimer =>
    exact State.run_moves hx fun v _ => State.BackOnly.moves (.of_eq rfl)
  case callPattern =>
    exact State.run_moves hx fun v _ => State.BackOnly.moves (.of_eq rfl)

/-- So is every step. -/
theorem step_moves (s t : State) (hx : step s = .next t) : s.FrontMoves t := by
  unfold step at hx
  split at hx
  · cases hx
    exact s.takeDue_moves
  · next c rest _ =>
    have hback : s.BackOnly { s with pending := rest } := .of_eq rfl
    exact hback.moves.trans (exec_moves c _ t hx)

end Sys2Proof.Machine
end

section
/-! PROOFS. Two laws that every move of the front keeps: the ranges of the queue and of the virtual form, and those of the
tables. -/

namespace Sys2Proof.Machine

/-! ### The order in hand and its room -/

theorem State.reserved_congr {s t : State} (h : t.lp.port = s.lp.port) : t.reserved = s.reserved := by
  simp [State.reserved, h]

theorem State.handSound_congr {s t : State} (h : t.lp.port = s.lp.port) : t.handSound = s.handSound := by
  simp [State.handSound, h]

/-- A port that keeps no data has no room reserved. -/
theorem State.reserved_of_not_keepsData (s : State) (h : s.lp.port.keepsData = false) : s.reserved = 0 := by
  unfold State.reserved
  split
  · next hp =>
    rw [hp] at h
    cases h
  · rfl

theorem State.handSound_of_not_keepsData (s : State) (h : s.lp.port.keepsData = false) : s.handSound = true := by
  unfold State.handSound
  split
  · next hp =>
    rw [hp] at h
    cases h
  · next hp =>
    rw [hp] at h
    cases h
  · rfl

/-- R6, R8: a TABLE in hand has kept every byte it has counted. -/
theorem State.handSound_of_takingData (s : State) (h : Hand) (hp : s.lp.port = .takingData h) :
    s.handSound = true ↔ (h.kind = some .table → h.count = h.kept.length) := by
  simp [State.handSound, hp, Decidable.imp_iff_not_or]

/-- R6: a TABLE whose kind byte waits has kept none. -/
theorem State.handSound_of_waitingKind (s : State) (h : Hand) (k : Byte) (hp : s.lp.port = .waitingKind h k) :
    s.handSound = true ↔ h.kind = some .table ∧ h.kept = [] ∧ h.count = 0 ∧ kindIsStream k = true := by
  simp [State.handSound, hp, and_assoc]

/-- R61: with no form end due, one owed means that no entry is free. -/
theorem State.freeEntries_of_owed (s : State) (ho : s.owedDue = false) (h : s.forms.owed.isSome = true) :
    s.freeEntries = 0 := by
  simp only [State.owedDue, h, Bool.true_and, decide_eq_false_iff_not] at ho
  omega

/-- An order that comes to hand with free room for what it reserves keeps the law. -/
theorem State.queueSound_of_hand (s : State) (h : Hand) (hs : s.queueSound) (ho : s.owedDue = false)
    (hh : h.kind = some .table → h.count = h.kept.length) (hr : h.reserves ≤ s.freeEntries) :
    (s.setPortAccept (.takingData h) true).queueSound := by
  obtain ⟨hf, -, hq, -⟩ := hs
  refine ⟨hf, (State.handSound_of_takingData _ h rfl).mpr hh, ?_, fun howed => ?_⟩
  · show s.queue.length + h.reserves ≤ 16
    rw [s.freeEntries_eq] at hr
    omega
  · have hfree := s.freeEntries_of_owed ho howed
    show h.reserves = 0
    omega

/-- R8: a TABLE goes on keeping every byte. -/
theorem Hand.take_keeps_count (h : Hand) (d : Byte) (p : Bool) (hh : h.kind = some .table → h.count = h.kept.length)
    (hk : (h.take d p).kind = some .table) : (h.take d p).count = (h.take d p).kept.length := by
  rw [h.take_kind] at hk
  rw [h.take_of_keeps d p (h.keeps_of_table hk)]
  simp [hh hk]

/-- An order other than a TABLE reserves its room at its order byte. -/
theorem Hand.reserves_of_not_table (h g : Hand) (hk : h.kind ≠ some .table) (hg : g.kind = h.kind) :
    g.reserves = h.reserves := by
  unfold Hand.reserves
  rw [hg]
  split
  · next hk' => exact absurd hk' hk
  · rfl
  · rfl

theorem Hand.reserves_nil (h : Hand) (hk : h.kind = some .table) (hn : h.kept = []) : h.reserves = 0 := by
  simp [Hand.reserves, hk, hn]

theorem Hand.reserves_cons (h : Hand) (k : Byte) (rest : List Byte) (hk : h.kind = some .table)
    (hn : h.kept = k :: rest) : h.reserves = if kindIsStream k && h.parityError.isNone then 1 else 0 := by
  simp [Hand.reserves, hk, hn]

/-- R6: a TABLE reserves one entry at most. -/
theorem Hand.reserves_of_table_le (h : Hand) (hk : h.kind = some .table) : h.reserves ≤ 1 := by
  cases hn : h.kept with
  | nil => simp [h.reserves_nil hk hn]
  | cons k rest =>
    rw [h.reserves_cons k rest hk hn]
    split <;> omega

/-- R8: a TABLE keeps the byte, and stays of good parity when the byte is. -/
theorem Hand.take_kept_of_table (h : Hand) (d : Byte) (p : Bool) (hk : h.kind = some .table) :
    (h.take d p).kept = h.kept ++ [d] := by rw [h.take_of_keeps d p (h.keeps_of_table hk)]

theorem Hand.take_parity_of_table (h : Hand) (d : Byte) (p : Bool) (hk : h.kind = some .table) :
    (h.take d p).parityError.isNone = (h.parityError.isNone && parityGood d p) := by
  rw [h.take_of_keeps d p (h.keeps_of_table hk)]
  cases he : h.parityError <;> cases hg : parityGood d p <;> simp

/-- R6: the kind byte of a TABLE after one more byte tells what it reserves. -/
theorem Hand.reserves_take_of_table (h : Hand) (d : Byte) (p : Bool) (hk : h.kind = some .table) (k : Byte)
    (rest : List Byte) (hn : h.kept ++ [d] = k :: rest) :
    (h.take d p).reserves = if kindIsStream k && (h.parityError.isNone && parityGood d p) then 1 else 0 := by
  rw [Hand.reserves_cons _ k rest (by rw [h.take_kind, hk]) (by rw [h.take_kept_of_table d p hk, hn]),
    h.take_parity_of_table d p hk]

/-- A data byte after the first reserves nothing more. -/
theorem Hand.reserves_take_le (h : Hand) (d : Byte) (p : Bool) (hk : h.kind = some .table) (hn : h.kept ≠ []) :
    (h.take d p).reserves ≤ h.reserves := by
  obtain ⟨k, rest, hkept⟩ := List.exists_cons_of_ne_nil hn
  rw [h.reserves_take_of_table d p hk k (rest ++ [d]) (by rw [hkept]; rfl), h.reserves_cons k rest hk hkept]
  cases kindIsStream k <;> cases h.parityError.isNone <;> cases parityGood d p <;> decide

/-- R6: the first byte of a TABLE that is not held back finds its room. -/
theorem State.reserves_take_first_le (s : State) (h : Hand) (d : Byte) (p : Bool) (hk : h.kind = some .table)
    (hc : h.count = 0) (hn : h.kept = []) (hh : ¬s.holdsKind h d p = true) : (h.take d p).reserves ≤ s.freeEntries := by
  rw [h.reserves_take_of_table d p hk d [] (by rw [hn]; rfl)]
  split
  · next hr =>
    simp only [Bool.and_eq_true] at hr
    obtain ⟨hstream, -, hgood⟩ := hr
    rw [s.holdsKind_iff, ← kindIsStream_iff] at hh
    rw [s.freeEntries_eq]
    have hlt : ¬16 ≤ s.queue.length := fun hl => hh ⟨hk, hc, hgood, hstream, hl⟩
    omega
  · exact Nat.zero_le _

/-- R4, R6: a data byte reserves what its order had reserved, or one free entry at a kind byte. -/
theorem State.queueSound_of_take (s : State) (h : Hand) (d : Byte) (p : Bool) (hs : s.queueSound)
    (hp : s.lp.port = .takingData h) (ho : s.owedDue = false) (hh : ¬s.holdsKind h d p = true) :
    (s.setPortAccept (.takingData (h.take d p)) true).queueSound := by
  have ⟨_, hhand, hq, _⟩ := hs
  have hcount := (s.handSound_of_takingData h hp).mp hhand
  have hreserved := s.reserved_of_takingData h hp
  refine s.queueSound_of_hand _ hs ho (h.take_keeps_count d p hcount) ?_
  have hroom : h.reserves ≤ s.freeEntries := by
    rw [s.freeEntries_eq]
    omega
  by_cases hk : h.kind = some .table
  · by_cases hn : h.kept = []
    · exact s.reserves_take_first_le h d p hk (by rw [hcount hk, hn]; rfl) hn hh
    · exact (h.reserves_take_le d p hk hn).trans hroom
  · rw [h.reserves_of_not_table _ hk (h.take_kind d p)]
    exact hroom

/-! ### The queue and the virtual form -/

/-- R25: a forms load leaves the position in range. -/
theorem State.loadForms_queueSound (s : State) (t : FormsTable) (hs : s.queueSound) (hr : s.reserved = 0)
    (ht : t.valid) : (s.loadForms t).queueSound := by
  obtain ⟨⟨-, -, hf1, hf, -, -, -⟩, hh, hq, -⟩ := hs
  obtain ⟨h12, h144, -⟩ := ht
  obtain ⟨hn1, hn⟩ := nextForm_inRange s.forms.form hf1 hf
  cases hx : s.forms.touched with
  | false =>
    rw [s.loadForms_of_untouched t hx]
    exact ⟨⟨h12, h144, hf1, hf, le_rfl, by simp only; omega, Nat.zero_le 3⟩, hh, hq, fun _ => hr⟩
  | true =>
    rw [s.loadForms_of_touched t hx]
    refine ⟨⟨h12, h144, hn1, hn, le_rfl, by simp only; omega, Nat.zero_le 3⟩, hh, ?_, fun _ => hr⟩
    show (if s.queue.length < 16 then s.queue ++ [Entry.formEnd s.forms.endMark] else s.queue).length + s.reserved ≤ 16
    rw [hr]
    split
    · rw [List.length_append, List.length_singleton]
      omega
    · omega

/-- Every move of the front keeps the ranges of the queue and of the virtual form. -/
theorem State.FrontMove.queueSound (s t : State) (hs : s.queueSound) (h : s.FrontMove t) : t.queueSound := by
  have ⟨hf, hh, hq, ho⟩ := hs
  cases h with
  | back h =>
    have hlen := h.queue.length_le
    refine ⟨by rw [h.forms]; exact hf, by rw [State.handSound_congr h.port]; exact hh, ?_, ?_⟩
    · rw [State.reserved_congr h.port]
      omega
    · rw [State.reserved_congr h.port, h.forms]
      exact ho
  | port lp hp =>
    have hr : ({ s with lp := lp } : State).reserved = 0 := State.reserved_of_not_keepsData _ hp
    exact ⟨hf, State.handSound_of_not_keepsData _ hp, by rw [hr]; exact le_trans (Nat.le_add_right _ _) hq, fun _ => hr⟩
  | accept b k e hod hr => exact s.queueSound_of_hand _ hs hod (fun _ => rfl) hr
  | hold h d p hp hd =>
    obtain ⟨hk, hc, -, hstream, -⟩ := (s.holdsKind_iff h d p).mp hd
    have hkept : h.kept = [] := by
      have hcount := (s.handSound_of_takingData h hp).mp hh hk
      exact List.eq_nil_of_length_eq_zero (by omega)
    refine ⟨hf, (State.handSound_of_waitingKind _ h d rfl).mpr ⟨hk, hkept, hc, (kindIsStream_iff d).mpr hstream⟩, ?_,
      fun _ => rfl⟩
    exact le_trans (Nat.le_add_right _ _) hq
  | take h d p hp hod hd => exact s.queueSound_of_take h d p hs hp hod hd
  | takeKind h k hp hod hr =>
    obtain ⟨hk, hkept, hc, -⟩ := (s.handSound_of_waitingKind h k hp).mp hh
    have hcount : h.kind = some .table → h.count = h.kept.length := fun _ => by rw [hkept, hc]; rfl
    exact s.queueSound_of_hand _ hs hod (h.take_keeps_count k _ hcount)
      ((Hand.reserves_of_table_le _ (by rw [h.take_kind, hk])).trans hr)
  | owed m hm hr =>
    have hz := ho (by rw [hm]; rfl)
    refine ⟨hf, hh, ?_, fun h => by cases h⟩
    show (s.queue ++ [Entry.formEnd m]).length + s.reserved ≤ 16
    rw [s.freeEntries_eq] at hr
    rw [List.length_append, List.length_singleton, hz]
    omega
  | finish h f es lp hp hm hes hlp =>
    have hr : ({ s with forms := f, queue := s.queue ++ es, lp := lp } : State).reserved = 0 :=
      State.reserved_of_not_keepsData _ hlp
    refine ⟨hm.inRange hf, State.handSound_of_not_keepsData _ hlp, ?_, fun _ => hr⟩
    have hroom := hm.room hf
    rw [s.reserved_of_takingData h hp] at hq
    rw [hr, List.length_append]
    omega
  | load t hr ht => exact s.loadForms_queueSound t hs hr ht
  | settings c hc => exact hs
  | collation c fenced hm => exact hs
  | layout l fenced hm => exact hs
  | plan p fenced hm => exact hs
  | softReset =>
    obtain ⟨h12, h144, -⟩ := hf
    have hrange : (formsAtStart s.forms.table).inRange :=
      ⟨h12, h144, le_rfl, Nat.one_le_ofNat, le_rfl, (by omega : 1 ≤ s.forms.table.length), Nat.zero_le 3⟩
    refine ⟨hrange, hh, ?_, fun h => by cases h⟩
    show 0 + s.reserved ≤ 16
    omega
  | hardwareReset straps => exact State.atReset_queueSound straps

/-- Settles O54: every step is a series of moves of the front, each of which keeps the law. -/
theorem queueAndFormStayInRange : Obligations.QueueAndFormStayInRange := by
  unfold Obligations.QueueAndFormStayInRange
  exact fun s t hs hx => (step_moves s t hx).keeps State.FrontMove.queueSound hs

/-! ### The tables -/

theorem State.tablesSound_iff (s : State) : s.tablesSound ↔
    s.forms.table.valid ∧ collationValid s.keys.collation ∧ s.keys.layout.valid ∧ s.composer.plan.valid ∧
      s.settings.valid ∧ ∀ x ∈ s.queue, x.tableSound := by
  constructor
  · rintro ⟨hf, hc, hl, hp, hset, hq⟩
    refine ⟨hf, hc, hl, hp, hset, fun x hx => ?_⟩
    have hsound := hq x hx
    rcases x with _ | _ | ⟨_ | _ | _ | _, _⟩ | _ <;> exact hsound
  · rintro ⟨hf, hc, hl, hp, hset, hq⟩
    refine ⟨hf, hc, hl, hp, hset, fun x hx => ?_⟩
    have hsound := hq x hx
    rcases x with _ | _ | ⟨_ | _ | _ | _, _⟩ | _ <;> exact hsound

theorem State.loadForms_table (s : State) (t : FormsTable) : (s.loadForms t).forms.table = t := by
  cases h : s.forms.touched with
  | false => rw [s.loadForms_of_untouched t h]
  | true => rw [s.loadForms_of_touched t h]

/-- R37: a forms load queues a marker at most. -/
theorem State.mem_loadForms_queue (s : State) (t : FormsTable) (x : Entry) (hx : x ∈ (s.loadForms t).queue) :
    x ∈ s.queue ∨ ∃ m, x = .formEnd m := by
  cases h : s.forms.touched with
  | false =>
    rw [s.loadForms_of_untouched t h] at hx
    exact .inl hx
  | true =>
    rw [s.loadForms_of_touched t h] at hx
    simp only at hx
    split at hx
    · exact (List.mem_append.mp hx).imp_right fun h => ⟨_, List.mem_singleton.mp h⟩
    · exact .inl hx

/-- Every move of the front keeps the tables within their ranges. -/
theorem State.FrontMove.tablesSound (s t : State) (hs : s.tablesSound) (h : s.FrontMove t) : t.tablesSound := by
  rw [State.tablesSound_iff] at hs
  obtain ⟨hf, hc, hl, hp, hset, hq⟩ := hs
  cases h with
  | back h =>
    rw [State.tablesSound_iff, h.forms, h.collation, h.layout, h.plan, h.settings]
    exact ⟨hf, hc, hl, hp, hset, fun x hx => hq x (h.queue.subset hx)⟩
  | port | accept | hold | take | takeKind => exact (State.tablesSound_iff _).mpr ⟨hf, hc, hl, hp, hset, hq⟩
  | owed m hm hr =>
    refine (State.tablesSound_iff _).mpr ⟨hf, hc, hl, hp, hset, fun x hx => ?_⟩
    rcases List.mem_append.mp hx with hx | hx
    · exact hq x hx
    · rw [List.mem_singleton.mp hx]
      trivial
  | finish h f es lp hpt hm hes hlp =>
    refine (State.tablesSound_iff _).mpr ⟨by rw [← hm.table] at hf; exact hf, hc, hl, hp, hset, fun x hx => ?_⟩
    exact (List.mem_append.mp hx).elim (hq x) (hes x)
  | load t hr ht =>
    rw [State.tablesSound_iff, s.loadForms_eq t]
    refine ⟨?_, hc, hl, hp, hset, ?_⟩
    · rw [s.loadForms_table]
      exact ht
    · exact fun x hx => (s.mem_loadForms_queue t x hx).elim (hq x) fun ⟨m, hm⟩ => hm ▸ trivial
  | settings c hv => exact (State.tablesSound_iff _).mpr ⟨hf, hc, hl, hp, hv, hq⟩
  | collation c fenced hm => exact (State.tablesSound_iff _).mpr ⟨hf, hq _ hm, hl, hp, hset, hq⟩
  | layout l fenced hm => exact (State.tablesSound_iff _).mpr ⟨hf, hc, hq _ hm, hp, hset, hq⟩
  | plan p fenced hm => exact (State.tablesSound_iff _).mpr ⟨hf, hc, hl, hq _ hm, hset, hq⟩
  | softReset => exact (State.tablesSound_iff _).mpr ⟨hf, hc, hl, hp, hset, fun x hx => by cases hx⟩
  | hardwareReset straps => exact State.atReset_tablesSound straps

/-- Settles O60: every step is a series of moves of the front, each of which keeps the law. -/
theorem tablesStayWithinTheirRanges : Obligations.TablesStayWithinTheirRanges := by
  unfold Obligations.TablesStayWithinTheirRanges
  exact fun s t hs hx => (step_moves s t hx).keeps State.FrontMove.tablesSound hs

end Sys2Proof.Machine
end

section
/-! PROOFS. The Code Translator: what a position becomes, the trim, the replaced codes, and the code that refuses a
text. -/

namespace Sys2Proof.Machine

/-! ### One position (R47, R49, R50) -/

/-- R47, R49, R50: of the three actions, MARK alone gives an UNPRINTABLE code a glyph. -/
theorem CharMap.position_eq (m : CharMap) (c : Byte) :
    m.position c = match m.entry c with
      | .glyph g => some g
      | .blank => none
      | .unprintable => if m.action = .mark then some m.substitute else none := by
  unfold CharMap.position
  cases m.entry c with
  | glyph g => rfl
  | blank => rfl
  | unprintable => cases m.action <;> rfl

/-! ### The trim (R51) -/

theorem trimBlanks_eq_rdropWhile (t : Text) : trimBlanks t = t.rdropWhile Option.isNone := rfl

/-- R51: the trim takes blanks off the end, and nothing else. -/
theorem exists_trimBlanks_append_eq (t : Text) :
    ∃ blanks : Text, trimBlanks t ++ blanks = t ∧ ∀ x ∈ blanks, x = none := by
  rw [trimBlanks_eq_rdropWhile]
  exact ⟨t.rtakeWhile Option.isNone, List.rdropWhile_append_rtakeWhile,
    fun _ hx => Option.isNone_iff_eq_none.mp (List.mem_rtakeWhile_imp hx)⟩

theorem trimBlanks_isPrefix (t : Text) : trimBlanks t <+: t := by
  obtain ⟨blanks, ht, -⟩ := exists_trimBlanks_append_eq t
  exact ⟨blanks, ht⟩

/-- R51: a text that is not empty after the trim ends in a glyph. -/
theorem trimBlanks_getLast? (t : Text) (h : trimBlanks t ≠ []) : ∃ g, (trimBlanks t).getLast? = some (some g) := by
  rw [trimBlanks_eq_rdropWhile] at h ⊢
  have hlast : ¬((t.rdropWhile Option.isNone).getLast h).isNone := List.rdropWhile_last_not Option.isNone t h
  obtain ⟨g, hg⟩ := Option.ne_none_iff_exists'.mp fun hn => hlast (Option.isNone_iff_eq_none.mpr hn)
  exact ⟨g, by rw [List.getLast?_eq_some_getLast h, hg]⟩

/-- R51: every position past the end of a trimmed text was a blank. -/
theorem eq_none_of_trimBlanks_length_le (t : Text) (p : Nat) (hp : (trimBlanks t).length ≤ p) (x : Option Glyph)
    (hx : t[p]? = some x) : x = none := by
  obtain ⟨blanks, ht, hb⟩ := exists_trimBlanks_append_eq t
  rw [← ht, List.getElem?_append_right hp] at hx
  exact hb x (List.mem_of_getElem? hx)

/-! ### A text (R47, R51) -/

theorem CharMap.translate_length_le (m : CharMap) (text : List Byte) : (m.translate text).length ≤ text.length :=
  (trimBlanks_isPrefix _).length_le.trans_eq (List.length_map _)

/-- R47: a position that is kept is translated by its own code. -/
theorem CharMap.translate_getElem? (m : CharMap) (text : List Byte) (p : Nat) (hp : p < (m.translate text).length) :
    (m.translate text)[p]? = text[p]?.map m.position := by
  have hkept : m.translate text <+: text.map m.position := trimBlanks_isPrefix _
  rw [List.getElem?_eq_getElem hp, hkept.getElem hp, ← List.getElem?_eq_getElem, List.getElem?_map]

/-- R51: a position that is trimmed is blank. -/
theorem CharMap.position_of_trimmed (m : CharMap) (text : List Byte) (p : Nat) (hp : (m.translate text).length ≤ p)
    (c : Byte) (hc : text[p]? = some c) : m.position c = none :=
  eq_none_of_trimBlanks_length_le (text.map m.position) p hp _ (by rw [List.getElem?_map, hc]; rfl)

/-! ### REFUSE (R48) -/

/-- The search with positions finds the first element that passes, at its own position. -/
theorem find?_zipIdx_eq_some_iff {α : Type} (f : α → Bool) (l : List α) (a : α) (i : Nat) :
    (l.zipIdx.find? fun c => f c.1) = some (a, i) ↔
      f a = true ∧ l[i]? = some a ∧ ∀ q d, q < i → l[q]? = some d → f d = false := by
  rw [List.find?_eq_some_iff_getElem]
  refine and_congr_right fun _ => ?_
  constructor
  · rintro ⟨j, hj, heq, hbefore⟩
    rw [List.getElem_zipIdx, Nat.zero_add, Prod.mk.injEq] at heq
    obtain ⟨ha, rfl⟩ := heq
    refine ⟨List.getElem?_eq_some_iff.mpr ⟨_, ha⟩, fun q d hq hd => ?_⟩
    obtain ⟨_, rfl⟩ := List.getElem?_eq_some_iff.mp hd
    simpa using hbefore q hq
  · rintro ⟨ha, hbefore⟩
    obtain ⟨hi, rfl⟩ := List.getElem?_eq_some_iff.mp ha
    refine ⟨i, by rwa [List.length_zipIdx], by simp, fun j hj => ?_⟩
    simp [hbefore j _ hj (List.getElem?_eq_getElem (hj.trans hi))]

theorem CharMap.firstRefused_of_not_refuse (m : CharMap) (text : List Byte) (h : m.action ≠ .refuse) :
    m.firstRefused text = none := if_neg h

theorem CharMap.firstRefused_of_refuse (m : CharMap) (text : List Byte) (h : m.action = .refuse) :
    m.firstRefused text =
      (text.zipIdx.find? fun c => m.entry c.1 == .unprintable).map fun c => (c.2 + 1, c.1) := if_pos h

/-- R48: nothing but REFUSE and an UNPRINTABLE code refuses a text. -/
theorem CharMap.firstRefused_eq_none_iff (m : CharMap) (text : List Byte) :
    m.firstRefused text = none ↔ (m.action = .refuse → ∀ c ∈ text, m.entry c ≠ .unprintable) := by
  by_cases hr : m.action = .refuse
  · rw [m.firstRefused_of_refuse text hr, Option.map_eq_none_iff, List.find?_eq_none, List.forall_mem_zipIdx']
    simp [hr, List.forall_mem_iff_getElem]
  · simp [m.firstRefused_of_not_refuse text hr, hr]

/-- R48: under REFUSE the code found is the first UNPRINTABLE one, with its position counted from 1. -/
theorem CharMap.firstRefused_eq_some_iff (m : CharMap) (text : List Byte) (p : Nat) (c : Byte) :
    m.firstRefused text = some (p, c) ↔
      m.action = .refuse ∧ 1 ≤ p ∧ text[p - 1]? = some c ∧ m.entry c = .unprintable ∧
        ∀ q d, q < p - 1 → text[q]? = some d → m.entry d ≠ .unprintable := by
  by_cases hr : m.action = .refuse
  · have hfind := find?_zipIdx_eq_some_iff (fun c => m.entry c == .unprintable) text c (p - 1)
    simp only [beq_iff_eq, beq_eq_false_iff_ne] at hfind
    rw [m.firstRefused_of_refuse text hr, Option.map_eq_some_iff]
    constructor
    · rintro ⟨⟨d, i⟩, hd, heq⟩
      obtain ⟨rfl, rfl⟩ := Prod.mk.inj heq
      obtain ⟨hu, hc, hbefore⟩ := hfind.mp hd
      exact ⟨hr, Nat.le_add_left 1 i, hc, hu, hbefore⟩
    · rintro ⟨-, hp, hc, hu, hbefore⟩
      exact ⟨(c, p - 1), hfind.mpr ⟨hu, hc, hbefore⟩, by rw [Nat.sub_add_cancel hp]⟩
  · simp [m.firstRefused_of_not_refuse text hr, hr]

/-! ### The statement -/

/-- Settles O20: a position by its entry, the trim by its lemmas above, and REFUSE by the first UNPRINTABLE code. -/
theorem translationAndTrim : Obligations.TranslationAndTrim := by
  unfold Obligations.TranslationAndTrim
  exact fun m text => ⟨m.position_eq, m.translate_length_le text, m.translate_getElem? text,
    m.position_of_trimmed text, trimBlanks_getLast? _, List.countP_eq_length_filter,
    m.firstRefused_eq_none_iff text, m.firstRefused_eq_some_iff text⟩

end Sys2Proof.Machine
end

section
/-! PROOFS. The Sheet Composer's wait for a FREE slot, and what a SYNC marker and a SHEET PLAN flush. -/

namespace Sys2Proof.Machine

/-! ### The head of the Intake Queue -/

theorem State.atHead_of_cons (s : State) (work : Entry → State → State) {x : Entry} {rest : List Entry}
    (hx : s.queue = x :: rest) : s.atHead work = work x s := by
  simp only [State.atHead, hx]

/-- In a quiet state a composer's step does its work on the head entry and settles the notices. -/
theorem State.runNoticed_atHead (s : State) (work : Entry → State → State) {x : Entry} {rest : List Entry}
    (hq : s.quiet) (hx : s.queue = x :: rest) :
    (s.runNoticed fun q => q.atHead work) = .next (s.settleNotices (work x s)) := by
  rw [s.runNoticed_of_quiet _ hq, s.atHead_of_cons work hx]

theorem exec_placedLine (s : State) : exec .placedLine s = s.runNoticed fun q => q.atHead workPlacedLine := rfl

theorem exec_lineOfItsOwn (s : State) : exec .lineOfItsOwn s = s.runNoticed fun q => q.atHead workOwnLine := rfl

theorem exec_formEnd (s : State) : exec .formEnd s = s.runNoticed fun q => q.atHead workFormEnd := rfl

theorem exec_syncMarker (s : State) : exec .syncMarker s = s.runNoticed fun q => q.atHead workSyncMarker := rfl

theorem exec_sheetPlanEntry (s : State) : exec .sheetPlanEntry s = s.runNoticed fun q => q.atHead workSheetPlan := rfl

/-- Settling the notices puts them by the rises and falls in a state, and touches no other field of it. -/
theorem State.settleNotices_of_eq (s : State) {u v : State} (h : u = v) :
    s.settleNotices u = { v with notices := edgesOn v.notices s.conditions (s.settleNotices u).conditions } := by
  subst h
  rfl

/-! ### Waiting for a slot (R112) -/

/-- R112: the waiting-for-slot flag is set, and the head entry stays unbegun. -/
def State.waitForSlot (s : State) : State := { s with composer := { s.composer with waiting := true } }

theorem State.withSheet_of_full (s : State) (work : State → State) (ha : assemblingSheet s.ring = none)
    (hf : ringHasFree s.ring = false) : s.withSheet work = s.waitForSlot := by
  simp [State.withSheet, State.waitForSlot, ha, hf]

/-- R117, R118: with no sheet assembling there is no line to merge into. -/
theorem State.merges_of_no_sheet (s : State) (p : PlacedEntry) (ha : assemblingSheet s.ring = none) :
    s.merges p = false := by
  simp [State.merges, State.lastLine, State.currentColumn, ha]

theorem workPlacedLine_of_base (s : State) (p : PlacedEntry) (hp : p.layer = 1) :
    workPlacedLine (.placedLine p) s = s.placeJudged p := if_pos hp

theorem workOwnLine_of_alone (s : State) (p : PlacedEntry) (hp : p.layer ≠ 1) (hm : s.merges p = false) :
    workOwnLine (.placedLine p) s = s.placeUnjudged p := if_pos ⟨hp, by simp [hm]⟩

theorem workFormEnd_of_formEnd (s : State) (f : FormEndMark) : workFormEnd (.formEnd f) s = s.closeForm f := rfl

/-- A step whose work needs a sheet, on a full ring, waits and does nothing else. -/
theorem State.runNoticed_atHead_waits (s : State) (work : Entry → State → State) {x : Entry} {rest : List Entry}
    (hq : s.quiet) (hx : s.queue = x :: rest) (ha : assemblingSheet s.ring = none) (hf : ringHasFree s.ring = false)
    (onSheet : State → State) (hw : work x s = s.withSheet onSheet) :
    (s.runNoticed fun q => q.atHead work) = .next (s.settleNotices s.waitForSlot) := by
  rw [s.runNoticed_atHead work hq hx, hw, s.withSheet_of_full onSheet ha hf]

/-- R201: RING FULL is the waiting-for-slot flag. -/
theorem State.ringFull_iff_waiting (s : State) : inSet s.conditions .ringFull = s.composer.waiting :=
  s.inSet_conditions .ringFull

/-- R202: a condition that rises pends. -/
theorem edgesOn_pending_of_rise (n : NoticeUnit) (before after : NoticeSet) (x : Source10)
    (hb : inSet before x = false) (ha : inSet after x = true) : inSet (edgesOn n before after).pending x = true := by
  simp [edgesOn_pending, hb, ha]

/-- Settles O34: each of the three rows does its work through `withSheet`, which waits; RING FULL is the flag, so it
rises when the flag was clear. -/
theorem composerWaitsForASlot : Obligations.ComposerWaitsForASlot := by
  unfold Obligations.ComposerWaitsForASlot
  intro c s x rest hq hx ha hf hc
  have hwaits : exec c s = .next (s.settleNotices s.waitForSlot) := by
    rcases hc with ⟨rfl, p, rfl, hp⟩ | ⟨rfl, p, rfl, hp⟩ | ⟨rfl, f, rfl⟩
    · rw [exec_placedLine]
      exact s.runNoticed_atHead_waits _ hq hx ha hf _ (workPlacedLine_of_base s p hp)
    · rw [exec_lineOfItsOwn]
      exact s.runNoticed_atHead_waits _ hq hx ha hf _ (workOwnLine_of_alone s p hp (s.merges_of_no_sheet p ha))
    · rw [exec_formEnd]
      exact s.runNoticed_atHead_waits _ hq hx ha hf _ (workFormEnd_of_formEnd s f)
  have hfull : inSet s.waitForSlot.conditions .ringFull = true := s.waitForSlot.ringFull_iff_waiting
  exact ⟨_, hwaits, rfl, hfull,
    fun hw => edgesOn_pending_of_rise _ _ _ _ (s.ringFull_iff_waiting.trans hw) hfull, rfl, rfl⟩

/-! ### The flush (R121, R125) -/

theorem State.flush_of_no_sheet (s : State) (h : assemblingSheet s.ring = none) : s.flush = s := by
  simp only [State.flush, h]

theorem State.flush_of_sheet (s : State) (sh : Sheet) (h : assemblingSheet s.ring = some sh) :
    s.flush = s.closeSheet sh := by
  simp only [State.flush, h]

@[simp] theorem State.closeSheet_ring (s : State) (sh : Sheet) :
    (s.closeSheet sh).ring = mapSlots commitSlot s.ring := rfl

@[simp] theorem State.closeSheet_composer (s : State) (sh : Sheet) :
    (s.closeSheet sh).composer = { s.composer with column := 1 } := rfl

@[simp] theorem State.closeSheet_counters (s : State) (sh : Sheet) :
    (s.closeSheet sh).counters = ((s.countFits sh.openLines).count .sheetsCommitted 1).counters := rfl

/-- A flush reaches the column index, the ring and the counters, and nothing else. -/
theorem State.flush_eq (s : State) :
    s.flush = { s with
      composer := { s.composer with column := s.flush.composer.column }
      ring := s.flush.ring
      counters := s.flush.counters } := by
  cases ha : assemblingSheet s.ring with
  | none => rw [s.flush_of_no_sheet ha]
  | some sh =>
    rw [s.flush_of_sheet sh ha]
    rfl

/-- The head leaves after the flush. -/
theorem State.flush_removeHead_eq (s : State) {x : Entry} {rest : List Entry} (hx : s.queue = x :: rest) :
    s.flush.removeHead = { s with
      queue := rest
      composer := { s.composer with column := s.flush.composer.column }
      ring := s.flush.ring
      counters := s.flush.counters } := by
  have hqueue : s.flush.removeHead.queue = rest := by rw [State.removeHead_queue, s.flush_queue, hx, List.tail_cons]
  calc s.flush.removeHead = { s.flush with queue := s.flush.removeHead.queue } := rfl
    _ = _ := by rw [hqueue, s.flush_eq]

/-! ### The marker and the Line Port (R16, R67) -/

/-- R18: the SYNC-pending flag. -/
theorem State.syncPending_iff (s : State) : s.syncPending = true ↔ .sync ∈ s.queue := List.contains_iff_mem

theorem State.markerTaken_of_last (s : State) (clamped : Bool) (hp : s.lp.port = .syncWithheld .markerQueued clamped)
    (hr : .sync ∉ s.queue) : s.markerTaken = s.setPort (.syncWithheld .ringWatch clamped) := by
  simp only [State.markerTaken, hp]
  exact if_neg (s.syncPending_iff.not.mpr hr)

theorem State.markerTaken_of_more (s : State) (hr : .sync ∈ s.queue) : s.markerTaken = s := by
  have hpending : s.syncPending = true := s.syncPending_iff.mpr hr
  unfold State.markerTaken
  split
  · exact if_pos hpending
  all_goals rfl

theorem State.markerTaken_of_not_withheld (s : State)
    (hp : ∀ clamped, s.lp.port ≠ .syncWithheld .markerQueued clamped) : s.markerTaken = s := by
  unfold State.markerTaken
  split
  · next clamped h => exact absurd h (hp clamped)
  all_goals rfl

/-- A marker that is taken reaches the Line Port alone. -/
theorem State.markerTaken_eq (s : State) : s.markerTaken = { s with lp := s.markerTaken.lp } := by
  unfold State.markerTaken
  split
  · split <;> rfl
  all_goals rfl

@[simp] theorem State.markerTaken_composer (s : State) : s.markerTaken.composer = s.composer := by rw [s.markerTaken_eq]
@[simp] theorem State.markerTaken_ring (s : State) : s.markerTaken.ring = s.ring := by rw [s.markerTaken_eq]
@[simp] theorem State.markerTaken_counters (s : State) : s.markerTaken.counters = s.counters := by rw [s.markerTaken_eq]

/-- The whole work of a SYNC marker: the flush, the queue without it, and the Line Port. -/
theorem State.syncTaken_eq (s : State) {x : Entry} {rest : List Entry} (hx : s.queue = x :: rest) :
    s.flush.removeHead.markerTaken = { s with
      lp := s.flush.removeHead.markerTaken.lp
      queue := rest
      composer := { s.composer with column := s.flush.removeHead.markerTaken.composer.column }
      ring := s.flush.removeHead.markerTaken.ring
      counters := s.flush.removeHead.markerTaken.counters } := by
  simp only [State.markerTaken_composer, State.markerTaken_ring, State.markerTaken_counters]
  rw [State.markerTaken_eq, s.flush_removeHead_eq hx]

/-- The whole work of a SHEET PLAN: the flush, the queue without it, and the plan in force. -/
theorem State.planTaken_eq (s : State) (p : SheetPlan) {x : Entry} {rest : List Entry} (hx : s.queue = x :: rest) :
    (s.applyPlan p).removeHead = { s with
      queue := rest
      composer := { s.composer with plan := p, column := 1, nextFolio := p.folioStart }
      ring := s.flush.ring
      counters := s.flush.counters } := by
  calc (s.applyPlan p).removeHead
      = { s.flush.removeHead with
          composer := { s.flush.composer with plan := p, column := 1, nextFolio := p.folioStart } } := rfl
    _ = _ := by rw [s.flush_removeHead_eq hx, s.flush_eq]

/-- R67: a SYNC marker at the head, in a quiet state. -/
theorem syncMarker_flushes (s : State) (rest : List Entry) (hq : s.quiet) (hx : s.queue = .sync :: rest) :
    exec .syncMarker s = .next (s.settleNotices s.flush.removeHead.markerTaken) := by
  rw [exec_syncMarker]
  exact s.runNoticed_atHead workSyncMarker hq hx

/-- R126: a SHEET PLAN at the head, in a quiet state. -/
theorem sheetPlanEntry_flushes (s : State) (p : SheetPlan) (fenced : Bool) (rest : List Entry) (hq : s.quiet)
    (hx : s.queue = .streamTable (.sheetPlan p) fenced :: rest) :
    exec .sheetPlanEntry s = .next (s.settleNotices (s.applyPlan p).removeHead) := by
  rw [exec_sheetPlanEntry]
  exact s.runNoticed_atHead workSheetPlan hq hx

/-- Settles O38: both rows flush and drop the head; the cases of the assembling sheet are those of the flush, and the
cases of the Line Port those of the marker taken. -/
theorem markersAndPlansFlush : Obligations.MarkersAndPlansFlush := by
  unfold Obligations.MarkersAndPlansFlush
  intro s rest hq
  refine ⟨fun hx => ?_, fun p fenced hx => ?_⟩
  · have hqueue : s.flush.removeHead.queue = rest := by rw [s.flush_removeHead_eq hx]
    have hlp : s.flush.removeHead.lp = s.lp := s.flush_lp
    refine ⟨_, syncMarker_flushes s rest hq hx, s.settleNotices_of_eq (s.syncTaken_eq hx), fun ha => ?_,
      fun sh ha => ?_, fun clamped hp hr => ?_, fun hr => ?_⟩
    · simp [s.flush_of_no_sheet ha]
    · simp [s.flush_of_sheet sh ha]
    · rw [State.settleNotices_lp, State.markerTaken_of_last _ clamped (hlp ▸ hp) (hqueue ▸ hr), State.setPort_lp,
        hlp]
    · have hkept : s.flush.removeHead.markerTaken = s.flush.removeHead :=
        hr.elim (fun hmore => State.markerTaken_of_more _ (hqueue ▸ hmore))
          (fun hport => State.markerTaken_of_not_withheld _ (hlp ▸ hport))
      rw [State.settleNotices_lp, hkept, hlp]
  · refine ⟨_, sheetPlanEntry_flushes s p fenced rest hq hx, s.settleNotices_of_eq (s.planTaken_eq p hx),
      fun ha => ?_, fun sh ha => ?_⟩
    · simp [s.planTaken_eq p hx, s.flush_of_no_sheet ha]
    · simp [s.planTaken_eq p hx, s.flush_of_sheet sh ha]

end Sys2Proof.Machine
end

section
/-! PROOFS. Ranked keys and display keys, the order of ranked keys, the judgement of a line, and the entries that clear the
held key. -/

namespace Sys2Proof.Machine

/-! ### The order of ranked keys (R81) -/

/-- R81: exchanging the keys reverses the result. -/
theorem compareKeys_swap : ∀ a b : List Nat, compareKeys b a = (compareKeys a b).swap
  | [], [] => rfl
  | [], _ :: _ => rfl
  | _ :: _, [] => rfl
  | x :: as, y :: bs => by
    have ih := compareKeys_swap as bs
    rcases Nat.lt_trichotomy x y with h | rfl | h
    · simp [compareKeys, h, h.not_gt]
    · simp [compareKeys, ih]
    · simp [compareKeys, h, h.not_gt]

theorem compareKeys_gt_iff (a b : List Nat) : compareKeys a b = .gt ↔ compareKeys b a = .lt := by
  rw [compareKeys_swap a b, Ordering.swap_eq_lt]

theorem compareKeys_cons_eq_lt_iff (x y : Nat) (as bs : List Nat) :
    compareKeys (x :: as) (y :: bs) = .lt ↔ x < y ∨ x = y ∧ compareKeys as bs = .lt := by
  rcases Nat.lt_trichotomy x y with h | rfl | h
  · simp [compareKeys, h]
  · simp [compareKeys]
  · simp [compareKeys, h, h.not_gt, h.ne']

theorem compareKeys_eq_iff : ∀ a b : List Nat, compareKeys a b = .eq ↔ a = b
  | [], [] => by simp [compareKeys]
  | [], _ :: _ => by simp [compareKeys]
  | _ :: _, [] => by simp [compareKeys]
  | x :: as, y :: bs => by
    have ih := compareKeys_eq_iff as bs
    rcases Nat.lt_trichotomy x y with h | rfl | h
    · simp [compareKeys, h, h.ne]
    · simp [compareKeys, ih]
    · simp [compareKeys, h, h.not_gt, h.ne']

/-- R81 in terms of whole keys: `a` runs out and `b` goes on, or `a` has the lower rank where they first differ. -/
def LowerKey (a b : List Nat) : Prop :=
  (∃ more, more ≠ [] ∧ b = a ++ more) ∨ ∃ same x y as bs, a = same ++ x :: as ∧ b = same ++ y :: bs ∧ x < y

theorem lowerKey_nil_iff (b : List Nat) : LowerKey [] b ↔ b ≠ [] := by simp [LowerKey]

theorem not_lowerKey_nil (a : List Nat) : ¬LowerKey a [] := by simp [LowerKey]

/-- R81: the first ranks decide, unless they are equal. -/
theorem lowerKey_cons_iff (x y : Nat) (as bs : List Nat) :
    LowerKey (x :: as) (y :: bs) ↔ x < y ∨ x = y ∧ LowerKey as bs := by
  constructor
  · rintro (⟨more, hm, heq⟩ | ⟨_ | ⟨z, same⟩, u, v, us, vs, ha, hb, huv⟩)
    · obtain ⟨rfl, rfl⟩ := List.cons.inj heq
      exact .inr ⟨rfl, .inl ⟨more, hm, rfl⟩⟩
    · obtain ⟨rfl, -⟩ := List.cons.inj ha
      obtain ⟨rfl, -⟩ := List.cons.inj hb
      exact .inl huv
    · obtain ⟨rfl, rfl⟩ := List.cons.inj ha
      obtain ⟨rfl, rfl⟩ := List.cons.inj hb
      exact .inr ⟨rfl, .inr ⟨same, u, v, us, vs, rfl, rfl, huv⟩⟩
  · rintro (h | ⟨rfl, ⟨more, hm, rfl⟩ | ⟨same, u, v, us, vs, rfl, rfl, huv⟩⟩)
    · exact .inr ⟨[], x, y, as, bs, rfl, rfl, h⟩
    · exact .inl ⟨more, hm, rfl⟩
    · exact .inr ⟨x :: same, u, v, us, vs, rfl, rfl, huv⟩

theorem compareKeys_lt_iff : ∀ a b : List Nat, compareKeys a b = .lt ↔ LowerKey a b
  | [], [] => by simp [compareKeys, not_lowerKey_nil]
  | [], _ :: _ => by simp [compareKeys, lowerKey_nil_iff]
  | _ :: _, [] => by simp [compareKeys, not_lowerKey_nil]
  | x :: as, y :: bs => by
    rw [compareKeys_cons_eq_lt_iff, lowerKey_cons_iff, compareKeys_lt_iff as bs]

/-- Settles O30: each result of the comparison by its own lemma. -/
theorem rankedKeysAreCompared : Obligations.RankedKeysAreCompared := by
  unfold Obligations.RankedKeysAreCompared
  exact fun a b => ⟨compareKeys_eq_iff a b, compareKeys_lt_iff a b, compareKeys_gt_iff a b⟩

/-! ### The key field and its two keys (R79, R80) -/

theorem FieldLayout.keyField_length (l : FieldLayout) (text : Text) : (l.keyField text).length = l.keyLength := by
  simp [FieldLayout.keyField]

theorem FieldLayout.keyField_getElem? (l : FieldLayout) (text : Text) (i : Nat) (hi : i < l.keyLength) :
    (l.keyField text)[i]? = some ((text[l.keyStart - 1 + i]?).join) := by
  simp [FieldLayout.keyField, hi]

theorem trimZeros_eq_rdropWhile (ks : List Nat) : trimZeros ks = ks.rdropWhile fun r => r == 0 := rfl

/-- R79: the trim takes zeros off the end, and nothing else. -/
theorem exists_eq_trimZeros_append (ks : List Nat) : ∃ n, ks = trimZeros ks ++ List.replicate n 0 := by
  have hzero : ∀ r ∈ ks.rtakeWhile fun r => r == 0, r = 0 := fun r hr =>
    beq_iff_eq.mp (List.mem_rtakeWhile_imp (p := fun r => r == 0) hr)
  refine ⟨(ks.rtakeWhile fun r => r == 0).length, ?_⟩
  rw [← List.eq_replicate_of_mem hzero, trimZeros_eq_rdropWhile, List.rdropWhile_append_rtakeWhile]

/-- R79: a sequence that is not empty after the trim ends in a rank other than 0. -/
theorem ne_zero_of_mem_getLast?_trimZeros (ks : List Nat) (r : Nat) (hr : (trimZeros ks).getLast? = some r) : r ≠ 0 := by
  have hne : trimZeros ks ≠ [] := fun hnil => by simp [hnil] at hr
  have hlast : ¬((trimZeros ks).getLast hne == 0) = true := List.rdropWhile_last_not (fun r => r == 0) ks hne
  rw [List.getLast?_eq_some_getLast hne, Option.some.injEq] at hr
  rwa [hr, beq_iff_eq] at hlast

theorem trimZeros_isPrefix (ks : List Nat) : trimZeros ks <+: ks := List.rdropWhile_prefix _ ks

theorem KeyComparator.rankedKey_length_le (k : KeyComparator) (text : Text) :
    (k.rankedKey text).length ≤ k.layout.keyLength :=
  calc (k.rankedKey text).length
      ≤ ((k.layout.keyField text).filterMap (rankAt k.collation)).length := (trimZeros_isPrefix _).length_le
    _ ≤ (k.layout.keyField text).length := List.length_filterMap_le _ _
    _ = k.layout.keyLength := k.layout.keyField_length text

/-- R79: the last rank of a ranked key is the rank of a glyph of the key field. -/
theorem KeyComparator.exists_glyph_of_last_rank (k : KeyComparator) (text : Text) (r : Nat)
    (hr : (k.rankedKey text).getLast? = some r) :
    r ≠ 0 ∧ ∃ g, some g ∈ k.layout.keyField text ∧ k.collation.get g = some r := by
  have hne := ne_zero_of_mem_getLast?_trimZeros _ r hr
  obtain ⟨x, hx, hrank⟩ := List.mem_filterMap.mp ((trimZeros_isPrefix _).subset (List.mem_of_getLast? hr))
  cases x with
  | none => exact absurd (Option.some.inj hrank).symm hne
  | some g => exact ⟨hne, g, hx, hrank⟩

/-- R79, R80: a keyed line has a glyph in its key field, so its display key is not empty. -/
theorem KeyComparator.displayKey_ne_nil (k : KeyComparator) (text : Text) (h : k.rankedKey text ≠ []) :
    k.displayKey text ≠ [] := by
  intro hempty
  obtain ⟨-, g, hg, -⟩ := k.exists_glyph_of_last_rank text _ (List.getLast?_eq_some_getLast h)
  obtain ⟨i, hi⟩ := List.mem_iff_getElem?.mp hg
  have hlen : (trimBlanks (k.layout.keyField text)).length ≤ i := by
    rw [show trimBlanks (k.layout.keyField text) = [] from hempty]
    exact Nat.zero_le i
  exact Option.some_ne_none g (eq_none_of_trimBlanks_length_le _ i hlen _ hi)

theorem exists_eq_trimBlanks_append (t : Text) : ∃ n, t = trimBlanks t ++ List.replicate n none := by
  obtain ⟨blanks, ht, hb⟩ := exists_trimBlanks_append_eq t
  exact ⟨blanks.length, by rw [← List.eq_replicate_of_mem hb, ht]⟩

/-! ### The verdict (R82) -/

theorem verdictOf_nil (held : Option (List Nat)) : verdictOf held [] = .unkeyed := rfl

theorem verdictOf_none (key : List Nat) (hk : key ≠ []) : verdictOf none key = .first :=
  if_neg fun h => hk (List.isEmpty_iff.mp h)

theorem verdictOf_some (h key : List Nat) (hk : key ≠ []) :
    verdictOf (some h) key = match compareKeys h key with
      | .lt => .inOrder
      | .eq => .duplicate
      | .gt => .outOfOrder :=
  if_neg fun he => hk (List.isEmpty_iff.mp he)

/-- R79: no verdict on a keyed line is unkeyed. -/
theorem verdictOf_eq_unkeyed_iff (held : Option (List Nat)) (key : List Nat) :
    verdictOf held key = .unkeyed ↔ key = [] := by
  by_cases hk : key = []
  · simp [hk, verdictOf_nil]
  · cases held with
    | none => simp [hk, verdictOf_none]
    | some h => rw [verdictOf_some h key hk]; cases compareKeys h key <;> simp [hk]

theorem verdictOf_eq_first_iff (held : Option (List Nat)) (key : List Nat) :
    verdictOf held key = .first ↔ key ≠ [] ∧ held = none := by
  by_cases hk : key = []
  · simp [hk, verdictOf_nil]
  · cases held with
    | none => simp [hk, verdictOf_none]
    | some h => rw [verdictOf_some h key hk]; cases compareKeys h key <;> simp

/-- R82: a line is OUT OF ORDER when its ranked key is lower than the held key. -/
theorem verdictOf_eq_outOfOrder_iff (held : Option (List Nat)) (key : List Nat) :
    verdictOf held key = .outOfOrder ↔ key ≠ [] ∧ ∃ h, held = some h ∧ compareKeys key h = .lt := by
  by_cases hk : key = []
  · simp [hk, verdictOf_nil]
  · cases held with
    | none => simp [hk, verdictOf_none]
    | some h =>
      rw [verdictOf_some h key hk]
      cases hc : compareKeys h key <;> simp [hk, ← compareKeys_gt_iff, hc]

theorem verdictOf_eq_duplicate_iff (held : Option (List Nat)) (key : List Nat) :
    verdictOf held key = .duplicate ↔ key ≠ [] ∧ held = some key := by
  by_cases hk : key = []
  · simp [hk, verdictOf_nil]
  · cases held with
    | none => simp [hk, verdictOf_none]
    | some h =>
      rw [verdictOf_some h key hk]
      cases hc : compareKeys h key <;> simp [hk, ← compareKeys_eq_iff h key, hc]

/-- Settles O31: the verdicts by the lemmas of `verdictOf`, and the keys by the lemmas of the key field above. -/
theorem outOfOrderExactlyWhenLower : Obligations.OutOfOrderExactlyWhenLower := by
  unfold Obligations.OutOfOrderExactlyWhenLower
  intro k text hvalid
  refine ⟨verdictOf_eq_unkeyed_iff _ _, verdictOf_eq_first_iff _ _, verdictOf_eq_outOfOrder_iff _ _,
    verdictOf_eq_duplicate_iff _ _, k.rankedKey_length_le text,
    ⟨k.layout.keyField text, k.layout.keyField_length text, k.layout.keyField_getElem? text, ?_,
      exists_eq_trimBlanks_append _⟩,
    trimBlanks_getLast? _, k.displayKey_ne_nil text, fun r hr => ?_⟩
  · exact exists_eq_trimZeros_append ((k.layout.keyField text).filterMap (rankAt k.collation))
  · obtain ⟨-, g, -, hg⟩ := k.exists_glyph_of_last_rank text r hr
    exact hvalid g r hg

/-! ### The entries that clear the held key (R74, R77, R87) -/

/-- In a quiet state a step that settles no notices does its work on the head entry. -/
theorem State.run_atHead (s : State) (work : Entry → State → State) {x : Entry} {rest : List Entry}
    (hq : s.quiet) (hx : s.queue = x :: rest) : (s.run fun q => q.atHead work) = .next (work x s) := by
  rw [s.run_of_quiet _ hq, s.atHead_of_cons work hx]

theorem State.removeHead_of_cons (s : State) {x : Entry} {rest : List Entry} (hx : s.queue = x :: rest) :
    s.removeHead = { s with queue := rest } := by
  simp only [State.removeHead, hx, List.tail_cons]

theorem exec_collationEntry (s : State) : exec .collationEntry s = s.run fun q => q.atHead workCollation := rfl

theorem exec_fieldLayoutEntry (s : State) : exec .fieldLayoutEntry s = s.run fun q => q.atHead workFieldLayout := rfl

theorem exec_keyResetEntry (s : State) : exec .keyResetEntry s = s.run fun q => q.atHead workKeyReset := rfl

theorem workCollation_of_collation (s : State) (c : Collation) (fenced : Bool) :
    workCollation (.streamTable (.collation c) fenced) s =
      { s.removeHead with keys := { s.keys with collation := c, heldKey := none } } := rfl

theorem workFieldLayout_of_fieldLayout (s : State) (l : FieldLayout) (fenced : Bool) :
    workFieldLayout (.streamTable (.fieldLayout l) fenced) s =
      { s.removeHead with keys := { s.keys with layout := l, heldKey := none } } := rfl

theorem workKeyReset_of_keyReset (s : State) (fenced : Bool) :
    workKeyReset (.streamTable .keyReset fenced) s = { s.removeHead with keys := s.keys.clearHeld } := rfl

/-- Settles O39: each row does its work on the head, and drops it. -/
theorem keyTablesAreApplied : Obligations.KeyTablesAreApplied := by
  unfold Obligations.KeyTablesAreApplied
  intro s rest fenced hq
  refine ⟨fun c hx => ?_, fun l hx => ?_, fun hx => ?_⟩
  · rw [exec_collationEntry, s.run_atHead _ hq hx, workCollation_of_collation, s.removeHead_of_cons hx]
  · rw [exec_fieldLayoutEntry, s.run_atHead _ hq hx, workFieldLayout_of_fieldLayout, s.removeHead_of_cons hx]
  · rw [exec_keyResetEntry, s.run_atHead _ hq hx, workKeyReset_of_keyReset, s.removeHead_of_cons hx]
    rfl

end Sys2Proof.Machine
end

section
/-! PROOFS. The opening of a sheet, the binding of a column, and a layer-1 line judged, placed or clipped. -/

namespace Sys2Proof.Machine

/-! ### The ring and its assembling sheet (R108, R111, R112) -/

/-- R111: the sheet takes the lowest-numbered FREE slot. -/
theorem fillFirst_eq_set (o : Occupied) : ∀ (r : Ring) (k : Nat), r[k]? = some none →
    (∀ j, j < k → r[j]? ≠ some none) → fillFirst o r = r.set k (some o)
  | none :: r, 0, _, _ => rfl
  | none :: r, k + 1, _, hbefore => absurd rfl (hbefore 0 k.succ_pos)
  | some x :: r, k + 1, hk, hbefore => by
    rw [fillFirst, List.set_cons_succ,
      fillFirst_eq_set o r k hk fun j hj => hbefore (j + 1) (Nat.succ_lt_succ hj)]

theorem ringHasFree_iff (r : Ring) : ringHasFree r = true ↔ none ∈ r := by
  simp [ringHasFree]

theorem assemblingSheet_cons_some (x : Occupied) (r : Ring) :
    assemblingSheet (some x :: r) = if x.phase = .assembling then some x.sheet else assemblingSheet r := rfl

theorem assemblingSheet_eq_none_iff : ∀ r : Ring,
    assemblingSheet r = none ↔ ∀ x, some x ∈ r → x.phase ≠ .assembling
  | [] => by simp [assemblingSheet]
  | none :: r => by simp [assemblingSheet, assemblingSheet_eq_none_iff r]
  | some x :: r => by
    rw [assemblingSheet_cons_some]
    split
    · next h => simp [h]
    · next h => simp [h, assemblingSheet_eq_none_iff r]

theorem mem_of_assemblingSheet : ∀ (r : Ring) (sh : Sheet), assemblingSheet r = some sh → some ⟨.assembling, sh⟩ ∈ r
  | none :: r, sh, h => List.mem_cons_of_mem _ (mem_of_assemblingSheet r sh h)
  | some x :: r, sh, h => by
    rw [assemblingSheet_cons_some] at h
    split at h
    · next hx =>
      obtain rfl := Option.some.inj h
      rw [← hx]
      exact List.mem_cons_self
    · exact List.mem_cons_of_mem _ (mem_of_assemblingSheet r sh h)

/-! ### The opening of a sheet and the current column (R111, R113 to R115) -/

theorem advanceFolio_eq (folio : Option Nat) :
    advanceFolio folio = match folio with
      | none => none
      | some n => some (if n < 9999 then n + 1 else 9999) := by
  cases folio <;> rfl

theorem State.openSheet_composer (s : State) : s.openSheet.composer = s.composer.afterOpening :=
  congrArg (fun folio => ({ s.composer with
    column := 1, nextSeq := s.composer.nextSeq + 1, nextFolio := folio, waiting := false } : Composer))
    (advanceFolio_eq s.composer.nextFolio)

theorem State.openSheet_eq (s : State) :
    s.openSheet = { s with ring := s.openSheet.ring, composer := s.composer.afterOpening } := by
  rw [← s.openSheet_composer]
  rfl

theorem State.openSheet_ring (s : State) :
    s.openSheet.ring = fillFirst ⟨.assembling, s.composer.freshSheet⟩ s.ring := rfl

theorem State.currentColumn_eq (s : State) :
    s.currentColumn = (assemblingSheet s.ring).bind fun sh => sh.columns[s.composer.column - 1]? := by
  unfold State.currentColumn
  split
  · next h => rw [h, Option.bind_none]
  · next sh h => rw [h, Option.bind_some]

/-- A change of the current column reaches the ASSEMBLING slots alone. -/
theorem onAssembling_modify (f : Column → Column) (g : Nat) (x : Occupied) :
    onAssembling (fun sh => { sh with columns := sh.columns.modify g f }) x =
      if x.phase = .assembling then ⟨.assembling, { x.sheet with columns := x.sheet.columns.modify g f }⟩ else x := by
  unfold onAssembling
  split
  · next h => rw [h]
  · rfl

theorem State.modColumn_eq (s : State) (f : Column → Column) :
    s.modColumn f = { s with ring := s.ring.map fun o => match o with
      | none => none
      | some x =>
        if x.phase = .assembling then
          some ⟨.assembling, { x.sheet with columns := x.sheet.columns.modify (s.composer.column - 1) f }⟩
        else some x } := by
  refine congrArg (fun r => { s with ring := r }) (List.map_congr_left fun o _ => ?_)
  cases o with
  | none => rfl
  | some x => rw [Option.map_some, onAssembling_modify, apply_ite some]

/-- R94: the vertical pitch, with the three quarters of the line pitch rounded up. -/
theorem verticalPitch_eq (length : Nat) (pitch : LinePitch) (depth v : Nat)
    (hv : v = match pitch with
      | .lpi6 => 200
      | .lpi8 => 150
      | .lpi10 => 120) :
    verticalPitch length pitch depth = max (min v (depth / length)) ((3 * v + 3) / 4) := by
  subst hv
  cases pitch <;> rfl

/-- The column a binding gives an unbound column (R94, R102, R115). -/
theorem bindColumn_of_unbound (p : SheetPlan) (g form length : Nat) (pitch : LinePitch) (c : Column)
    (h : c.binding = none) : bindColumn p g form length pitch c =
      { c with binding := some ⟨form, verticalPitch length pitch p.columnDepth, p.leftEdge g⟩ } := by
  simp only [bindColumn, h]

/-- R115: a column keeps its binding. -/
theorem bindColumn_of_bound (p : SheetPlan) (g form length : Nat) (pitch : LinePitch) (c : Column) (b : Binding)
    (h : c.binding = some b) : bindColumn p g form length pitch c = c := by
  simp only [bindColumn, h]

/-! ### The sheet a head entry works on (R111) -/

/-- R111: the sheet that is assembling, or one opened for the entry. -/
theorem State.withSheet_of_room (s : State) (work : State → State)
    (h : (assemblingSheet s.ring).isSome = true ∨ ringHasFree s.ring = true) :
    s.withSheet work = work (if (assemblingSheet s.ring).isSome then s else s.openSheet) := by
  unfold State.withSheet
  split
  · rfl
  · next ha => exact if_pos (h.resolve_left ha)

/-- `t` is `s` but for the ring and the composer, whose plan stands. -/
structure State.SheetOnly (s t : State) : Prop where
  eq : t = { s with ring := t.ring, composer := t.composer }
  plan : t.composer.plan = s.composer.plan

theorem State.SheetOnly.keys {s t : State} (h : s.SheetOnly t) : t.keys = s.keys := by rw [h.eq]

theorem State.SheetOnly.notices {s t : State} (h : s.SheetOnly t) : t.notices = s.notices := by rw [h.eq]

theorem State.SheetOnly.queue {s t : State} (h : s.SheetOnly t) : t.queue = s.queue := by rw [h.eq]

theorem State.SheetOnly.counter {s t : State} (h : s.SheetOnly t) (c : Counter) : t.counter c = s.counter c := by
  rw [h.eq]
  rfl

/-- Opening a sheet when none is assembling reaches the ring and the composer. -/
theorem State.sheetOnly_of_opening (s : State) :
    s.SheetOnly (if (assemblingSheet s.ring).isSome then s else s.openSheet) := by
  split <;> exact ⟨rfl, rfl⟩

/-! ### The judgement (R82 to R84) -/

/-- R83: a keyed line's ranked key is the held key from then on. -/
theorem KeyComparator.afterLine_eq (k : KeyComparator) (text : Text) :
    k.afterLine text =
      { k with heldKey := if k.verdict text = .unkeyed then k.heldKey else some (k.rankedKey text) } := by
  simp only [KeyComparator.afterLine, KeyComparator.verdict, verdictOf_eq_unkeyed_iff, List.isEmpty_iff]
  split <;> rfl

/-- R84: the counters a judged line counts in. -/
def Verdict.counted : Verdict → List Counter
  | .unkeyed => []
  | .first => [.keyedLines]
  | .inOrder => [.keyedLines]
  | .duplicate => [.keyedLines, .duplicates]
  | .outOfOrder => [.keyedLines, .outOfOrder]

theorem Verdict.keyedLines_mem_counted_iff (v : Verdict) : .keyedLines ∈ v.counted ↔ v ≠ .unkeyed := by
  cases v <;> decide

theorem Verdict.duplicates_mem_counted_iff (v : Verdict) : .duplicates ∈ v.counted ↔ v = .duplicate := by
  cases v <;> decide

theorem Verdict.outOfOrder_mem_counted_iff (v : Verdict) : .outOfOrder ∈ v.counted ↔ v = .outOfOrder := by
  cases v <;> decide

theorem Verdict.counted_subset (v : Verdict) : v.counted ⊆ [.keyedLines, .duplicates, .outOfOrder] := by
  cases v <;> decide

/-- One count of each of two counters. -/
theorem State.counter_count_count (s : State) (a b c : Counter) (hab : a ≠ b) :
    ((s.count a 1).count b 1).counter c = if c ∈ [a, b] then countUp (s.counter c) 1 else s.counter c := by
  rw [State.counter_count, State.counter_count]
  by_cases hb : c = b
  · subst hb
    simp [hab.symm]
  · simp [hb]

theorem State.judgeLine_counter (s : State) (text : Text) (c : Counter) :
    (s.judgeLine text).counter c =
      if c ∈ (s.keys.verdict text).counted then countUp (s.counter c) 1 else s.counter c := by
  unfold State.judgeLine
  cases s.keys.verdict text with
  | unkeyed => rfl
  | first | inOrder =>
    simp only [Verdict.counted, List.mem_singleton]
    exact State.counter_count _ .keyedLines c 1
  | duplicate => exact State.counter_count_count _ .keyedLines .duplicates c (by decide)
  | outOfOrder => exact State.counter_count_count _ .keyedLines .outOfOrder c (by decide)

/-- R84: OUT OF ORDER alone posts a notice. -/
theorem State.judgeLine_notices (s : State) (text : Text) :
    (s.judgeLine text).notices =
      if s.keys.verdict text = .outOfOrder then
        s.notices.setPending (s.notices.pending ||| Source10.listingOrder.bit)
      else s.notices := by
  unfold State.judgeLine
  cases s.keys.verdict text <;> rfl

/-- A judgement reaches the held key, the counters and the notices, and nothing else. -/
theorem State.judgeLine_eq (s : State) (text : Text) :
    s.judgeLine text = { s with
      keys := s.keys.afterLine text
      counters := (s.judgeLine text).counters
      notices := (s.judgeLine text).notices } := by
  unfold State.judgeLine
  cases s.keys.verdict text <;> rfl

theorem State.judgeLine_currentColumn (s : State) (text : Text) :
    (s.judgeLine text).currentColumn = s.currentColumn := by
  rw [s.judgeLine_eq]
  rfl

/-! ### The line placed or clipped (R95, R116) -/

/-- R116: fitting a line and its display key look at the field layout, and not at the held key. -/
theorem lineOf_afterLine (plan : SheetPlan) (k : KeyComparator) (text : Text) (pitch : Nat) (p : PlacedEntry)
    (v : Verdict) : lineOf plan (k.afterLine text) pitch p v = lineOf plan k pitch p v := by
  rw [k.afterLine_eq]
  rfl

/-- A line placed or clipped reaches the ring and the counters, and nothing else. -/
theorem State.addOrClip_eq (s : State) (p : PlacedEntry) (v : Verdict) :
    s.addOrClip p v = { s with ring := (s.addOrClip p v).ring, counters := (s.addOrClip p v).counters } := by
  unfold State.addOrClip
  split
  · rfl
  · split <;> rfl

/-- R95: below the column depth the line is dropped and counted. -/
theorem State.addOrClip_of_below (s : State) (p : PlacedEntry) (v : Verdict) (c : Column) (b : Binding)
    (hc : s.currentColumn = some c) (hb : c.binding = some b) (hd : s.composer.plan.columnDepth < p.line * b.pitch) :
    s.addOrClip p v = s.count .depthClipped 1 := by
  simp only [State.addOrClip, hc, Option.bind_some, hb]
  exact if_pos (decide_eq_true hd)

/-- R116: within the column depth the line is added to the column. -/
theorem State.addOrClip_of_within (s : State) (p : PlacedEntry) (v : Verdict) (c : Column) (b : Binding)
    (hc : s.currentColumn = some c) (hb : c.binding = some b) (hd : p.line * b.pitch ≤ s.composer.plan.columnDepth) :
    s.addOrClip p v = s.modColumn (addLine (lineOf s.composer.plan s.keys b.pitch p v)) := by
  simp only [State.addOrClip, hc, Option.bind_some, hb]
  exact if_neg (by simpa [SheetPlan.clips] using hd)

/-- R95: a line placed or clipped counts in no counter but that of the lines clipped. -/
theorem State.addOrClip_counter (s : State) (p : PlacedEntry) (v : Verdict) (c : Counter) (hc : c ≠ .depthClipped) :
    (s.addOrClip p v).counter c = s.counter c := by
  unfold State.addOrClip
  split
  · rfl
  · split
    · exact s.counter_count_ne _ c 1 hc
    · rfl

/-! ### The whole work of a layer-1 line (R116) -/

/-- R115, R116: the column bound and the line judged. -/
def State.bindAndJudge (s : State) (p : PlacedEntry) : State := (s.bind p.form p.length p.pitch).judgeLine p.text

/-- R116: the work on the sheet: the column bound, the line judged, placed or clipped, and counted, and the entry gone. -/
def State.judgeAndPlace (s : State) (p : PlacedEntry) : State :=
  (((s.bindAndJudge p).addOrClip p (s.keys.verdict p.text)).count .placedLines 1).removeHead

theorem State.placeJudged_of_room (s : State) (p : PlacedEntry)
    (h : (assemblingSheet s.ring).isSome = true ∨ ringHasFree s.ring = true) :
    s.placeJudged p = (if (assemblingSheet s.ring).isSome then s else s.openSheet).judgeAndPlace p :=
  s.withSheet_of_room (fun t => t.judgeAndPlace p) h

theorem State.bindAndJudge_eq (s : State) (p : PlacedEntry) :
    s.bindAndJudge p = { s with
      keys := s.keys.afterLine p.text
      ring := (s.bind p.form p.length p.pitch).ring
      counters := (s.bindAndJudge p).counters
      notices := if s.keys.verdict p.text = .outOfOrder then
          s.notices.setPending (s.notices.pending ||| Source10.listingOrder.bit)
        else s.notices } := by
  have hj := (s.bind p.form p.length p.pitch).judgeLine_eq p.text
  rw [State.judgeLine_notices] at hj
  exact hj

theorem State.bindAndJudge_currentColumn (s : State) (p : PlacedEntry) :
    (s.bindAndJudge p).currentColumn = (s.bind p.form p.length p.pitch).currentColumn :=
  State.judgeLine_currentColumn _ _

theorem State.bindAndJudge_composer (s : State) (p : PlacedEntry) : (s.bindAndJudge p).composer = s.composer := by
  rw [s.bindAndJudge_eq]

theorem State.bindAndJudge_keys (s : State) (p : PlacedEntry) :
    (s.bindAndJudge p).keys = s.keys.afterLine p.text := by
  rw [s.bindAndJudge_eq]

theorem State.bindAndJudge_ring (s : State) (p : PlacedEntry) :
    (s.bindAndJudge p).ring = (s.bind p.form p.length p.pitch).ring := by
  rw [s.bindAndJudge_eq]

theorem State.bindAndJudge_counter (s : State) (p : PlacedEntry) (c : Counter) :
    (s.bindAndJudge p).counter c =
      if c ∈ (s.keys.verdict p.text).counted then countUp (s.counter c) 1 else s.counter c :=
  State.judgeLine_counter _ _ c

/-- A counter that no verdict counts is left by the judgement. -/
theorem State.bindAndJudge_counter_of_not_counted (s : State) (p : PlacedEntry) (c : Counter)
    (hc : c ∉ [Counter.keyedLines, .duplicates, .outOfOrder]) : (s.bindAndJudge p).counter c = s.counter c := by
  rw [s.bindAndJudge_counter, if_neg fun h => hc (Verdict.counted_subset _ h)]

/-- What the work on the sheet leaves. -/
theorem State.judgeAndPlace_eq (s : State) (p : PlacedEntry) {x : Entry} {rest : List Entry}
    (hx : s.queue = x :: rest) :
    s.judgeAndPlace p = { s with
      queue := rest
      keys := s.keys.afterLine p.text
      ring := (s.judgeAndPlace p).ring
      counters := (s.judgeAndPlace p).counters
      notices := if s.keys.verdict p.text = .outOfOrder then
          s.notices.setPending (s.notices.pending ||| Source10.listingOrder.bit)
        else s.notices } := by
  have hqueue : (s.bindAndJudge p).queue.tail = rest := by
    rw [s.bindAndJudge_eq]
    exact congrArg List.tail hx
  calc s.judgeAndPlace p
      = { s.bindAndJudge p with
          queue := rest
          ring := (s.judgeAndPlace p).ring
          counters := (s.judgeAndPlace p).counters } := by
        rw [← hqueue]
        unfold State.judgeAndPlace
        rw [State.addOrClip_eq]
        rfl
    _ = _ := by rw [s.bindAndJudge_eq]

/-- R83, R84, R116: what PLACED_LINE leaves of the state in which it began. -/
theorem State.SheetOnly.judgeAndPlace_eq {s t : State} (h : s.SheetOnly t) (p : PlacedEntry) {x : Entry}
    {rest : List Entry} (hx : s.queue = x :: rest) :
    t.judgeAndPlace p = { s with
      queue := rest
      keys := { s.keys with
        heldKey := if s.keys.verdict p.text = .unkeyed then s.keys.heldKey else some (s.keys.rankedKey p.text) }
      composer := t.composer
      ring := (t.judgeAndPlace p).ring
      counters := (t.judgeAndPlace p).counters
      notices := if s.keys.verdict p.text = .outOfOrder then
          s.notices.setPending (s.notices.pending ||| Source10.listingOrder.bit)
        else s.notices } := by
  have hu := t.judgeAndPlace_eq p (h.queue.trans hx)
  rw [h.keys, h.notices, KeyComparator.afterLine_eq] at hu
  refine hu.trans ?_
  generalize (t.judgeAndPlace p).ring = r
  generalize (t.judgeAndPlace p).counters = cs
  rw [h.eq]

theorem State.judgeAndPlace_ring (s : State) (p : PlacedEntry) :
    (s.judgeAndPlace p).ring = ((s.bindAndJudge p).addOrClip p (s.keys.verdict p.text)).ring := by
  rw [State.judgeAndPlace, State.removeHead_ring, State.count_ring]

/-- R116: of the counters, the end of the work counts the line placed. -/
theorem State.judgeAndPlace_counter (s : State) (p : PlacedEntry) (c : Counter) :
    (s.judgeAndPlace p).counter c =
      if c = .placedLines then countUp (((s.bindAndJudge p).addOrClip p (s.keys.verdict p.text)).counter c) 1
      else ((s.bindAndJudge p).addOrClip p (s.keys.verdict p.text)).counter c :=
  State.counter_count _ .placedLines c 1

theorem State.judgeAndPlace_placedLines (s : State) (p : PlacedEntry) :
    (s.judgeAndPlace p).counter .placedLines = countUp (s.counter .placedLines) 1 := by
  rw [s.judgeAndPlace_counter, if_pos rfl, State.addOrClip_counter _ _ _ _ (by decide),
    s.bindAndJudge_counter_of_not_counted p _ (by decide)]

/-- R84, R116: every counter but those of lines placed and of lines clipped is left to the verdict. -/
theorem State.SheetOnly.judgeAndPlace_counter {s t : State} (h : s.SheetOnly t) (p : PlacedEntry) (c : Counter)
    (hp : c ≠ .placedLines) (hd : c ≠ .depthClipped) :
    (t.judgeAndPlace p).counter c =
      if c ∈ (s.keys.verdict p.text).counted then countUp (s.counter c) 1 else s.counter c := by
  rw [t.judgeAndPlace_counter, if_neg hp, State.addOrClip_counter _ _ _ c hd, t.bindAndJudge_counter, h.keys,
    h.counter]

/-- R95: below the column depth the sheet is as the binding left it. -/
theorem State.judgeAndPlace_of_below (s : State) (p : PlacedEntry) (c : Column) (b : Binding)
    (hc : (s.bind p.form p.length p.pitch).currentColumn = some c) (hb : c.binding = some b)
    (hd : s.composer.plan.columnDepth < p.line * b.pitch) :
    (s.judgeAndPlace p).ring = (s.bind p.form p.length p.pitch).ring ∧
      (s.judgeAndPlace p).counter .depthClipped = countUp (s.counter .depthClipped) 1 := by
  rw [← s.bindAndJudge_currentColumn] at hc
  rw [← s.bindAndJudge_composer p] at hd
  rw [s.judgeAndPlace_ring, s.judgeAndPlace_counter, if_neg (by decide), State.addOrClip_of_below _ p _ c b hc hb hd,
    State.count_ring, s.bindAndJudge_ring, State.counter_count_self,
    s.bindAndJudge_counter_of_not_counted p _ (by decide)]
  exact ⟨rfl, rfl⟩

/-- R116: within the column depth the line joins the column. -/
theorem State.judgeAndPlace_of_within (s : State) (p : PlacedEntry) (c : Column) (b : Binding)
    (hc : (s.bind p.form p.length p.pitch).currentColumn = some c) (hb : c.binding = some b)
    (hd : p.line * b.pitch ≤ s.composer.plan.columnDepth) :
    (s.judgeAndPlace p).ring = ((s.bind p.form p.length p.pitch).modColumn
        (addLine (lineOf s.composer.plan s.keys b.pitch p (s.keys.verdict p.text)))).ring ∧
      (s.judgeAndPlace p).counter .depthClipped = s.counter .depthClipped := by
  rw [← s.bindAndJudge_currentColumn] at hc
  rw [← s.bindAndJudge_composer p] at hd
  rw [s.judgeAndPlace_ring, s.judgeAndPlace_counter, if_neg (by decide), State.addOrClip_of_within _ p _ c b hc hb hd,
    s.bindAndJudge_composer, s.bindAndJudge_keys, lineOf_afterLine]
  constructor
  · rw [s.bindAndJudge_eq]
    rfl
  · exact s.bindAndJudge_counter_of_not_counted p _ (by decide)

/-- R116: a layer-1 line at the head, in a quiet state with a sheet assembling or a slot FREE. -/
theorem placedLine_judges (s : State) (p : PlacedEntry) (rest : List Entry) (hq : s.quiet)
    (hx : s.queue = .placedLine p :: rest) (hp : p.layer = 1)
    (hr : (assemblingSheet s.ring).isSome = true ∨ ringHasFree s.ring = true) :
    exec .placedLine s = .next (s.settleNotices
      ((if (assemblingSheet s.ring).isSome then s else s.openSheet).judgeAndPlace p)) := by
  rw [exec_placedLine, s.runNoticed_atHead _ hq hx, workPlacedLine_of_base s p hp, s.placeJudged_of_room p hr]

theorem State.settleNotices_counter (s t : State) (c : Counter) : (s.settleNotices t).counter c = t.counter c := rfl

/-- R202: rises and falls leave LISTING ORDER, which reports no condition, as it was. -/
theorem edgesOn_pending_listingOrder (n : NoticeUnit) (s t : State) :
    inSet (edgesOn n s.conditions t.conditions).pending .listingOrder = inSet n.pending .listingOrder := by
  simp [edgesOn_pending, State.inSet_conditions]

/-- Settles O33: the opening, the ring, the binding and the line by their lemmas above, and PLACED_LINE by the work on
the sheet that is assembling or opened for it. -/
theorem baseLineIsJudgedAndPlaced : Obligations.BaseLineIsJudgedAndPlaced := by
  unfold Obligations.BaseLineIsJudgedAndPlaced
  refine ⟨fun s => ⟨s.openSheet_eq, fun k hk hbefore => ?_⟩,
    fun r => ⟨ringHasFree_iff r, assemblingSheet_eq_none_iff r, mem_of_assemblingSheet r⟩, State.currentColumn_eq,
    State.modColumn_eq, fun s form length pitch plan v hplan hv => ?_, fun _ _ _ _ _ _ _ => ⟨rfl, rfl⟩,
    fun s s0 s1 p rest key v hq hx hp hr hs0 hs1 hkey hv => ?_⟩
  · rw [s.openSheet_ring, fillFirst_eq_set _ _ k hk hbefore]
  · refine ⟨_, rfl, fun c => ⟨fun b hb => bindColumn_of_bound _ _ _ _ _ c b hb, fun hb => ?_⟩⟩
    rw [bindColumn_of_unbound _ _ _ _ _ c hb, verticalPitch_eq length pitch _ v hv, ← hplan]
    rfl
  · have hsheet : s.SheetOnly s0 := hs0 ▸ s.sheetOnly_of_opening
    have hverdict : s.keys.verdict p.text = v := by rw [hv, hkey]; rfl
    have hu := hsheet.judgeAndPlace_eq p hx
    rw [hverdict, ← hkey] at hu
    refine ⟨s.settleNotices (s0.judgeAndPlace p), ?_, s.settleNotices_of_eq hu, ?_, ?_, ?_, ?_,
      fun k h3 h5 h7 h6 h10 => ?_, ?_, fun c b hc hb => ⟨fun hd => ?_, fun hd => ?_⟩⟩
    · rw [hs0, placedLine_judges s p rest hq hx hp hr]
    · rw [State.settleNotices_counter, s0.judgeAndPlace_placedLines, hsheet.counter]
    · rw [State.settleNotices_counter, hsheet.judgeAndPlace_counter p _ (by decide) (by decide), hverdict]
      simp only [v.keyedLines_mem_counted_iff, ite_not]
    · rw [State.settleNotices_counter, hsheet.judgeAndPlace_counter p _ (by decide) (by decide), hverdict]
      simp only [v.duplicates_mem_counted_iff]
    · rw [State.settleNotices_counter, hsheet.judgeAndPlace_counter p _ (by decide) (by decide), hverdict]
      simp only [v.outOfOrder_mem_counted_iff]
    · rw [State.settleNotices_counter, hsheet.judgeAndPlace_counter p k h3 h10, hverdict]
      refine if_neg fun hk => ?_
      simpa [h5, h7, h6] using v.counted_subset hk
    · rw [State.settleNotices_notices, edgesOn_pending_listingOrder, hu]
      by_cases ho : v = .outOfOrder
      · simp [ho]
      · simp [ho]
    · rw [hs1] at hc ⊢
      rw [State.settleNotices_ring, State.settleNotices_counter, ← hsheet.counter]
      exact s0.judgeAndPlace_of_below p c b hc hb (hsheet.plan ▸ hd)
    · rw [hs1] at hc ⊢
      rw [State.settleNotices_ring, State.settleNotices_counter, ← hsheet.counter, ← hsheet.plan, ← hverdict,
        ← hsheet.keys]
      exact s0.judgeAndPlace_of_within p c b hc hb (hsheet.plan ▸ hd)

end Sys2Proof.Machine
end

section
/-! PROOFS. The Column Fitter: widths and the condense step, the combined line and its fillable runs, the squeeze and
the truncation, the leader fill, and what a fitted line keeps of its plan. -/

namespace Sys2Proof.Machine

/-! ### Widths and the condense step (R96, R97) -/

theorem ceilDiv_le_iff (n d k : Nat) (hd : 0 < d) : ceilDiv n d ≤ k ↔ n ≤ k * d := by
  unfold ceilDiv
  rw [← Nat.lt_succ_iff, Nat.div_lt_iff_lt_mul hd, Nat.succ_mul]
  omega

theorem SheetPlan.widthAt_le_iff (p : SheetPlan) (len step w : Nat) :
    p.widthAt len step ≤ w ↔ len * p.cellWidth * (16 - step) ≤ w * 16 := ceilDiv_le_iff _ 16 w (by decide)

/-- R96: the width is the exact width, rounded up. -/
theorem SheetPlan.widthAt_bounds (p : SheetPlan) (len step : Nat) :
    p.widthAt len step * 16 < len * p.cellWidth * (16 - step) + 16 ∧
      len * p.cellWidth * (16 - step) ≤ p.widthAt len step * 16 := by
  unfold SheetPlan.widthAt ceilDiv
  omega

theorem SheetPlan.chooseStep_eq_some_iff (p : SheetPlan) (len s : Nat) :
    p.chooseStep len = some s ↔
      s ≤ p.maxStep ∧ p.widthAt len s ≤ p.columnWidth ∧ ∀ r, r < s → p.columnWidth < p.widthAt len r := by
  rw [SheetPlan.chooseStep, List.find?_range_eq_some]
  simp only [decide_eq_true_eq, List.mem_range, Nat.lt_succ_iff, Bool.not_eq_true', decide_eq_false_iff_not, not_le]
  tauto

theorem SheetPlan.chooseStep_eq_none_iff (p : SheetPlan) (len : Nat) :
    p.chooseStep len = none ↔ ∀ s, s ≤ p.maxStep → p.columnWidth < p.widthAt len s := by
  simp [SheetPlan.chooseStep]

/-- R97: what is no longer than the fitting count fits at the maximum step. -/
theorem SheetPlan.widthAt_maxStep_le (p : SheetPlan) (len : Nat) (h : len ≤ p.fittingCount) :
    p.widthAt len p.maxStep ≤ p.columnWidth := by
  rw [p.widthAt_le_iff, Nat.mul_assoc]
  exact (Nat.mul_le_mul_right _ h).trans (Nat.div_mul_le_self _ _)

/-- R97: the fitting count is the largest length that fits at the maximum step, when a position has a width there. -/
theorem SheetPlan.le_fittingCount_iff (p : SheetPlan) (len : Nat) (h : 0 < p.cellWidth * (16 - p.maxStep)) :
    len ≤ p.fittingCount ↔ p.widthAt len p.maxStep ≤ p.columnWidth := by
  rw [p.widthAt_le_iff, Nat.mul_assoc, SheetPlan.fittingCount, Nat.le_div_iff_mul_le h]

/-- R97: a line that no step fits is longer than the fitting count. -/
theorem SheetPlan.fittingCount_lt (p : SheetPlan) (len : Nat) (h : p.chooseStep len = none) : p.fittingCount < len := by
  by_contra hle
  exact absurd (p.widthAt_maxStep_le len (by omega)) (by simpa using (p.chooseStep_eq_none_iff len).mp h _ le_rfl)

/-! ### The combined line (R93) -/

theorem combine_length : ∀ a b : Text, (combine a b).length = max a.length b.length
  | [], os => by simp [combine]
  | b :: bs, [] => by simp [combine, combine_length bs []]
  | b :: bs, o :: os => by simp [combine, combine_length bs os]

theorem combine_getElem? : ∀ (a b : Text) (i : Nat), i < max a.length b.length →
    (combine a b)[i]? = some ((a[i]?).join, (b[i]?).join)
  | [], os, i, hi => by
    have hi : i < os.length := by simpa using hi
    simp [combine, hi]
  | _ :: _, [], 0, _ => rfl
  | b :: bs, [], i + 1, hi => by
    have hi : i < bs.length := by simpa using hi
    simpa [combine] using combine_getElem? bs [] i (by simpa using hi)
  | _ :: _, _ :: _, 0, _ => rfl
  | b :: bs, o :: os, i + 1, hi => by
    simpa [combine] using combine_getElem? bs os i (by simpa using hi)

/-! ### Blank runs (R98) -/

theorem blankCell_iff (c : Cell2) : blankCell c = true ↔ c = (none, none) := by
  simp [blankCell, Prod.ext_iff]

/-- Position `i`, counted from 1, is blank. -/
def BlankAt (cells : List Cell2) (i : Nat) : Prop := 1 ≤ i ∧ cells[i - 1]? = some (none, none)

theorem BlankAt.le_length {cells : List Cell2} {i : Nat} (h : BlankAt cells i) : i ≤ cells.length := by
  obtain ⟨h1, hi⟩ := h
  obtain ⟨hlt, -⟩ := List.getElem?_eq_some_iff.mp hi
  omega

/-- Every position of the run is blank. -/
def Run.blankIn (r : Run) (cells : List Cell2) : Prop :=
  1 ≤ r.first ∧ 1 ≤ r.length ∧ ∀ i, r.first ≤ i → i < r.first + r.length → BlankAt cells i

/-- R98: a run of blank positions taken whole: no blank position stands before it or after it. -/
def Run.wholeIn (r : Run) (cells : List Cell2) : Prop :=
  r.blankIn cells ∧ ¬BlankAt cells (r.first - 1) ∧ ¬BlankAt cells (r.first + r.length)

/-- The positions of a blank run are those of the line. -/
theorem Run.blankIn.le_length {r : Run} {cells : List Cell2} (h : r.blankIn cells) :
    r.first + r.length ≤ cells.length + 1 := by
  obtain ⟨-, hlen, hblank⟩ := h
  have hlast := (hblank (r.first + r.length - 1) (by omega) (by omega)).le_length
  omega

/-- Two blank runs with one end and no blank position before them are the same. -/
theorem Run.eq_of_same_end {r q : Run} {cells : List Cell2} (hr : r.blankIn cells) (hq : q.blankIn cells)
    (hr0 : ¬BlankAt cells (r.first - 1)) (hq0 : ¬BlankAt cells (q.first - 1))
    (hend : r.first + r.length = q.first + q.length) : r = q := by
  obtain ⟨hr1, hrl, hrb⟩ := hr
  obtain ⟨hq1, hql, hqb⟩ := hq
  have hfirst : r.first = q.first := by
    rcases Nat.lt_trichotomy r.first q.first with h | h | h
    · exact absurd (hrb (q.first - 1) (by omega) (by omega)) hq0
    · exact h
    · exact absurd (hqb (r.first - 1) (by omega) (by omega)) hr0
  obtain ⟨rf, rl⟩ := r
  obtain ⟨qf, ql⟩ := q
  simp only at hfirst hend
  subst hfirst
  congr
  omega

/-- The run that the search holds after `k` positions: the blank run that ends there, if position `k` is blank. -/
def HeldRun (cells : List Cell2) (k : Nat) : Option Run → Prop
  | none => ¬BlankAt cells k
  | some r => r.blankIn cells ∧ ¬BlankAt cells (r.first - 1) ∧ r.first + r.length = k + 1

/-- The held run grows by a blank position. -/
theorem HeldRun.grow {cells : List Cell2} {k : Nat} {r : Run} (h : HeldRun cells k (some r))
    (hb : BlankAt cells (k + 1)) : HeldRun cells (k + 1) (some { r with length := r.length + 1 }) := by
  obtain ⟨⟨h1, hl, hblank⟩, hbefore, hend⟩ := h
  refine ⟨⟨h1, Nat.le_add_left 1 _, fun i hi hi' => ?_⟩, hbefore, by simp only; omega⟩
  simp only at hi hi'
  by_cases hik : i = k + 1
  · exact hik ▸ hb
  · exact hblank i hi (by omega)

/-- A blank position after none begins a run. -/
theorem HeldRun.start {cells : List Cell2} {k : Nat} (h : HeldRun cells k none) (hb : BlankAt cells (k + 1)) :
    HeldRun cells (k + 1) (some ⟨k + 1, 1⟩) := by
  refine ⟨⟨Nat.le_add_left 1 k, le_rfl, fun i hi hi' => ?_⟩, h, rfl⟩
  simp only at hi hi'
  obtain rfl : i = k + 1 := by omega
  exact hb

/-- A run that ends at position `k`, before no blank position, is the held run. -/
theorem HeldRun.ends_iff {cells : List Cell2} {k : Nat} {cur : Option Run} (h : HeldRun cells k cur)
    (hn : ¬BlankAt cells (k + 1)) (r : Run) : r.wholeIn cells ∧ r.first + r.length = k + 1 ↔ cur = some r := by
  cases cur with
  | none =>
    refine ⟨?_, fun hr => by cases hr⟩
    rintro ⟨⟨⟨-, hl, hblank⟩, -, -⟩, hend⟩
    exact absurd (hblank k (by omega) (by omega)) h
  | some q =>
    obtain ⟨hblank, hbefore, hend⟩ := h
    rw [Option.some.injEq]
    constructor
    · rintro ⟨⟨hrb, hr0, -⟩, hrend⟩
      exact Run.eq_of_same_end hblank hrb hbefore hr0 (hend.trans hrend.symm)
    · rintro rfl
      exact ⟨⟨hblank, hbefore, hend ▸ hn⟩, hend⟩

/-- A run that does not end before position `k + 1` either ends there or goes beyond. -/
theorem wholeIn_from_iff (cells : List Cell2) (k : Nat) (r : Run) :
    r.wholeIn cells ∧ k < r.first + r.length ↔
      (r.wholeIn cells ∧ r.first + r.length = k + 1) ∨ (r.wholeIn cells ∧ k + 1 < r.first + r.length) := by
  rw [← and_or_left]
  exact and_congr_right fun _ => by omega

/-- The search from position `k + 1` on finds the held run and every whole run that ends later. -/
theorem mem_blankRuns_iff (cells : List Cell2) (r : Run) : ∀ (cs : List Cell2) (k : Nat) (cur : Option Run),
    cells.drop k = cs → HeldRun cells k cur →
    (r ∈ blankRuns (k + 1) cur cs ↔ r.wholeIn cells ∧ k < r.first + r.length)
  | [], k, cur, hd, hc => by
    have hlen : cells.length ≤ k := List.drop_eq_nil_iff.mp hd
    have hlate : ¬(r.wholeIn cells ∧ k + 1 < r.first + r.length) := by
      rintro ⟨⟨hb, -, -⟩, hlt⟩
      have := hb.le_length
      omega
    rw [wholeIn_from_iff, or_iff_left hlate, hc.ends_iff fun hb => by have := hb.le_length; omega]
    cases cur with
    | none => simp [blankRuns]
    | some q => simp [blankRuns, eq_comm]
  | c :: cs, k, cur, hd, hc => by
    have hget : cells[k]? = some c := by
      rw [← Nat.add_zero k, ← List.getElem?_drop, hd]
      rfl
    have hrest : cells.drop (k + 1) = cs := by rw [← List.drop_drop, hd, List.drop_one, List.tail_cons]
    have hat : BlankAt cells (k + 1) ↔ blankCell c = true := by simp [BlankAt, hget, blankCell_iff]
    rw [wholeIn_from_iff]
    by_cases hb : blankCell c = true
    · have hblank := hat.mpr hb
      have hnot : ¬(r.wholeIn cells ∧ r.first + r.length = k + 1) := by
        rintro ⟨⟨-, -, hafter⟩, hend⟩
        exact hafter (hend ▸ hblank)
      rw [or_iff_right hnot]
      cases cur with
      | none =>
        simp only [blankRuns, hb, if_true]
        exact mem_blankRuns_iff cells r cs (k + 1) _ hrest (hc.start hblank)
      | some q =>
        simp only [blankRuns, hb, if_true]
        exact mem_blankRuns_iff cells r cs (k + 1) _ hrest (hc.grow hblank)
    · have hend : ¬BlankAt cells (k + 1) := fun h => hb (hat.mp h)
      have hlater := mem_blankRuns_iff cells r cs (k + 1) none hrest hend
      rw [hc.ends_iff hend, ← hlater]
      cases cur with
      | none => simp [blankRuns, hb]
      | some q => simp [blankRuns, hb, eq_comm]

theorem mem_blankRuns (cells : List Cell2) (r : Run) : r ∈ blankRuns 1 none cells ↔ r.wholeIn cells := by
  rw [mem_blankRuns_iff cells r cells 0 none rfl fun ⟨h, _⟩ => absurd h (by decide), and_iff_left_iff_imp]
  rintro ⟨⟨h1, hl, -⟩, -⟩
  omega

/-- The search finds its runs from left to right, the held run first. -/
theorem blankRuns_sorted : ∀ (cs : List Cell2) (n : Nat) (cur : Option Run), (∀ r ∈ cur, r.first < n) →
    (blankRuns n cur cs).Pairwise (fun a b => a.first < b.first) ∧
      ∀ r ∈ blankRuns n cur cs, (cur.elim n fun q => q.first) ≤ r.first
  | [], n, none, _ => by simp [blankRuns]
  | [], n, some q, _ => by simp [blankRuns]
  | c :: cs, n, none, _ => by
    unfold blankRuns
    split
    · obtain ⟨hs, hge⟩ := blankRuns_sorted cs (n + 1) (some ⟨n, 1⟩) (by simp)
      exact ⟨hs, hge⟩
    · obtain ⟨hs, hge⟩ := blankRuns_sorted cs (n + 1) none (by simp)
      exact ⟨hs, fun r hr => (Nat.le_succ n).trans (hge r hr)⟩
  | c :: cs, n, some q, hq => by
    have hq : q.first < n := hq q rfl
    unfold blankRuns
    split
    · exact blankRuns_sorted cs (n + 1) (some { q with length := q.length + 1 }) (by simp; omega)
    · obtain ⟨hs, hge⟩ := blankRuns_sorted cs (n + 1) none (by simp)
      have hlt : ∀ r ∈ blankRuns (n + 1) none cs, q.first < r.first := fun r hr => by
        have := hge r hr
        simp only [Option.elim_none] at this
        omega
      refine ⟨List.pairwise_cons.mpr ⟨hlt, hs⟩, fun r hr => ?_⟩
      rcases List.mem_cons.mp hr with rfl | hr
      · exact le_rfl
      · exact (hlt r hr).le

/-! ### Fillable runs (R98) -/

theorem fillableRuns_none (cells : List Cell2) : fillableRuns none cells = [] := rfl

theorem mem_fillableRuns_some (z : LeaderZone) (cells : List Cell2) (r : Run) :
    r ∈ fillableRuns (some z) cells ↔
      r.wholeIn cells ∧ 2 ≤ r.first ∧ r.first + r.length ≤ cells.length ∧ z.first ≤ r.first ∧
        r.first + r.length - 1 ≤ z.last := by
  simp [fillableRuns, mem_blankRuns, and_assoc]

/-- R98: a run with a position before it is whole when its positions are blank and its two neighbours are not. -/
theorem Run.wholeIn_iff {r : Run} {cells : List Cell2} (h2 : 2 ≤ r.first) :
    r.wholeIn cells ↔ 1 ≤ r.length ∧
      (∀ i, r.first ≤ i → i < r.first + r.length → cells[i - 1]? = some (none, none)) ∧
      cells[r.first - 2]? ≠ some (none, none) ∧ cells[r.first + r.length - 1]? ≠ some (none, none) := by
  have hbefore : BlankAt cells (r.first - 1) ↔ cells[r.first - 2]? = some (none, none) := by
    rw [BlankAt, Nat.sub_sub]
    exact and_iff_right (by omega)
  have hafter : BlankAt cells (r.first + r.length) ↔ cells[r.first + r.length - 1]? = some (none, none) :=
    and_iff_right (by omega)
  have hin : (∀ i, r.first ≤ i → i < r.first + r.length → BlankAt cells i) ↔
      ∀ i, r.first ≤ i → i < r.first + r.length → cells[i - 1]? = some (none, none) :=
    forall_congr' fun i => imp_congr_right fun hi => imp_congr_right fun _ => and_iff_right (by omega)
  rw [Run.wholeIn, Run.blankIn, hbefore, hafter, hin, and_iff_right (by omega : 1 ≤ r.first), and_assoc]

theorem mem_fillableRuns_iff (zone : Option LeaderZone) (cells : List Cell2) (r : Run) :
    r ∈ fillableRuns zone cells ↔
      ∃ z, zone = some z ∧ 2 ≤ r.first ∧ 1 ≤ r.length ∧ r.first + r.length ≤ cells.length ∧ z.first ≤ r.first ∧
        r.first + r.length - 1 ≤ z.last ∧
        (∀ i, r.first ≤ i → i < r.first + r.length → cells[i - 1]? = some (none, none)) ∧
        cells[r.first - 2]? ≠ some (none, none) ∧ cells[r.first + r.length - 1]? ≠ some (none, none) := by
  cases zone with
  | none => simp [fillableRuns_none]
  | some z =>
    simp only [mem_fillableRuns_some, Option.some.injEq, exists_eq_left']
    constructor
    · rintro ⟨hw, h2, hend, hz, hz'⟩
      obtain ⟨hl, hrest⟩ := (Run.wholeIn_iff h2).mp hw
      exact ⟨h2, hl, hend, hz, hz', hrest⟩
    · rintro ⟨h2, hl, hend, hz, hz', hrest⟩
      exact ⟨(Run.wholeIn_iff h2).mpr ⟨hl, hrest⟩, h2, hend, hz, hz'⟩

theorem fillableRuns_sorted (zone : Option LeaderZone) (cells : List Cell2) :
    (fillableRuns zone cells).Pairwise fun a b => a.first < b.first := by
  cases zone with
  | none => exact List.Pairwise.nil
  | some z =>
    obtain ⟨hsorted, -⟩ := blankRuns_sorted cells 1 none (by simp)
    exact hsorted.filter _

/-! ### The squeeze (R99) -/

theorem longestRun_eq_none_iff (rs : List Run) : longestRun rs = none ↔ rs = [] := by
  cases rs with
  | nil => simp [longestRun]
  | cons x rs =>
    simp only [longestRun, reduceCtorEq, iff_false]
    split
    · simp
    · split <;> simp

/-- R99: the run found is one of the runs, none is longer, and those as long stand to its right. -/
theorem longestRun_spec : ∀ rs : List Run, rs.Pairwise (fun a b => a.first < b.first) → ∀ r, longestRun rs = some r →
    r ∈ rs ∧ ∀ q ∈ rs, q.length < r.length ∨ q.length = r.length ∧ r.first ≤ q.first
  | [], _, _, h => by cases h
  | x :: rs, hs, r, h => by
    obtain ⟨hx, hs⟩ := List.pairwise_cons.mp hs
    unfold longestRun at h
    split at h
    · next hn =>
      cases h
      simp [(longestRun_eq_none_iff rs).mp hn]
    · next y hy =>
      obtain ⟨hm, hge⟩ := longestRun_spec rs hs y hy
      split at h
      · next hlt =>
        cases h
        refine ⟨List.mem_cons_of_mem _ hm, fun q hq => ?_⟩
        rcases List.mem_cons.mp hq with rfl | hq
        · exact .inl hlt
        · exact hge q hq
      · next hle =>
        cases h
        refine ⟨List.mem_cons_self, fun q hq => ?_⟩
        rcases List.mem_cons.mp hq with rfl | hq
        · exact .inr ⟨rfl, le_rfl⟩
        · have := hge q hq
          have := hx q hq
          omega

/-- R99: a run of a line that no other is longer than or as long and to the left of is the one squeezed. -/
theorem longestRun_fillableRuns_eq (zone : Option LeaderZone) (cells : List Cell2) (r : Run)
    (hr : r ∈ fillableRuns zone cells)
    (hmax : ∀ q ∈ fillableRuns zone cells, q.length < r.length ∨ q.length = r.length ∧ r.first ≤ q.first) :
    longestRun (fillableRuns zone cells) = some r := by
  cases h : longestRun (fillableRuns zone cells) with
  | none =>
    rw [longestRun_eq_none_iff] at h
    rw [h] at hr
    cases hr
  | some q =>
    obtain ⟨hq, hqmax⟩ := longestRun_spec _ (fillableRuns_sorted zone cells) q h
    have h1 := hmax q hq
    have h2 := hqmax r hr
    have hfirst : q.first = r.first := by omega
    have hlength : q.length = r.length := by omega
    obtain ⟨qf, ql⟩ := q
    simp only at hfirst hlength
    rw [hfirst, hlength]

/-- R99: a line whose runs all keep no more than the 3 positions they must keep is left. -/
theorem squeeze_of_short (zone : Option LeaderZone) (excess : Nat) (cells : List Cell2)
    (h : ∀ r ∈ fillableRuns zone cells, r.length ≤ 3) : squeeze zone excess cells = (cells, false) := by
  unfold squeeze
  split
  · rfl
  · next r hr =>
    obtain ⟨hm, -⟩ := longestRun_spec _ (fillableRuns_sorted zone cells) r hr
    have hmin : min excess (r.length - 3) = 0 := by
      have := h r hm
      omega
    simp [hmin]

theorem squeeze_of_longest (zone : Option LeaderZone) (excess : Nat) (cells : List Cell2) (r : Run)
    (h : longestRun (fillableRuns zone cells) = some r) (he : 1 ≤ excess) (hl : 3 < r.length) :
    squeeze zone excess cells = (removeFromRun r (min excess (r.length - 3)) cells, true) := by
  simp only [squeeze, h]
  exact if_neg (by omega)

/-- R99: a run within the line loses as many positions as it is told. -/
theorem removeFromRun_length (r : Run) (m : Nat) (cells : List Cell2) (h1 : 1 ≤ r.first)
    (hm : m ≤ r.length) (hr : r.first + r.length ≤ cells.length) :
    (removeFromRun r m cells).length = cells.length - m := by
  simp only [removeFromRun, List.length_append, List.length_take, List.length_drop]
  omega

/-! ### The overflow stage (R92, R97, R99, R100) -/

theorem overflowStage_of_step (p : SheetPlan) (zone : Option LeaderZone) (cells : List Cell2) (s : Nat)
    (h : p.chooseStep cells.length = some s) : overflowStage p zone cells = (cells, s, false, false) := by
  simp only [overflowStage, h]

/-- R100: what is longer than the fitting count after the squeeze is cut. -/
theorem overflowStage_of_none (p : SheetPlan) (zone : Option LeaderZone) (cells left : List Cell2) (squeezed : Bool)
    (h : p.chooseStep cells.length = none)
    (hs : squeeze zone (cells.length - p.fittingCount) cells = (left, squeezed)) :
    overflowStage p zone cells =
      if p.fittingCount < left.length then (left.take p.fittingCount, p.maxStep, squeezed, true)
      else (left, p.maxStep, squeezed, false) := by
  simp only [overflowStage, h, hs]

/-- R99: the excess beyond what every run can lose is cut off whole. -/
theorem overflowStage_of_short (p : SheetPlan) (zone : Option LeaderZone) (cells : List Cell2)
    (h : p.chooseStep cells.length = none) (hr : ∀ r ∈ fillableRuns zone cells, r.length ≤ 3) :
    overflowStage p zone cells = (cells.take p.fittingCount, p.maxStep, false, true) := by
  rw [overflowStage_of_none p zone cells _ _ h (squeeze_of_short zone _ cells hr)]
  exact if_pos (p.fittingCount_lt _ h)

/-- R99, R100: the longest run loses the excess, or all but 3 of its positions and the rest is cut off. -/
theorem overflowStage_of_longest (p : SheetPlan) (zone : Option LeaderZone) (cells left : List Cell2) (r : Run)
    (h : p.chooseStep cells.length = none) (hm : r ∈ fillableRuns zone cells) (hl : 3 < r.length)
    (hmax : ∀ q ∈ fillableRuns zone cells, q.length < r.length ∨ q.length = r.length ∧ r.first ≤ q.first)
    (hleft : left = removeFromRun r (min (cells.length - p.fittingCount) (r.length - 3)) cells) :
    (cells.length - p.fittingCount ≤ r.length - 3 →
      left.length = p.fittingCount ∧ overflowStage p zone cells = (left, p.maxStep, true, false)) ∧
    (r.length - 3 < cells.length - p.fittingCount →
      overflowStage p zone cells = (left.take p.fittingCount, p.maxStep, true, true)) := by
  have hexcess := p.fittingCount_lt _ h
  have hlongest := longestRun_fillableRuns_eq zone cells r hm hmax
  obtain ⟨-, -, h2, -, hend, -⟩ := (mem_fillableRuns_iff zone cells r).mp hm
  have hlength : left.length = cells.length - min (cells.length - p.fittingCount) (r.length - 3) := by
    rw [hleft, removeFromRun_length r _ cells (by omega) (by omega) hend]
  rw [overflowStage_of_none p zone cells left true h
    (by rw [squeeze_of_longest zone _ cells r hlongest (by omega) hl, hleft])]
  exact ⟨fun hle => ⟨by omega, if_neg (by omega)⟩, fun hlt => if_pos (by omega)⟩

/-- R97, R103: whatever is left of a line fits the column at its step. -/
theorem overflowStage_fits (p : SheetPlan) (zone : Option LeaderZone) (cells : List Cell2) :
    (overflowStage p zone cells).2.1 ≤ p.maxStep ∧
      p.widthAt (overflowStage p zone cells).1.length (overflowStage p zone cells).2.1 ≤ p.columnWidth := by
  cases h : p.chooseStep cells.length with
  | some s =>
    obtain ⟨hs, hw, -⟩ := (p.chooseStep_eq_some_iff _ s).mp h
    rw [overflowStage_of_step p zone cells s h]
    exact ⟨hs, hw⟩
  | none =>
    rcases hs : squeeze zone (cells.length - p.fittingCount) cells with ⟨left, squeezed⟩
    rw [overflowStage_of_none p zone cells left squeezed h hs]
    split
    · exact ⟨le_rfl, p.widthAt_maxStep_le _ (List.length_take_le _ _)⟩
    · next hle => exact ⟨le_rfl, p.widthAt_maxStep_le _ (Nat.not_lt.mp hle)⟩

/-! ### The leader fill (R101) -/

theorem leaderFill_none (cells : List Cell2) : leaderFill none cells = cells := rfl

theorem leaderFill_length (zone : Option LeaderZone) (cells : List Cell2) :
    (leaderFill zone cells).length = cells.length := by
  cases zone with
  | none => rfl
  | some z => simp [leaderFill]

theorem innerPosition_iff (runs : List Run) (n : Nat) :
    innerPosition runs n = true ↔ ∃ r ∈ runs, r.first < n ∧ n + 1 < r.first + r.length := by
  simp [innerPosition]

theorem leaderFill_getElem? (z : LeaderZone) (cells : List Cell2) (i : Nat) (c : Cell2) (hc : cells[i]? = some c) :
    (leaderFill (some z) cells)[i]? =
      some (if innerPosition (fillableRuns (some z) cells) (i + 1) then (some z.glyph, c.2) else c) := by
  simp [leaderFill, hc]

/-- R101: the leader glyph stands at positions 2 to r - 1 of a fillable run. -/
theorem leaderFill_of_inner (z : LeaderZone) (cells : List Cell2) (i : Nat) (c : Cell2) (hc : cells[i]? = some c)
    (h : ∃ r ∈ fillableRuns (some z) cells, r.first ≤ i ∧ i + 2 < r.first + r.length) :
    (leaderFill (some z) cells)[i]? = some (some z.glyph, c.2) := by
  obtain ⟨r, hr, hlo, hhi⟩ := h
  rw [leaderFill_getElem? z cells i c hc,
    if_pos ((innerPosition_iff _ _).mpr ⟨r, hr, Nat.lt_succ_of_le hlo, hhi⟩)]

/-- R101: every other position is left. -/
theorem leaderFill_of_outer (z : LeaderZone) (cells : List Cell2) (i : Nat) (c : Cell2) (hc : cells[i]? = some c)
    (h : ∀ r ∈ fillableRuns (some z) cells, i < r.first ∨ r.first + r.length ≤ i + 2) :
    (leaderFill (some z) cells)[i]? = some c := by
  rw [leaderFill_getElem? z cells i c hc, if_neg]
  rw [innerPosition_iff]
  rintro ⟨r, hr, hlo, hhi⟩
  have := h r hr
  omega

/-! ### The fit of a line (R92, R103) -/

theorem fitSources_eq (p : SheetPlan) (zone : Option LeaderZone) (base : Source) (struck : Option Source)
    (left : List Cell2) (step : Nat) (squeezed cut : Bool)
    (h : overflowStage p zone (combine base.text ((struck.map fun o => o.text).getD [])) =
      (left, step, squeezed, cut)) :
    fitSources p zone base struck =
      { step := step
        baseText := (leaderFill zone left).map Prod.fst
        overText := struck.map fun _ => (leaderFill zone left).map Prod.snd
        squeezed := squeezed
        overFlag := cut || base.clamped || (struck.map fun o => o.clamped).getD false } := by
  simp only [fitSources, h]

/-- R103: a fitted line keeps its step and its printed width within the plan, and its layers have one length. -/
theorem fitSources_fits (p : SheetPlan) (zone : Option LeaderZone) (base : Source) (struck : Option Source) :
    (fitSources p zone base struck).step ≤ p.maxStep ∧
      p.widthAt (fitSources p zone base struck).baseText.length (fitSources p zone base struck).step ≤ p.columnWidth ∧
      ∀ t ∈ (fitSources p zone base struck).overText, t.length = (fitSources p zone base struck).baseText.length := by
  have hfits := overflowStage_fits p zone (combine base.text ((struck.map fun o => o.text).getD []))
  generalize hst : overflowStage p zone (combine base.text ((struck.map fun o => o.text).getD [])) = st at hfits
  obtain ⟨left, step, squeezed, cut⟩ := st
  obtain ⟨hstep, hwidth⟩ := hfits
  rw [fitSources_eq p zone base struck left step squeezed cut hst]
  refine ⟨hstep, by simpa [leaderFill_length] using hwidth, fun t ht => ?_⟩
  obtain ⟨o, -, rfl⟩ := Option.map_eq_some_iff.mp ht
  simp

/-- Settles O32: each stage of the fit by its lemmas above. -/
theorem condenseStepIsTheSmallestThatFits : Obligations.CondenseStepIsTheSmallestThatFits := by
  unfold Obligations.CondenseStepIsTheSmallestThatFits
  refine ⟨fun p len => ⟨p.widthAt_bounds len, p.chooseStep_eq_some_iff len, p.chooseStep_eq_none_iff len,
      fun hc hs => p.le_fittingCount_iff len (Nat.mul_pos hc (by omega))⟩,
    mem_fillableRuns_iff,
    fun p zone cells => ⟨overflowStage_of_step p zone cells, fun h excess hexcess => ?_⟩,
    fun zone cells => ⟨leaderFill_length zone cells, ?_, ?_⟩,
    fun a b => ⟨combine_length a b, combine_getElem? a b⟩,
    fun p zone base struck cells left step squeezed cut hcells hstage => ?_⟩
  · subst hexcess
    refine ⟨Nat.sub_pos_of_lt (p.fittingCount_lt _ h), overflowStage_of_short p zone cells h,
      fun r hr hl hmax m left hm hleft => ?_⟩
    subst hm
    exact overflowStage_of_longest p zone cells left r h hr hl hmax hleft
  · rintro rfl
    exact leaderFill_none cells
  · rintro z i c rfl hc
    exact ⟨leaderFill_of_inner z cells i c hc, leaderFill_of_outer z cells i c hc⟩
  · subst hcells
    cases struck <;> exact fitSources_eq p zone base _ left step squeezed cut hstage

end Sys2Proof.Machine
end

section
/-! PROOFS. The moves of the ring: what one command can do to the Sheet Ring and the Sheet Composer. Every command is a
series of such moves, so a law of the sheets is kept by every command once it is kept by every move. -/

namespace Sys2Proof.Machine

/-! ### The moves -/

/-- From `s` to `t` the Sheet Ring and the Sheet Composer stand. -/
structure State.RingKept (s t : State) : Prop where
  ring : t.ring = s.ring
  composer : t.composer = s.composer

theorem State.RingKept.refl (s : State) : s.RingKept s := ⟨rfl, rfl⟩

theorem State.RingKept.trans {s t u : State} (h : s.RingKept t) (k : t.RingKept u) : s.RingKept u :=
  ⟨k.ring.trans h.ring, k.composer.trans h.composer⟩

/-- R95, R103: every line of a column fits the plan. -/
def Column.FitsPlan (p : SheetPlan) (c : Column) : Prop := ∀ l ∈ c.lines, l.fits p

/-- A change of a column that leaves no line outside the plan. -/
def KeepsFit (p : SheetPlan) (f : Column → Column) : Prop := ∀ c : Column, c.FitsPlan p → (f c).FitsPlan p

/-- R134, R136, R143, R172: a slot passes on from READY, SENDING or SENT, and of its record only the reissue count may
change. -/
def Occupied.PassesTo (o x : Occupied) : Prop :=
  x = o ∨ o.phase ≠ .assembling ∧ x.phase ≠ .assembling ∧ x.sheet = { o.sheet with reissue := x.sheet.reissue }

/-- One move of the ring. -/
inductive State.RingMove : State → State → Prop
  /-- Work away from the ring. -/
  | kept {s t : State} (h : s.RingKept t) : RingMove s t
  /-- R112: the composer begins to wait for a slot. -/
  | wait {s : State} (ha : assemblingSheet s.ring = none) (hf : ringHasFree s.ring = false) : RingMove s s.waitForSlot
  /-- R111, R112: a sheet is opened. -/
  | opening {s : State} (hf : ringHasFree s.ring = true)
      (ha : assemblingSheet s.ring = none ∨ s.composer.waiting = true) : RingMove s s.openSheet
  /-- R115 to R120: the current column is bound, takes or changes a line, or is closed. -/
  | column {s : State} (f : Column → Column) (hf : KeepsFit s.composer.plan f) : RingMove s (s.modColumn f)
  /-- R120: the next column is current. -/
  | nextColumn {s : State} : RingMove s { s with composer := { s.composer with column := s.composer.column + 1 } }
  /-- R121: the assembling sheet is committed. -/
  | commit {s : State} :
      RingMove s { s with ring := mapSlots commitSlot s.ring, composer := { s.composer with column := 1 } }
  /-- R126: a plan is put in force while no sheet is assembling. -/
  | plan {s : State} (p : SheetPlan) (ha : assemblingSheet s.ring = none) :
      RingMove s { s with composer := { s.composer with plan := p, column := 1, nextFolio := p.folioStart } }
  /-- R134, R136, R143, R172: slots pass on. -/
  | slots {s : State} (f : Occupied → Occupied) (hf : ∀ o : Occupied, o.PassesTo (f o)) :
      RingMove s { s with ring := mapSlots f s.ring }
  /-- R135: the slot of the oldest sheet, FINISHED, is freed. -/
  | free {s : State} (o : Occupied) (ho : oldestOf s.age (fun _ => true) s.ring = some o)
      (hf : o.phase.isFinished = true) : RingMove s { s with ring := dropSheet o.sheet.seq s.ring }
  /-- R20: the soft reset of the blocks. -/
  | softReset {s : State} : RingMove s s.softResetBlocks
  /-- R21: hardware reset. -/
  | hardwareReset {s : State} (straps : Straps) : RingMove s { State.atReset straps with pending := s.pending }

/-- A series of moves of the ring. -/
abbrev State.RingMoves : State → State → Prop := Relation.ReflTransGen State.RingMove

theorem State.RingMove.moves {s t : State} (h : s.RingMove t) : s.RingMoves t := Relation.ReflTransGen.single h

theorem State.RingKept.moves {s t : State} (h : s.RingKept t) : s.RingMoves t := (State.RingMove.kept h).moves

theorem State.RingMoves.trans {s t u : State} (h : s.RingMoves t) (k : t.RingMoves u) : s.RingMoves u :=
  Relation.ReflTransGen.trans h k

/-- One more move. -/
theorem State.RingMoves.move {s t u : State} (h : s.RingMoves t) (k : t.RingMove u) : s.RingMoves u :=
  Relation.ReflTransGen.tail h k

/-- Work away from the ring follows a series of moves. -/
theorem State.RingMoves.kept {s t u : State} (h : s.RingMoves t) (k : t.RingKept u) : s.RingMoves u := h.move (.kept k)

/-- Whatever every move keeps, a series of moves keeps. -/
theorem State.RingMoves.keeps {I : State → Prop} (hI : ∀ s t : State, I s → s.RingMove t → I t) {s t : State}
    (h : s.RingMoves t) (hs : I s) : I t := by
  induction h with
  | refl => exact hs
  | tail _ hm ih => exact hI _ _ ih hm

/-! ### Work away from the ring -/

theorem State.LinksOnly.ringKept {s t : State} (h : s.LinksOnly t) : s.RingKept t := by
  rw [h]
  exact ⟨rfl, rfl⟩

theorem State.PortOnly.ringKept {s t : State} (h : s.PortOnly t) : s.RingKept t := by
  rw [h]
  exact ⟨rfl, rfl⟩

theorem State.modLink_ringKept (s : State) (e : Engine) (f : Link → Link) : s.RingKept (s.modLink e f) :=
  (s.modLink_linksOnly e f).ringKept

theorem State.setLink_ringKept (s : State) (e : Engine) (l : Link) : s.RingKept (s.setLink e l) :=
  (s.setLink_linksOnly e l).ringKept

theorem State.count_ringKept (s : State) (c : Counter) (n : Nat) : s.RingKept (s.count c n) := ⟨rfl, rfl⟩

theorem State.countFits_ringKept (s : State) (ls : List Line) : s.RingKept (s.countFits ls) := ⟨rfl, rfl⟩

theorem State.removeHead_ringKept (s : State) : s.RingKept s.removeHead := ⟨rfl, rfl⟩

theorem State.settleNotices_ringKept (b s : State) : s.RingKept (b.settleNotices s) := ⟨rfl, rfl⟩

theorem State.setPort_ringKept (s : State) (p : PortState) : s.RingKept (s.setPort p) := ⟨rfl, rfl⟩

theorem State.setPortAccept_ringKept (s : State) (p : PortState) (a : Bool) : s.RingKept (s.setPortAccept p a) :=
  ⟨rfl, rfl⟩

theorem State.present_ringKept (s : State) (k : ReplyKind) (f c : Bool) : s.RingKept (s.present k f c) := ⟨rfl, rfl⟩

theorem State.refuse_ringKept (s : State) (h : Hand) (kind : CheckKind) (position : Option Nat) (detail : Nat) :
    s.RingKept (s.refuse h kind position detail) := by
  rw [s.refuse_refusedAs h kind position detail]
  exact ⟨rfl, rfl⟩

theorem State.judgeLine_ringKept (s : State) (text : Text) : s.RingKept (s.judgeLine text) := by
  rw [s.judgeLine_eq]
  exact ⟨rfl, rfl⟩

theorem State.markerTaken_ringKept (s : State) : s.RingKept s.markerTaken :=
  ⟨s.markerTaken_ring, s.markerTaken_composer⟩

theorem State.failover_ringKept (s : State) : s.RingKept s.failover := s.failover_linksOnly.ringKept

theorem State.leaveWork_ringKept (s : State) (e : Engine) (target : Link → Link) : s.RingKept (s.leaveWork e target) :=
  (s.leaveWork_linksOnly e target).ringKept

theorem State.takeOwed_ringKept (s : State) : s.RingKept s.takeOwed := by
  unfold State.takeOwed
  split
  · exact .refl s
  · split <;> exact ⟨rfl, rfl⟩

theorem State.loadForms_ringKept (s : State) (t : FormsTable) : s.RingKept (s.loadForms t) := by
  rw [s.loadForms_eq]
  exact ⟨rfl, rfl⟩

theorem State.noticesRead_ringKept (s : State) : s.RingKept s.noticesRead := by
  unfold State.noticesRead
  split <;> exact ⟨rfl, rfl⟩

theorem State.applySettings_ringKept (s : State) (c : LinkSettings) : s.RingKept (s.applySettings c) :=
  State.RingKept.trans (t := { s with settings := c }) ⟨rfl, rfl⟩ (s.applySettings_linksOnly c).ringKept

/-! ### The columns and the lines of the assembling sheet (R115 to R118) -/

theorem exists_of_mem_modify {α : Type} {l : List α} {i : Nat} {f : α → α} {x : α} (h : x ∈ l.modify i f) :
    ∃ y ∈ l, x = y ∨ x = f y := by
  obtain ⟨j, hj⟩ := List.mem_iff_getElem?.mp h
  rw [List.getElem?_modify, Option.map_eq_map, Option.map_eq_some_iff] at hj
  obtain ⟨y, hy, hx⟩ := hj
  refine ⟨y, List.mem_of_getElem? hy, ?_⟩
  split at hx
  · exact .inr hx.symm
  · exact .inl hx.symm

theorem bindColumn_keepsFit (q p : SheetPlan) (g form length : Nat) (pitch : LinePitch) :
    KeepsFit q (bindColumn p g form length pitch) := by
  intro c hc
  cases hb : c.binding with
  | none =>
    rw [bindColumn_of_unbound p g form length pitch c hb]
    exact hc
  | some b =>
    rw [bindColumn_of_bound p g form length pitch c b hb]
    exact hc

theorem close_keepsFit (p : SheetPlan) : KeepsFit p fun c => { c with closed := true } := fun _ hc => hc

/-- R95, R103: a line not clipped fits the plan it was fitted under. -/
theorem lineOf_fits (plan : SheetPlan) (keys : KeyComparator) (pitch : Nat) (p : PlacedEntry) (v : Verdict)
    (hd : p.line * pitch ≤ plan.columnDepth) : (lineOf plan keys pitch p v).fits plan := by
  obtain ⟨hstep, hwidth, hover⟩ := fitSources_fits plan keys.layout.zone ⟨p.text, p.clamped⟩ none
  exact ⟨hstep, hwidth, hover, Nat.add_le_add_left hd _⟩

theorem addLine_keepsFit (plan : SheetPlan) (l : Line) (hl : l.fits plan) : KeepsFit plan (addLine l) := by
  intro c hc x hx
  rcases List.mem_append.mp hx with hx | hx
  · exact hc x hx
  · rw [List.mem_singleton.mp hx]
    exact hl

/-- R104: a line fitted again keeps its baseline. -/
theorem mergeLine_fits (plan : SheetPlan) (zone : Option LeaderZone) (p : PlacedEntry) (l : Line) (hl : l.fits plan) :
    (mergeLine plan zone p l).fits plan := by
  obtain ⟨-, -, -, hbaseline⟩ := hl
  obtain ⟨hstep, hwidth, hover⟩ :=
    fitSources_fits plan zone l.base (some (mergeSource l.overstrike p.layer p.text p.clamped))
  exact ⟨hstep, hwidth, hover, hbaseline⟩

theorem changeLast_keepsFit (plan : SheetPlan) (f : Line → Line) (hf : ∀ l : Line, l.fits plan → (f l).fits plan) :
    KeepsFit plan (changeLast f) := by
  intro c hc x hx
  obtain ⟨l, hl, rfl | rfl⟩ := exists_of_mem_modify hx
  · exact hc x hl
  · exact hf l (hc l hl)

/-! ### The composer's work -/

theorem State.openSheet_moves (s : State) (hf : ringHasFree s.ring = true)
    (ha : assemblingSheet s.ring = none ∨ s.composer.waiting = true) : s.RingMoves s.openSheet :=
  (State.RingMove.opening hf ha).moves

theorem State.withSheet_ringMoves (s : State) (work : State → State) (hw : ∀ u : State, u.RingMoves (work u)) :
    s.RingMoves (s.withSheet work) := by
  by_cases ha : (assemblingSheet s.ring).isSome = true
  · rw [s.withSheet_of_room work (.inl ha), if_pos ha]
    exact hw s
  · have hnone : assemblingSheet s.ring = none := by simpa using ha
    cases hf : ringHasFree s.ring with
    | true =>
      rw [s.withSheet_of_room work (.inr hf), if_neg ha]
      exact (s.openSheet_moves hf (.inl hnone)).trans (hw _)
    | false =>
      rw [s.withSheet_of_full work hnone hf]
      exact (State.RingMove.wait hnone hf).moves

theorem State.bind_ringMoves (s : State) (form length : Nat) (pitch : LinePitch) :
    s.RingMoves (s.bind form length pitch) :=
  (State.RingMove.column _ (bindColumn_keepsFit _ _ _ _ _ _)).moves

theorem State.addOrClip_ringMoves (s : State) (p : PlacedEntry) (v : Verdict) : s.RingMoves (s.addOrClip p v) := by
  unfold State.addOrClip
  split
  · exact .refl
  · next b _ =>
    split
    · exact (s.count_ringKept _ _).moves
    · next hd =>
      have hd : p.line * b.pitch ≤ s.composer.plan.columnDepth := by simpa [SheetPlan.clips] using hd
      exact (State.RingMove.column _ (addLine_keepsFit _ _ (lineOf_fits _ s.keys b.pitch p v hd))).moves

theorem State.placeJudged_ringMoves (s : State) (p : PlacedEntry) : s.RingMoves (s.placeJudged p) :=
  s.withSheet_ringMoves _ fun u =>
    (((((u.bind_ringMoves _ _ _).kept (State.judgeLine_ringKept _ _)).trans (State.addOrClip_ringMoves _ _ _)).kept
      (State.count_ringKept _ _ _)).kept (State.removeHead_ringKept _))

theorem State.placeUnjudged_ringMoves (s : State) (p : PlacedEntry) : s.RingMoves (s.placeUnjudged p) :=
  s.withSheet_ringMoves _ fun u =>
    (((u.bind_ringMoves _ _ _).trans (State.addOrClip_ringMoves _ _ _)).kept (State.count_ringKept _ _ _)).kept
      (State.removeHead_ringKept _)

theorem State.merge_ringMoves (s : State) (p : PlacedEntry) : s.RingMoves (s.merge p) := by
  have hmerge : s.RingMove (s.modColumn (changeLast (mergeLine s.composer.plan s.keys.layout.zone p))) :=
    .column _ (changeLast_keepsFit _ _ fun l hl => mergeLine_fits _ _ p l hl)
  exact ((hmerge.moves.kept (State.count_ringKept _ _ _)).kept (State.count_ringKept _ _ _)).kept
    (State.removeHead_ringKept _)

theorem State.closeSheet_ringMoves (s : State) (sh : Sheet) : s.RingMoves (s.closeSheet sh) :=
  ((s.countFits_ringKept _).trans (State.count_ringKept _ _ _)).moves.move .commit

theorem State.flush_ringMoves (s : State) : s.RingMoves s.flush := by
  unfold State.flush
  split
  · exact .refl
  · exact s.closeSheet_ringMoves _

theorem State.closeColumn_ringMoves (s : State) : s.RingMoves s.closeColumn := by
  unfold State.closeColumn
  split
  · exact .refl
  · exact (s.countFits_ringKept _).moves.move (.column _ (close_keepsFit _))

theorem State.afterColumn_ringMoves (s : State) : s.RingMoves s.afterColumn := by
  unfold State.afterColumn
  split
  · exact .refl
  · split
    · exact s.closeSheet_ringMoves _
    · exact State.RingMove.nextColumn.moves

theorem State.closeForm_ringMoves (s : State) (f : FormEndMark) : s.RingMoves (s.closeForm f) :=
  s.withSheet_ringMoves _ fun u =>
    (((u.bind_ringMoves _ _ _).trans (State.closeColumn_ringMoves _)).trans (State.afterColumn_ringMoves _)).kept
      (State.removeHead_ringKept _)

/-- R121: a commitment leaves no slot ASSEMBLING. -/
theorem assemblingSheet_commit (r : Ring) : assemblingSheet (mapSlots commitSlot r) = none := by
  rw [assemblingSheet_eq_none_iff]
  intro x hx
  obtain ⟨y, -, rfl⟩ := (mem_mapSlots _ _ _).mp hx
  unfold commitSlot
  split
  · exact SlotPhase.noConfusion
  · assumption

/-- R125: so does a flush. -/
theorem State.flush_assemblingSheet (s : State) : assemblingSheet s.flush.ring = none := by
  cases ha : assemblingSheet s.ring with
  | none => rw [s.flush_of_no_sheet ha, ha]
  | some sh => rw [s.flush_of_sheet sh ha, State.closeSheet_ring, assemblingSheet_commit]

theorem State.applyPlan_ringMoves (s : State) (p : SheetPlan) : s.RingMoves (s.applyPlan p) :=
  s.flush_ringMoves.move (.plan p s.flush_assemblingSheet)

/-! ### The slots of the ring (R134 to R136, R143, R172) -/

theorem SlotPhase.ne_assembling_of_inFlightOn {p : SlotPhase} {e : Engine} (h : p.inFlightOn e = true) :
    p ≠ .assembling := by
  rintro rfl
  cases h

theorem finishSlot_passes (e : Engine) (seq : Word16) (o : Occupied) : o.PassesTo (finishSlot e seq o) := by
  unfold finishSlot
  split
  · next h =>
    obtain ⟨-, hflight⟩ := h
    exact .inr ⟨SlotPhase.ne_assembling_of_inFlightOn hflight, SlotPhase.noConfusion, rfl⟩
  · exact .inl rfl

theorem returnSlot_passes (e : Engine) (o : Occupied) : o.PassesTo (returnSlot e o) := by
  unfold returnSlot
  split
  · next hflight => exact .inr ⟨SlotPhase.ne_assembling_of_inFlightOn hflight, SlotPhase.noConfusion, rfl⟩
  · exact .inl rfl

theorem sendSlot_passes (e : Engine) (seq : Word16) (o : Occupied) : o.PassesTo (sendSlot e seq o) := by
  unfold sendSlot
  split
  · next h =>
    obtain ⟨-, hready⟩ := h
    exact .inr ⟨by rw [hready]; exact SlotPhase.noConfusion, SlotPhase.noConfusion, rfl⟩
  · exact .inl rfl

theorem takeSlot_passes (e : Engine) (seq : Word16) (o : Occupied) : o.PassesTo (takeSlot e seq o) := by
  unfold takeSlot
  split
  · next h =>
    obtain ⟨-, hsending⟩ := h
    exact .inr ⟨by rw [hsending]; exact SlotPhase.noConfusion, SlotPhase.noConfusion, rfl⟩
  · exact .inl rfl

/-- R135: slots are freed one after another. -/
theorem State.freeFinished_ringMoves : ∀ (n : Nat) (s : State),
    s.RingMoves { s with ring := freeFinished s.age n s.ring }
  | 0, _ => .refl
  | n + 1, s => by
    simp only [freeFinished]
    split
    · exact .refl
    · next o ho =>
      split
      · next hf => exact (State.RingMove.free o ho hf).moves.trans (State.freeFinished_ringMoves n _)
      · exact .refl

theorem State.wakeComposer_ringMoves (s : State) : s.RingMoves s.wakeComposer := by
  unfold State.wakeComposer
  split
  · next h =>
    obtain ⟨hwaiting, hfree⟩ := Bool.and_eq_true_iff.mp h
    exact s.openSheet_moves hfree (.inr hwaiting)
  · exact .refl

theorem State.release_ringMoves (s : State) (e : Engine) (seq : Word16) : s.RingMoves (s.release e seq) :=
  ((((s.modLink_ringKept e _).trans (State.count_ringKept _ _ _)).moves.move
    (.slots (finishSlot e seq) (finishSlot_passes e seq))).trans
    (State.freeFinished_ringMoves Config.ringSlots _)).trans (State.wakeComposer_ringMoves _)

theorem State.foldl_release_ringMoves (e : Engine) : ∀ (qs : List Word16) (s : State),
    s.RingMoves (qs.foldl (fun t q => t.release e q) s)
  | [], _ => .refl
  | q :: qs, s => (s.release_ringMoves e q).trans (State.foldl_release_ringMoves e qs _)

theorem State.releaseThrough_ringMoves (s : State) (e : Engine) (seq : Word16) : s.RingMoves (s.releaseThrough e seq) :=
  State.foldl_release_ringMoves e _ s

theorem State.releaseCovered_ringMoves (s : State) (e : Engine) (last : Option Word16) :
    s.RingMoves (s.releaseCovered e last) := by
  unfold State.releaseCovered
  split
  · exact .refl
  · split
    · exact s.releaseThrough_ringMoves e _
    · exact .refl

theorem State.returnAll_ringMoves (s : State) (e : Engine) : s.RingMoves (s.returnAll e) :=
  (s.modLink_ringKept e _).moves.move (.slots (returnSlot e) (returnSlot_passes e))

theorem State.countReissue_ringKept (s : State) (sh : Sheet) : s.RingKept (s.countReissue sh) := by
  unfold State.countReissue
  split <;> exact ⟨rfl, rfl⟩

theorem State.grantTo_ringMoves (s : State) (e : Engine) (sh : Sheet) : s.RingMoves (s.grantTo e sh) :=
  (((s.countReissue_ringKept sh).trans (State.modLink_ringKept _ e _)).moves.move
    (.slots (sendSlot e sh.seq) (sendSlot_passes e sh.seq))).kept ⟨rfl, rfl⟩

theorem State.grantOnce_ringMoves (s : State) : s.RingMoves s.grantOnce := by
  unfold State.grantOnce
  split
  · exact s.grantTo_ringMoves _ _
  · exact .refl
  · exact .refl

/-! ### The engines' frames -/

theorem State.afterRelease_ringKept (s : State) (e : Engine) : s.RingKept (s.afterRelease e) := by
  unfold State.afterRelease
  split
  · exact s.leaveWork_ringKept e _
  · exact .refl s

theorem State.negotiationFault_ringKept (s : State) (e : Engine) : s.RingKept (s.negotiationFault e) :=
  (s.negotiationFault_linksOnly e).ringKept

theorem State.countOffer_ringKept (s : State) (e : Engine) (modes : ModeSet) : s.RingKept (s.countOffer e modes) := by
  unfold State.countOffer
  simp only
  split
  · exact s.setLink_ringKept e _
  · split
    · exact s.setLink_ringKept e _
    · exact (s.setLink_ringKept e _).trans (State.negotiationFault_ringKept _ e)

/-- R155, R158: sheets returned, and the link OFFERING anew or OFF. -/
theorem State.offerFrame_ringMoves (s : State) (e : Engine) (modes : ModeSet) (ack : Bool) :
    s.RingMoves (s.offerFrame e modes ack) := by
  have hlost : s.RingMoves (if (s.returnAll e).uses e then (s.returnAll e).restartOffering e modes
      else (s.returnAll e).modLink e Link.enterOff) := by
    split <;> exact (s.returnAll_ringMoves e).kept (State.modLink_ringKept _ e _)
  unfold State.offerFrame
  simp only
  split
  · exact .refl
  · exact (s.countOffer_ringKept e modes).moves
  · split
    · split
      · exact (s.modLink_ringKept e _).moves
      · exact .refl
    · exact (s.modLink_ringKept e _).moves
  · split <;> exact (s.modLink_ringKept e _).moves
  · exact hlost
  · exact hlost
  · exact .refl

theorem State.idleFrame_ringKept (s : State) (e : Engine) : s.RingKept (s.idleFrame e) := by
  unfold State.idleFrame
  split
  iterate 4 exact s.modLink_ringKept e _
  all_goals exact .refl s

theorem State.takenFrame_ringMoves (s : State) (e : Engine) (seq : Word16) : s.RingMoves (s.takenFrame e seq) := by
  have hheard := s.modLink_ringKept e Link.heard
  unfold State.takenFrame
  simp only
  split
  · exact .refl
  · split
    · split
      · exact (hheard.trans (State.modLink_ringKept _ e _)).moves.move (.slots (takeSlot e seq) (takeSlot_passes e seq))
      · exact hheard.moves
    · exact (hheard.trans (State.count_ringKept _ _ _)).moves

theorem State.stackedFrame_ringMoves (s : State) (e : Engine) (seq : Word16) : s.RingMoves (s.stackedFrame e seq) := by
  have hheard := s.modLink_ringKept e Link.heard
  unfold State.stackedFrame
  simp only
  split
  · exact .refl
  · split
    · exact ((hheard.moves.trans (State.releaseThrough_ringMoves _ e seq)).kept (State.modLink_ringKept _ e _)).kept
        (State.afterRelease_ringKept _ e)
    · exact (hheard.trans (State.count_ringKept _ _ _)).moves

theorem State.stopFrame_ringMoves (s : State) (e : Engine) (cause : StopCause) : s.RingMoves (s.stopFrame e cause) := by
  have hheard := s.modLink_ringKept e Link.heard
  unfold State.stopFrame
  simp only
  split
  · exact (hheard.moves.trans (State.returnAll_ringMoves _ e)).kept (State.leaveWork_ringKept _ e _)
  · exact (hheard.trans (State.modLink_ringKept _ e _)).moves
  · exact (hheard.trans (State.modLink_ringKept _ e _)).moves
  all_goals exact .refl

theorem State.jamFrame_ringMoves (s : State) (e : Engine) (last : Option Word16) : s.RingMoves (s.jamFrame e last) := by
  have hheard := s.modLink_ringKept e Link.heard
  unfold State.jamFrame
  simp only
  split
  · exact ((hheard.moves.trans (State.releaseCovered_ringMoves _ e last)).trans (State.returnAll_ringMoves _ e)).kept
      (State.leaveWork_ringKept _ e _)
  · exact (hheard.trans (State.modLink_ringKept _ e _)).moves
  · exact (hheard.trans (State.modLink_ringKept _ e _)).moves
  all_goals exact .refl

theorem State.readyFrame_ringKept (s : State) (e : Engine) : s.RingKept (s.readyFrame e) := by
  unfold State.readyFrame
  split
  · exact (s.modLink_ringKept e _).trans (State.post_linksOnly _ _).ringKept
  · exact s.modLink_ringKept e _
  · exact s.modLink_ringKept e _
  all_goals exact .refl s

theorem State.sendSheetEnd_ringKept (s : State) (e : Engine) : s.RingKept (s.sendSheetEnd e) := by
  unfold State.sendSheetEnd
  split
  · exact .refl s
  · exact s.modLink_ringKept e _

/-! ### The timers -/

theorem State.repeatOffer_ringKept (s : State) (e : Engine) : s.RingKept (s.repeatOffer e) := by
  unfold State.repeatOffer
  split
  iterate 2 exact s.modLink_ringKept e _
  all_goals exact .refl s

theorem State.plainDetection_ringKept (s : State) (e : Engine) : s.RingKept (s.plainDetection e) := by
  unfold State.plainDetection
  split
  · exact s.modLink_ringKept e _
  · exact s.negotiationFault_ringKept e

theorem State.offerWindowEnds_ringKept (s : State) (e : Engine) : s.RingKept (s.offerWindowEnds e) := by
  unfold State.offerWindowEnds
  simp only
  split
  · split
    · exact s.negotiationFault_ringKept e
    · split
      · exact s.plainDetection_ringKept e
      · exact s.setLink_ringKept e _
  · exact .refl s

theorem State.ackWindowEnds_ringKept (s : State) (e : Engine) : s.RingKept (s.ackWindowEnds e) := by
  unfold State.ackWindowEnds
  split
  · exact s.modLink_ringKept e _
  · exact .refl s

theorem State.settleEnds_ringKept (s : State) (e : Engine) : s.RingKept (s.settleEnds e) := by
  unfold State.settleEnds
  split
  · exact s.modLink_ringKept e _
  · exact .refl s

theorem State.linkLost_ringMoves (s : State) (e : Engine) : s.RingMoves (s.linkLost e) := by
  unfold State.linkLost
  simp only
  split
  · split <;> exact (s.returnAll_ringMoves e).kept (State.modLink_ringKept _ e _)
  · exact .refl

theorem State.breakEnds_ringKept (s : State) (e : Engine) : s.RingKept (s.breakEnds e) := by
  unfold State.breakEnds
  split
  · exact s.modLink_ringKept e _
  · exact .refl s

/-- R173, R175: a timeout, when its timer runs. -/
theorem State.timeout_ringMoves (s : State) (e : Engine) (runs : Bool) :
    s.RingMoves (if runs then (s.timedOut e).failover else s) := by
  split
  · exact ((s.returnAll_ringMoves e).kept (State.leaveWork_ringKept _ e _)).kept (State.failover_ringKept _)
  · exact .refl

/-! ### The due steps -/

theorem State.takeDue_ringMoves (s : State) : s.RingMoves s.takeDue := by
  have howed : s.RingMoves s.takeOwed.windowsDue :=
    (s.takeOwed_ringKept.trans (State.windowsDue_linksOnly _).ringKept).moves
  exact ((howed.trans (State.grantOnce_ringMoves _)).trans (State.grantOnce_ringMoves _)).kept
    s.takeDue_portOnly.ringKept

/-! ### The signals and END -/

theorem State.takeOrderByte_ringKept (s : State) (d : Byte) (p : Bool) : s.RingKept (s.takeOrderByte d p) := by
  unfold State.takeOrderByte
  split
  · exact s.setPortAccept_ringKept _ _
  · split
    · exact s.setPortAccept_ringKept _ _
    · split
      · exact ⟨rfl, rfl⟩
      · split <;> exact s.setPortAccept_ringKept _ _

theorem State.orderByteStrobed_ringKept (s : State) (select : Bool) (unit : BitVec 4) (d : Byte) (p : Bool) :
    s.RingKept (s.orderByteStrobed select unit d p) := by
  unfold State.orderByteStrobed
  split
  · split
    · exact s.takeOrderByte_ringKept d p
    all_goals exact .refl s
  · exact .refl s

theorem State.dataByteStrobed_ringKept (s : State) (d : Byte) (p : Bool) : s.RingKept (s.dataByteStrobed d p) := by
  unfold State.dataByteStrobed
  split
  · split <;> exact s.setPortAccept_ringKept _ _
  all_goals exact .refl s

theorem State.replyTakenSignal_ringKept (s : State) : s.RingKept s.replyTakenSignal := by
  unfold State.replyTakenSignal
  split
  · exact s.setPort_ringKept _
  · exact s.present_ringKept _ _ _
  · exact s.present_ringKept _ _ _
  · exact s.setPort_ringKept _
  all_goals exact .refl s

theorem State.judge_ringMoves (s : State) (h : Hand) (own : State → State) (ho : s.RingMoves (own s)) :
    s.RingMoves (s.judge h own) := by
  unfold State.judge
  split
  · exact (s.refuse_ringKept _ _ _ _).moves
  · split
    · exact (s.refuse_ringKept _ _ _ _).moves
    · exact ho

/-- END of an order that its row carries out by moves of the ring. -/
theorem State.endRow_ringMoves (s : State) (mine : Hand → Bool) (own : Hand → State → State)
    (ho : ∀ h, s.RingMoves (own h s)) : s.RingMoves (s.atEnd mine fun h t => t.judge h (own h)) := by
  unfold State.atEnd
  split
  · next h _ =>
    split
    · exact s.judge_ringMoves h (own h) (ho h)
    · exact .refl
  all_goals exact .refl

theorem State.endPrint_ringKept (s : State) (h : Hand) : s.RingKept (s.endPrint h) := by
  unfold State.endPrint
  split
  · exact s.refuse_ringKept _ _ _ _
  · split
    · exact s.refuse_ringKept _ _ _ _
    · exact ⟨rfl, rfl⟩

theorem State.endMove_ringKept (s : State) (h : Hand) : s.RingKept (s.endMove h) := by
  unfold State.endMove
  split
  · exact s.refuse_ringKept _ _ _ _
  · exact ⟨rfl, rfl⟩

/-- R190: a record that is refused reaches no sheet. -/
theorem State.endTable_ringMoves (s : State) (h : Hand) (fault : List Byte → Option (Nat × Nat))
    (carry : List Byte → State → State) (hc : ∀ body, s.RingMoves (carry body s)) :
    s.RingMoves (s.endTable h fault carry) := by
  unfold State.endTable
  split
  · exact (s.refuse_ringKept _ _ _ _).moves
  · split
    · exact (s.refuse_ringKept _ _ _ _).moves
    · exact hc _

/-- R190: END of a front record that reaches no sheet. -/
theorem State.frontRow_ringMoves (s : State) (kind : Nat) (fault : List Byte → Option (Nat × Nat))
    (apply : List Byte → State → State) (ha : ∀ body, s.RingKept (apply body s)) :
    s.RingMoves (s.tableRow kind fault (applyFront apply)) :=
  s.endRow_ringMoves _ _ fun h => s.endTable_ringMoves h fault _ fun body =>
    ((ha body).trans ((State.settleNotices_ringKept s _).trans (State.present_ringKept _ _ _ _))).moves

/-- R65: END of a stream record. -/
theorem State.streamRow_ringMoves (s : State) (kind : Nat) (fault : List Byte → Option (Nat × Nat))
    (read : List Byte → StreamTable) : s.RingMoves (s.tableRow kind fault (queueStream read)) :=
  s.endRow_ringMoves _ _ fun h => s.endTable_ringMoves h fault _ fun _ => State.RingKept.moves ⟨rfl, rfl⟩

/-- R12: END of a QUERY. -/
theorem State.queryRow_ringMoves (s : State) (sel : Nat) (read : State → State) (bytes : Hand → State → List Byte)
    (hread : s.RingKept (read s)) : s.RingMoves (s.queryRow sel fun h t => (read t).respond h (bytes h t)) :=
  s.endRow_ringMoves _ _ fun h => by
    unfold State.endQuery
    split
    · exact (s.refuse_ringKept _ _ _ _).moves
    · exact (hread.trans (State.setPort_ringKept _ _)).moves

/-! ### The composer's steps -/

theorem State.atHead_ringMoves (s : State) (work : Entry → State → State) (hw : ∀ x, s.RingMoves (work x s)) :
    s.RingMoves (s.atHead work) := by
  unfold State.atHead
  split
  · exact .refl
  · exact hw _

theorem workPlacedLine_ringMoves (x : Entry) (s : State) : s.RingMoves (workPlacedLine x s) := by
  unfold workPlacedLine
  split
  · split
    · exact s.placeJudged_ringMoves _
    · exact .refl
  all_goals exact .refl

theorem workMerge_ringMoves (x : Entry) (s : State) : s.RingMoves (workMerge x s) := by
  unfold workMerge
  split
  · split
    · exact s.merge_ringMoves _
    · exact .refl
  all_goals exact .refl

theorem workOwnLine_ringMoves (x : Entry) (s : State) : s.RingMoves (workOwnLine x s) := by
  unfold workOwnLine
  split
  · split
    · exact s.placeUnjudged_ringMoves _
    · exact .refl
  all_goals exact .refl

theorem workFormEnd_ringMoves (x : Entry) (s : State) : s.RingMoves (workFormEnd x s) := by
  unfold workFormEnd
  split
  · exact s.closeForm_ringMoves _
  all_goals exact .refl

theorem workSyncMarker_ringMoves (x : Entry) (s : State) : s.RingMoves (workSyncMarker x s) := by
  unfold workSyncMarker
  split
  · exact s.flush_ringMoves.kept ((State.removeHead_ringKept _).trans (State.markerTaken_ringKept _))
  all_goals exact .refl

theorem workSheetPlan_ringMoves (x : Entry) (s : State) : s.RingMoves (workSheetPlan x s) := by
  unfold workSheetPlan
  split
  · exact (s.applyPlan_ringMoves _).kept (State.removeHead_ringKept _)
  all_goals exact .refl

theorem workCollation_ringKept (x : Entry) (s : State) : s.RingKept (workCollation x s) := by
  unfold workCollation
  split <;> exact ⟨rfl, rfl⟩

theorem workFieldLayout_ringKept (x : Entry) (s : State) : s.RingKept (workFieldLayout x s) := by
  unfold workFieldLayout
  split <;> exact ⟨rfl, rfl⟩

theorem workKeyReset_ringKept (x : Entry) (s : State) : s.RingKept (workKeyReset x s) := by
  unfold workKeyReset
  split <;> exact ⟨rfl, rfl⟩

/-! ### Every command -/

/-- A command after the due steps, whose effect is made of moves of the ring. -/
theorem State.run_ringMoves {s t : State} {f : State → State} (hx : s.run f = .next t)
    (hf : ∀ u : State, u.RingMoves (f u)) : s.RingMoves t := by
  cases hx
  exact s.takeDue_ringMoves.trans (hf _)

theorem State.runNoticed_ringMoves {s t : State} {f : State → State} (hx : s.runNoticed f = .next t)
    (hf : ∀ u : State, u.RingMoves (f u)) : s.RingMoves t := by
  cases hx
  exact (s.takeDue_ringMoves.trans (hf _)).kept (State.settleNotices_ringKept _ _)

/-- Every command is a series of moves of the ring. -/
theorem exec_ringMoves (c : Instr) (s t : State) (hx : exec c s = .next t) : s.RingMoves t := by
  cases c
  all_goals dsimp only [exec] at hx
  case orderByte a u d p => exact State.run_ringMoves hx fun v => (v.orderByteStrobed_ringKept a u d p).moves
  case orderAccept =>
    cases hx
    exact (s.takeOwed_ringKept.trans (State.acceptWaiting_portOnly _).ringKept).moves
  case dataByte d p => exact State.run_ringMoves hx fun v => (v.dataByteStrobed_ringKept d p).moves
  case unknownOrder => exact State.run_ringMoves hx fun v => v.endRow_ringMoves _ _ fun _ => .refl
  case print => exact State.run_ringMoves hx fun v => v.endRow_ringMoves _ _ fun h => (v.endPrint_ringKept h).moves
  case move => exact State.run_ringMoves hx fun v => v.endRow_ringMoves _ _ fun h => (v.endMove_ringKept h).moves
  case sync => exact State.run_ringMoves hx fun v => v.endRow_ringMoves _ _ fun _ => State.RingKept.moves ⟨rfl, rfl⟩
  case syncDone => cases hx; exact s.syncCompletes_portOnly.ringKept.moves
  case engineStopped => cases hx; exact s.syncFails_portOnly.ringKept.moves
  case tableCharacterMap => exact State.run_ringMoves hx fun v => v.frontRow_ringMoves _ _ _ fun _ => ⟨rfl, rfl⟩
  case tableForms => exact State.run_ringMoves hx fun v => v.frontRow_ringMoves _ _ _ fun _ => v.loadForms_ringKept _
  case tableCollation => exact State.run_ringMoves hx fun v => v.streamRow_ringMoves _ _ _
  case tableFieldLayout => exact State.run_ringMoves hx fun v => v.streamRow_ringMoves _ _ _
  case tableKeyReset => exact State.run_ringMoves hx fun v => v.streamRow_ringMoves _ _ _
  case tableSheetPlan => exact State.run_ringMoves hx fun v => v.streamRow_ringMoves _ _ _
  case tableLinkSettings =>
    exact State.run_ringMoves hx fun v => v.frontRow_ringMoves _ _ _ fun _ => v.applySettings_ringKept _
  case tableNoticeControl => exact State.run_ringMoves hx fun v => v.frontRow_ringMoves _ _ _ fun _ => ⟨rfl, rfl⟩
  case tableNoticeClear => exact State.run_ringMoves hx fun v => v.frontRow_ringMoves _ _ _ fun _ => ⟨rfl, rfl⟩
  case tableUnit => exact State.run_ringMoves hx fun v => v.frontRow_ringMoves _ _ _ fun _ => ⟨rfl, rfl⟩
  case tableCounterClear => exact State.run_ringMoves hx fun v => v.frontRow_ringMoves _ _ _ fun _ => ⟨rfl, rfl⟩
  case tableReset =>
    exact State.run_ringMoves hx fun v => v.endRow_ringMoves _ _ fun h => v.endTable_ringMoves h _ _ fun _ =>
      (v.present_ringKept _ _ _).moves.move .softReset
  case tableKindUnknown =>
    exact State.run_ringMoves hx fun v => v.endRow_ringMoves _ _ fun h => v.endTable_ringMoves h _ _ fun _ => .refl
  case queryCondition => exact State.run_ringMoves hx fun v => v.queryRow_ringMoves _ id _ (.refl v)
  case queryCheck => exact State.run_ringMoves hx fun v => v.queryRow_ringMoves _ id _ (.refl v)
  case queryNotices =>
    exact State.run_ringMoves hx fun v => v.queryRow_ringMoves _ State.noticesRead _ v.noticesRead_ringKept
  case queryCounters => exact State.run_ringMoves hx fun v => v.queryRow_ringMoves _ id _ (.refl v)
  case queryTable => exact State.run_ringMoves hx fun v => v.queryRow_ringMoves _ id _ (.refl v)
  case queryEngine => exact State.run_ringMoves hx fun v => v.queryRow_ringMoves _ id _ (.refl v)
  case queryRing => exact State.run_ringMoves hx fun v => v.queryRow_ringMoves _ id _ (.refl v)
  case selectorNamingNothing =>
    refine State.run_ringMoves hx fun v => v.endRow_ringMoves _ _ fun h => ?_
    unfold State.endQuery
    split
    · exact (v.refuse_ringKept _ _ _ _).moves
    · exact .refl
  case replyTaken => exact State.run_ringMoves hx fun v => v.replyTakenSignal_ringKept.moves
  case clear => exact State.run_ringMoves hx fun v => State.RingKept.moves ⟨rfl, rfl⟩
  case lineReset =>
    exact State.run_ringMoves hx fun v => State.RingMove.softReset.moves.kept (State.setPortAccept_ringKept _ _ _)
  case hardwareReset straps => cases hx; exact (State.RingMove.hardwareReset straps).moves
  case owedFormEnd => cases hx; exact s.takeOwed_ringKept.moves
  case placedLine =>
    exact State.runNoticed_ringMoves hx fun v => v.atHead_ringMoves _ fun x => workPlacedLine_ringMoves x v
  case overstrikeMerge =>
    exact State.runNoticed_ringMoves hx fun v => v.atHead_ringMoves _ fun x => workMerge_ringMoves x v
  case lineOfItsOwn =>
    exact State.runNoticed_ringMoves hx fun v => v.atHead_ringMoves _ fun x => workOwnLine_ringMoves x v
  case formEnd => exact State.runNoticed_ringMoves hx fun v => v.atHead_ringMoves _ fun x => workFormEnd_ringMoves x v
  case syncMarker =>
    exact State.runNoticed_ringMoves hx fun v => v.atHead_ringMoves _ fun x => workSyncMarker_ringMoves x v
  case sheetPlanEntry =>
    exact State.runNoticed_ringMoves hx fun v => v.atHead_ringMoves _ fun x => workSheetPlan_ringMoves x v
  case collationEntry =>
    exact State.run_ringMoves hx fun v => v.atHead_ringMoves _ fun x => (workCollation_ringKept x v).moves
  case fieldLayoutEntry =>
    exact State.run_ringMoves hx fun v => v.atHead_ringMoves _ fun x => (workFieldLayout_ringKept x v).moves
  case keyResetEntry =>
    exact State.run_ringMoves hx fun v => v.atHead_ringMoves _ fun x => (workKeyReset_ringKept x v).moves
  case grant => cases hx; exact s.windowsDue_linksOnly.ringKept.moves.trans (State.grantOnce_ringMoves _)
  case sheetEnd e => exact State.run_ringMoves hx fun v => (v.sendSheetEnd_ringKept e).moves
  case offer e m a =>
    exact State.runNoticed_ringMoves hx fun v => (v.offerFrame_ringMoves e m a).kept (State.failover_ringKept _)
  case idle e => exact State.run_ringMoves hx fun v => (v.idleFrame_ringKept e).moves
  case taken e q => exact State.run_ringMoves hx fun v => v.takenFrame_ringMoves e q
  case stacked e q =>
    exact State.runNoticed_ringMoves hx fun v => (v.stackedFrame_ringMoves e q).kept (State.failover_ringKept _)
  case stop e cause =>
    unfold execStop at hx
    split at hx
    · exact State.runNoticed_ringMoves hx fun v => (v.stopFrame_ringMoves e cause).kept (State.failover_ringKept _)
    · cases hx
  case jam e q =>
    exact State.runNoticed_ringMoves hx fun v => (v.jamFrame_ringMoves e q).kept (State.failover_ringKept _)
  case ready e =>
    exact State.runNoticed_ringMoves hx fun v => ((v.readyFrame_ringKept e).trans (State.failover_ringKept _)).moves
  case offerRepeat e => exact State.run_ringMoves hx fun v => (v.repeatOffer_ringKept e).moves
  case offerWindow e =>
    exact State.runNoticed_ringMoves hx fun v =>
      ((v.offerWindowEnds_ringKept e).trans (State.failover_ringKept _)).moves
  case acknowledgementWindow e => exact State.runNoticed_ringMoves hx fun v => (v.ackWindowEnds_ringKept e).moves
  case settleTimer e =>
    exact State.runNoticed_ringMoves hx fun v => ((v.settleEnds_ringKept e).trans (State.failover_ringKept _)).moves
  case silenceTimer e =>
    exact State.runNoticed_ringMoves hx fun v => (v.linkLost_ringMoves e).kept (State.failover_ringKept _)
  case breakEnd e => exact State.runNoticed_ringMoves hx fun v => (v.breakEnds_ringKept e).moves
  case takenTimeout e => exact State.runNoticed_ringMoves hx fun v => v.timeout_ringMoves e _
  case stackedTimeout e q => exact State.runNoticed_ringMoves hx fun v => v.timeout_ringMoves e _
  case windowShort e => cases hx; exact (s.windowShort_linksOnly e).ringKept.moves
  case windowMet e => cases hx; exact (s.windowMet_linksOnly e).ringKept.moves
  case tick => exact State.run_ringMoves hx fun v => State.RingKept.moves ⟨rfl, rfl⟩
  case burstTimer => exact State.run_ringMoves hx fun v => State.RingKept.moves ⟨rfl, rfl⟩
  case callPattern => exact State.run_ringMoves hx fun v => State.RingKept.moves ⟨rfl, rfl⟩

/-- So is every step. -/
theorem step_ringMoves (s t : State) (hx : step s = .next t) : s.RingMoves t := by
  unfold step at hx
  split at hx
  · cases hx
    exact s.takeDue_ringMoves
  · next c rest _ =>
    have hqueue : s.RingKept { s with pending := rest } := ⟨rfl, rfl⟩
    exact hqueue.moves.trans (exec_ringMoves c _ t hx)

end Sys2Proof.Machine
end

section
/-! PROOFS. The law that every move of the ring keeps: the placed lines within their plans and the guides of the
committed sheets. -/

namespace Sys2Proof.Machine

/-! ### One slot -/

/-- R95, R103, R122: the laws of layout at one slot, under the plan in force. -/
structure Occupied.LaidOut (plan : SheetPlan) (x : Occupied) : Prop where
  inForce : x.phase = .assembling → x.sheet.plan = plan
  fits : ∀ l ∈ x.sheet.lines, l.fits x.sheet.plan
  guided : x.phase ≠ .assembling → x.sheet.guided

/-- The two laws of the statement, slot by slot. -/
theorem State.layoutSound_iff (s : State) :
    s.linesSound ∧ s.guidesSound ↔ ∀ x, some x ∈ s.ring → x.LaidOut s.composer.plan := by
  constructor
  · rintro ⟨hlines, hguides⟩ x hx
    obtain ⟨hplan, hfits⟩ := hlines _ hx x rfl
    exact ⟨hplan, hfits, hguides _ hx x rfl⟩
  · intro h
    refine ⟨?_, ?_⟩
    · rintro o ho x rfl
      exact ⟨(h x ho).inForce, (h x ho).fits⟩
    · rintro o ho x rfl
      exact (h x ho).guided

/-- Under a new plan nothing changes for a slot that is not ASSEMBLING. -/
theorem Occupied.LaidOut.of_not_assembling {p q : SheetPlan} {x : Occupied} (h : x.LaidOut p)
    (ha : x.phase ≠ .assembling) : x.LaidOut q := ⟨fun hx => absurd hx ha, h.fits, h.guided⟩

/-- R111: a sheet newly opened holds no line. -/
theorem freshSheet_laidOut (c : Composer) : Occupied.LaidOut c.plan ⟨.assembling, c.freshSheet⟩ where
  inForce := fun _ => rfl
  fits := by simp [Sheet.lines]
  guided := fun h => absurd rfl h

/-- R115 to R120: a change of a column that keeps every line within the plan in force. -/
theorem onAssembling_laidOut (plan : SheetPlan) (g : Nat) (f : Column → Column) (hf : KeepsFit plan f) (x : Occupied)
    (hx : x.LaidOut plan) :
    (onAssembling (fun sh => { sh with columns := sh.columns.modify g f }) x).LaidOut plan := by
  rw [onAssembling_modify]
  split
  · next ha =>
    have hplan := hx.inForce ha
    have hcolumns : ∀ c ∈ x.sheet.columns, c.FitsPlan plan := fun c hc l hl =>
      hplan ▸ hx.fits l (List.mem_flatMap.mpr ⟨c, hc, hl⟩)
    refine ⟨fun _ => hplan, fun l hl => ?_, fun h => absurd rfl h⟩
    obtain ⟨c, hc, hl⟩ := List.mem_flatMap.mp hl
    show l.fits x.sheet.plan
    rw [hplan]
    obtain ⟨d, hd, rfl | rfl⟩ := exists_of_mem_modify hc
    · exact hcolumns c hd l hl
    · exact hf d (hcolumns d hd) l hl
  · exact hx

/-- R121: a commitment moves no line. -/
theorem Sheet.finish_lines (sh : Sheet) : sh.finish.lines = sh.lines := by
  simp [Sheet.lines, Sheet.finish, List.flatMap_map]

/-- R122: the guides of a commitment. -/
theorem Sheet.finish_guided (sh : Sheet) : sh.finish.guided := by
  have hkeys : sh.finish.displayKeys = sh.displayKeys := congrArg (List.filterMap _) sh.finish_lines
  have hguides : sh.finish.guides = sh.guidesOf := rfl
  have hplan : sh.finish.plan = sh.plan := rfl
  rw [Sheet.guided, hkeys, hguides, hplan]
  refine ⟨fun hnil => ?_, fun a z ha hz => ?_⟩
  · rw [Sheet.guidesOf, show sh.lines.filterMap (fun l => l.displayKey) = [] from hnil]
    rfl
  · rw [Sheet.displayKeys] at ha hz
    simp only [Sheet.guidesOf, ha, hz]

theorem commitSlot_laidOut (p q : SheetPlan) (x : Occupied) (hx : x.LaidOut p) : (commitSlot x).LaidOut q := by
  unfold commitSlot
  split
  · refine ⟨SlotPhase.noConfusion, fun l hl => ?_, fun _ => x.sheet.finish_guided⟩
    rw [Sheet.finish_lines] at hl
    exact hx.fits l hl
  · next ha => exact hx.of_not_assembling ha

/-- A slot that passes on keeps its lines and its guides. -/
theorem Occupied.PassesTo.laidOut {p : SheetPlan} {o x : Occupied} (h : o.PassesTo x) (ho : o.LaidOut p) :
    x.LaidOut p := by
  rcases h with rfl | ⟨ha, hxa, hs⟩
  · exact ho
  · refine ⟨fun hx => absurd hx hxa, ?_, fun _ => ?_⟩
    · rw [hs]
      exact ho.fits
    · rw [hs]
      exact ho.guided ha

/-! ### The slots of a ring -/

theorem mem_of_mem_fillFirst {o x : Occupied} : ∀ {r : Ring}, some x ∈ fillFirst o r → x = o ∨ some x ∈ r
  | none :: r, h => by simpa [fillFirst] using h
  | some y :: r, h => by
    rcases List.mem_cons.mp h with hy | h
    · exact .inr (List.mem_cons.mpr (.inl hy))
    · exact (mem_of_mem_fillFirst h).imp_right (List.mem_cons_of_mem _)

theorem mem_of_mem_dropSheet {q : Word16} {r : Ring} {x : Occupied} (h : some x ∈ dropSheet q r) : some x ∈ r := by
  obtain ⟨o, ho, hx⟩ := List.mem_map.mp h
  split at hx
  · split at hx
    · cases hx
    · rwa [← hx]
  · cases hx

/-- Every move of the ring keeps the laws of layout at every slot. -/
theorem State.RingMove.laidOut (s t : State) (hs : ∀ x, some x ∈ s.ring → x.LaidOut s.composer.plan)
    (h : s.RingMove t) : ∀ x, some x ∈ t.ring → x.LaidOut t.composer.plan := by
  cases h with
  | kept h =>
    rw [h.ring, h.composer]
    exact hs
  | wait ha hf => exact hs
  | opening hf ha =>
    intro x hx
    rcases mem_of_mem_fillFirst hx with rfl | hx
    · exact freshSheet_laidOut s.composer
    · exact hs x hx
  | column f hf =>
    intro x hx
    obtain ⟨y, hy, rfl⟩ := (mem_mapSlots _ _ _).mp hx
    exact onAssembling_laidOut _ _ f hf y (hs y hy)
  | nextColumn => exact hs
  | commit =>
    intro x hx
    obtain ⟨y, hy, rfl⟩ := (mem_mapSlots _ _ _).mp hx
    exact commitSlot_laidOut _ _ y (hs y hy)
  | plan p ha => exact fun x hx => (hs x hx).of_not_assembling ((assemblingSheet_eq_none_iff _).mp ha x hx)
  | slots f hf =>
    intro x hx
    obtain ⟨y, hy, rfl⟩ := (mem_mapSlots _ _ _).mp hx
    exact (hf y).laidOut (hs y hy)
  | free o ho hf => exact fun x hx => hs x (mem_of_mem_dropSheet hx)
  | softReset => exact fun x hx => absurd hx (not_mem_emptyRing x)
  | hardwareReset straps => exact fun x hx => absurd hx (not_mem_emptyRing x)

/-- Settles O58: every step is a series of moves of the ring, each of which keeps the laws at every slot. -/
theorem sheetsKeepTheLayoutLaws : Obligations.SheetsKeepTheLayoutLaws := by
  unfold Obligations.SheetsKeepTheLayoutLaws
  rintro s t ⟨-, hs⟩ hx
  rw [State.layoutSound_iff] at hs ⊢
  exact (step_ringMoves s t hx).keeps State.RingMove.laidOut hs

end Sys2Proof.Machine
end

section
/-! PROOFS. The overstrike that merges into the last line of its column, and the one that stands alone. -/

namespace Sys2Proof.Machine

/-! ### The overstrike source (R93, R118) -/

theorem strikeText_nil (old : Text) : strikeText old [] = old := by
  cases old <;> rfl

theorem strikeText_length : ∀ old text : Text, (strikeText old text).length = max old.length text.length
  | old, [] => by simp [strikeText_nil]
  | [], t :: ts => by simp [strikeText, strikeText_length [] ts]
  | o :: os, t :: ts => by simp [strikeText, strikeText_length os ts]

/-- R118: a glyph struck takes the position, and a blank leaves it. -/
theorem strikeText_getElem? : ∀ (old text : Text) (i : Nat), ((strikeText old text)[i]?).join =
    if ((text[i]?).join).isSome then (text[i]?).join else (old[i]?).join
  | old, [], i => by simp [strikeText_nil]
  | [], t :: ts, 0 => by cases t <;> simp [strikeText]
  | [], t :: ts, i + 1 => by simpa [strikeText] using strikeText_getElem? [] ts i
  | o :: os, t :: ts, 0 => by cases t <;> simp [strikeText]
  | o :: os, t :: ts, i + 1 => by simpa [strikeText] using strikeText_getElem? os ts i

/-- R93: the first overstrike of a line, and every layer-2 overstrike, is the line's overstrike source. -/
theorem mergeSource_replaces (old : Option Source) (layer : Nat) (text : Text) (clamped : Bool)
    (h : layer = 2 ∨ old = none) : mergeSource old layer text clamped = ⟨text, clamped⟩ := by
  cases old with
  | none => rfl
  | some o => exact if_pos (h.resolve_right (Option.some_ne_none o))

/-- R118: a layer-3 overstrike strikes over the one before. -/
theorem mergeSource_strikes (o : Source) (layer : Nat) (text : Text) (clamped : Bool) (h : layer ≠ 2) :
    mergeSource (some o) layer text clamped = ⟨strikeText o.text text, o.clamped || clamped⟩ := if_neg h

/-! ### OVERSTRIKE_MERGE (R118) -/

theorem exec_overstrikeMerge (s : State) : exec .overstrikeMerge s = s.runNoticed fun q => q.atHead workMerge := rfl

/-- R118: form and line of the last line agree with those of the entry. -/
theorem State.merges_of_lastLine (s : State) (p : PlacedEntry) (b : Binding) (l : Line)
    (hl : s.lastLine = some (b, l)) (hb : b.form = p.form) (hn : l.number = p.line) : s.merges p = true := by
  simp [State.merges, hl, hb, hn]

theorem workMerge_of_merges (s : State) (p : PlacedEntry) (hp : p.layer ≠ 1) (hm : s.merges p = true) :
    workMerge (.placedLine p) s = s.merge p := if_pos ⟨hp, hm⟩

/-- R118: a merge reaches the ring and the counters, and the entry leaves. -/
theorem State.merge_eq (s : State) (p : PlacedEntry) {x : Entry} {rest : List Entry} (hx : s.queue = x :: rest) :
    s.merge p = { s with
      queue := rest
      ring := (s.modColumn (changeLast (mergeLine s.composer.plan s.keys.layout.zone p))).ring
      counters := ((s.count .overstrikeMerges 1).count .placedLines 1).counters } := by
  have hrest : s.queue.tail = rest := by rw [hx, List.tail_cons]
  rw [← hrest]
  rfl

/-- Without a change of condition, settling the notices puts the pending set back. -/
theorem State.settleNotices_of_conditions (s t : State) (hc : t.conditions = s.conditions) :
    s.settleNotices t = { t with notices := t.notices.setPending t.notices.pending } := by
  unfold State.settleNotices
  rw [hc, edgesOn_same]

/-- Settles O35: the row does the merge, which reaches no condition; the source by the cases of `mergeSource`. -/
theorem overstrikeMergesIntoItsLine : Obligations.OverstrikeMergesIntoItsLine := by
  unfold Obligations.OverstrikeMergesIntoItsLine
  refine ⟨fun s p rest b l hq hx hp hl hb hn => ?_, fun plan zone p l =>
    ⟨_, rfl, mergeSource_replaces _ _ _ _, fun old hlayer hold => ?_⟩⟩
  · have hconditions : (s.merge p).conditions = s.conditions := by
      rw [s.merge_eq p hx]
      rfl
    rw [exec_overstrikeMerge, s.runNoticed_atHead _ hq hx,
      workMerge_of_merges s p hp (s.merges_of_lastLine p b l hl hb hn), s.settleNotices_of_conditions _ hconditions,
      s.merge_eq p hx]
  · rw [hold, mergeSource_strikes old _ _ _ hlayer]
    exact ⟨rfl, strikeText_length _ _, strikeText_getElem? _ _⟩

/-! ### LINE_OF_ITS_OWN (R119) -/

/-- R119: the work on the sheet: the column bound, the line placed or clipped, unjudged, and counted, and the
entry gone. -/
def State.placeAlone (s : State) (p : PlacedEntry) : State :=
  (((s.bind p.form p.length p.pitch).addOrClip p .unkeyed).count .placedLines 1).removeHead

theorem State.placeUnjudged_of_room (s : State) (p : PlacedEntry)
    (h : (assemblingSheet s.ring).isSome = true ∨ ringHasFree s.ring = true) :
    s.placeUnjudged p = (if (assemblingSheet s.ring).isSome then s else s.openSheet).placeAlone p :=
  s.withSheet_of_room (fun t => t.placeAlone p) h

/-- R119: an overstrike that does not merge, in a quiet state with a sheet assembling or a slot FREE. -/
theorem lineOfItsOwn_places (s : State) (p : PlacedEntry) (rest : List Entry) (hq : s.quiet)
    (hx : s.queue = .placedLine p :: rest) (hp : p.layer ≠ 1) (hm : s.merges p = false)
    (hr : (assemblingSheet s.ring).isSome = true ∨ ringHasFree s.ring = true) :
    exec .lineOfItsOwn s = .next (s.settleNotices
      ((if (assemblingSheet s.ring).isSome then s else s.openSheet).placeAlone p)) := by
  rw [exec_lineOfItsOwn, s.runNoticed_atHead _ hq hx, workOwnLine_of_alone s p hp hm, s.placeUnjudged_of_room p hr]

/-- What the work on the sheet leaves. -/
theorem State.placeAlone_eq (s : State) (p : PlacedEntry) {x : Entry} {rest : List Entry} (hx : s.queue = x :: rest) :
    s.placeAlone p = { s with
      queue := rest
      ring := (s.placeAlone p).ring
      counters := (s.placeAlone p).counters } := by
  have hrest : s.queue.tail = rest := by rw [hx, List.tail_cons]
  rw [← hrest]
  unfold State.placeAlone
  rw [State.addOrClip_eq]
  rfl

/-- R119: what LINE_OF_ITS_OWN leaves of the state in which it began. -/
theorem State.SheetOnly.placeAlone_eq {s t : State} (h : s.SheetOnly t) (p : PlacedEntry) {x : Entry}
    {rest : List Entry} (hx : s.queue = x :: rest) :
    t.placeAlone p = { s with
      queue := rest
      composer := t.composer
      ring := (t.placeAlone p).ring
      counters := (t.placeAlone p).counters } := by
  refine (t.placeAlone_eq p (h.queue.trans hx)).trans ?_
  generalize (t.placeAlone p).ring = r
  generalize (t.placeAlone p).counters = cs
  rw [h.eq]

theorem State.placeAlone_ring (s : State) (p : PlacedEntry) :
    (s.placeAlone p).ring = ((s.bind p.form p.length p.pitch).addOrClip p .unkeyed).ring := rfl

/-- R119: of the counters, the end of the work counts the line placed. -/
theorem State.placeAlone_counter (s : State) (p : PlacedEntry) (c : Counter) :
    (s.placeAlone p).counter c =
      if c = .placedLines then countUp (((s.bind p.form p.length p.pitch).addOrClip p .unkeyed).counter c) 1
      else ((s.bind p.form p.length p.pitch).addOrClip p .unkeyed).counter c :=
  State.counter_count _ .placedLines c 1

theorem State.placeAlone_placedLines (s : State) (p : PlacedEntry) :
    (s.placeAlone p).counter .placedLines = countUp (s.counter .placedLines) 1 := by
  rw [s.placeAlone_counter, if_pos rfl, State.addOrClip_counter _ _ _ _ (by decide)]
  rfl

/-- R119: the line counts nowhere else, but among the lines clipped. -/
theorem State.placeAlone_counter_of_ne (s : State) (p : PlacedEntry) (c : Counter) (hp : c ≠ .placedLines)
    (hd : c ≠ .depthClipped) : (s.placeAlone p).counter c = s.counter c := by
  rw [s.placeAlone_counter, if_neg hp, State.addOrClip_counter _ _ _ c hd]
  rfl

/-- R95: below the column depth the sheet is as the binding left it. -/
theorem State.placeAlone_of_below (s : State) (p : PlacedEntry) (c : Column) (b : Binding)
    (hc : (s.bind p.form p.length p.pitch).currentColumn = some c) (hb : c.binding = some b)
    (hd : s.composer.plan.columnDepth < p.line * b.pitch) :
    (s.placeAlone p).ring = (s.bind p.form p.length p.pitch).ring ∧
      (s.placeAlone p).counter .depthClipped = countUp (s.counter .depthClipped) 1 := by
  rw [s.placeAlone_ring, s.placeAlone_counter, if_neg (by decide), State.addOrClip_of_below _ p _ c b hc hb hd,
    State.count_ring, State.counter_count_self]
  exact ⟨rfl, rfl⟩

/-- R119: within the column depth the line joins the column, unkeyed. -/
theorem State.placeAlone_of_within (s : State) (p : PlacedEntry) (c : Column) (b : Binding)
    (hc : (s.bind p.form p.length p.pitch).currentColumn = some c) (hb : c.binding = some b)
    (hd : p.line * b.pitch ≤ s.composer.plan.columnDepth) :
    (s.placeAlone p).ring = ((s.bind p.form p.length p.pitch).modColumn
        (addLine (lineOf s.composer.plan s.keys b.pitch p .unkeyed))).ring ∧
      (s.placeAlone p).counter .depthClipped = s.counter .depthClipped := by
  rw [s.placeAlone_ring, s.placeAlone_counter, if_neg (by decide), State.addOrClip_of_within _ p _ c b hc hb hd]
  exact ⟨rfl, rfl⟩

/-- Settles O36: the work on the sheet that is assembling or opened for the line, by its lemmas above. -/
theorem overstrikeStandsAlone : Obligations.OverstrikeStandsAlone := by
  unfold Obligations.OverstrikeStandsAlone
  intro s s0 s1 p rest hq hx hp hm hr hs0 hs1
  have hsheet : s.SheetOnly s0 := hs0 ▸ s.sheetOnly_of_opening
  have hu := hsheet.placeAlone_eq p hx
  refine ⟨s.settleNotices (s0.placeAlone p), ?_, s.settleNotices_of_eq hu, ?_, fun k h3 h10 => ?_,
    fun c b hc hb => ⟨fun hd => ?_, fun hd => ?_⟩⟩
  · rw [hs0, lineOfItsOwn_places s p rest hq hx hp hm hr]
  · rw [State.settleNotices_counter, s0.placeAlone_placedLines, hsheet.counter]
  · rw [State.settleNotices_counter, s0.placeAlone_counter_of_ne p k h3 h10, hsheet.counter]
  · rw [hs1] at hc ⊢
    rw [State.settleNotices_ring, State.settleNotices_counter, ← hsheet.counter]
    exact s0.placeAlone_of_below p c b hc hb (hsheet.plan ▸ hd)
  · rw [hs1] at hc ⊢
    rw [State.settleNotices_ring, State.settleNotices_counter, ← hsheet.counter, ← hsheet.plan, ← hsheet.keys]
    exact s0.placeAlone_of_within p c b hc hb (hsheet.plan ▸ hd)

end Sys2Proof.Machine
end

section
/-! PROOFS. FORM END and the commitment of a sheet. -/

namespace Sys2Proof.Machine

/-! ### The record of a commitment (R121, R122, R124) -/

theorem commitSlot_of_not_assembling (o : Occupied) (h : o.phase ≠ .assembling) : commitSlot o = o := if_neg h

theorem commitSlot_of_assembling (sh : Sheet) : commitSlot ⟨.assembling, sh⟩ = ⟨.ready, sh.finish⟩ := rfl

/-- R121: the sequence-fault flag. -/
theorem Sheet.finish_seqFault_iff (sh : Sheet) :
    sh.finish.seqFault = true ↔ ∃ c ∈ sh.columns, ∃ l ∈ c.lines, l.outOfOrder = true := by
  simp [Sheet.finish, Sheet.lines]

/-- One flag after another, each with the mark it calls for. -/
theorem marks_cons (b : Bool) (k : MarkKind) (flags : List (Bool × MarkKind)) (left baseline : Nat) :
    (((b, k) :: flags).filter fun x => x.1).map (fun x => (⟨x.2, left, baseline⟩ : Mark)) =
      (if b then [⟨k, left, baseline⟩] else []) ++
        (flags.filter fun x => x.1).map fun x => ⟨x.2, left, baseline⟩ := by
  cases b <;> rfl

/-- R124: the marks of a line, those of the three kinds that the flags call for and the plan lets through. -/
theorem lineMarks_eq (m : MarkSet) (left : Nat) (l : Line) :
    lineMarks m left l =
      ([(l.outOfOrder && m.outOfOrder, MarkKind.outOfOrder), (l.duplicate && m.duplicate, .duplicate),
        (l.fit.overFlag && m.overLine, .overLine)].filter fun x => x.1).map fun x => ⟨x.2, left, l.baseline⟩ := by
  rw [marks_cons, marks_cons, marks_cons, ← List.append_assoc, List.filter_nil, List.map_nil, List.append_nil]
  rfl

theorem columnMarks_of_bound (m : MarkSet) (c : Column) (b : Binding) (h : c.binding = some b) :
    columnMarks m c = c.lines.flatMap (lineMarks m b.left) := by
  simp only [columnMarks, h]

theorem columnMarks_of_unbound (m : MarkSet) (c : Column) (h : c.binding = none) : columnMarks m c = [] := by
  simp only [columnMarks, h]

/-! ### Lines counted at a closing (R106) -/

theorem State.countFits_eq (s : State) (ls : List Line) :
    s.countFits ls = { s with counters := (s.countFits ls).counters } := rfl

theorem State.countFits_counter (s : State) (ls : List Line) (c : Counter) :
    (s.countFits ls).counter c =
      if c = .squeezedLines then countUp (s.counter c) (ls.filter fun l => l.fit.squeezed).length
      else if c = .overLines then countUp (s.counter c) (ls.filter fun l => l.fit.overFlag).length
      else s.counter c := by
  unfold State.countFits
  rw [State.counter_count, State.counter_count, List.countP_eq_length_filter, List.countP_eq_length_filter]
  by_cases hs : c = .squeezedLines
  · simp [hs]
  · simp [hs]

/-- R106: the lines of the columns not yet closed. -/
theorem Sheet.openLines_eq (sh : Sheet) :
    sh.openLines = sh.columns.flatMap fun c => if c.closed then [] else c.lines := by
  unfold Sheet.openLines
  induction sh.columns with
  | nil => rfl
  | cons c cs ih => cases hc : c.closed <;> simp [hc, ih]

/-! ### FORM_END (R120) -/

theorem assemblingSheet_mapSlots_onAssembling (f : Sheet → Sheet) : ∀ r : Ring,
    assemblingSheet (mapSlots (onAssembling f) r) = (assemblingSheet r).map f
  | [] => rfl
  | none :: r => assemblingSheet_mapSlots_onAssembling f r
  | some x :: r => by
    have ih := assemblingSheet_mapSlots_onAssembling f r
    show assemblingSheet (some (onAssembling f x) :: mapSlots (onAssembling f) r) = _
    rw [assemblingSheet_cons_some, assemblingSheet_cons_some, ih]
    by_cases ha : x.phase = .assembling
    · simp [onAssembling, ha]
    · simp [onAssembling, ha]

/-- A change of the current column is a change of the assembling sheet, which keeps its plan. -/
theorem State.modColumn_plan (s : State) (f : Column → Column) (sh closed : Sheet)
    (hs : assemblingSheet s.ring = some sh) (hc : assemblingSheet (s.modColumn f).ring = some closed) :
    closed.plan = sh.plan := by
  have hmap : assemblingSheet (s.modColumn f).ring = _ := assemblingSheet_mapSlots_onAssembling _ s.ring
  rw [hc, hs, Option.map_some, Option.some.injEq] at hmap
  rw [hmap]

theorem State.closeColumn_of_current (s : State) (c : Column) (h : s.currentColumn = some c) :
    s.closeColumn = (s.countFits c.lines).modColumn fun x => { x with closed := true } := by
  simp only [State.closeColumn, h]

/-- R120: before the last column of the plan the next one is current. -/
theorem State.afterColumn_of_more (s : State) (sh : Sheet) (h : assemblingSheet s.ring = some sh)
    (hc : s.composer.column ≠ sh.plan.gang) :
    s.afterColumn = { s with composer := { s.composer with column := s.composer.column + 1 } } := by
  simp only [State.afterColumn, h]
  exact if_neg hc

/-- R120: after the last column of the plan the sheet is committed. -/
theorem State.afterColumn_of_last (s : State) (sh : Sheet) (h : assemblingSheet s.ring = some sh)
    (hc : s.composer.column = sh.plan.gang) : s.afterColumn = s.closeSheet sh := by
  simp only [State.afterColumn, h]
  exact if_pos hc

/-- R120: the work on the sheet: the column bound, closed and counted, what follows it, and the entry gone. -/
def State.endForm (s : State) (f : FormEndMark) : State :=
  (s.bind f.form f.length f.pitch).closeColumn.afterColumn.removeHead

theorem State.closeForm_of_room (s : State) (f : FormEndMark)
    (h : (assemblingSheet s.ring).isSome = true ∨ ringHasFree s.ring = true) :
    s.closeForm f = (if (assemblingSheet s.ring).isSome then s else s.openSheet).endForm f :=
  s.withSheet_of_room (fun t => t.endForm f) h

/-- R120: a FORM END at the head, in a quiet state with a sheet assembling or a slot FREE. -/
theorem formEnd_closes (s : State) (f : FormEndMark) (rest : List Entry) (hq : s.quiet)
    (hx : s.queue = .formEnd f :: rest)
    (hr : (assemblingSheet s.ring).isSome = true ∨ ringHasFree s.ring = true) :
    exec .formEnd s = .next (s.settleNotices
      ((if (assemblingSheet s.ring).isSome then s else s.openSheet).endForm f)) := by
  rw [exec_formEnd, s.runNoticed_atHead _ hq hx, workFormEnd_of_formEnd, s.closeForm_of_room f hr]

/-- The closing of a column reaches the ring and the counters. -/
theorem State.closeColumn_eq (s : State) :
    s.closeColumn = { s with ring := s.closeColumn.ring, counters := s.closeColumn.counters } := by
  unfold State.closeColumn
  split <;> rfl

/-- What follows it reaches the composer too. -/
theorem State.afterColumn_eq (s : State) :
    s.afterColumn = { s with
      composer := s.afterColumn.composer
      ring := s.afterColumn.ring
      counters := s.afterColumn.counters } := by
  unfold State.afterColumn
  split
  · rfl
  · split <;> rfl

/-- What the work on the sheet leaves. -/
theorem State.endForm_eq (s : State) (f : FormEndMark) {x : Entry} {rest : List Entry} (hx : s.queue = x :: rest) :
    s.endForm f = { s with
      queue := rest
      composer := (s.endForm f).composer
      ring := (s.endForm f).ring
      counters := (s.endForm f).counters } := by
  have hrest : s.queue.tail = rest := by rw [hx, List.tail_cons]
  rw [← hrest]
  unfold State.endForm
  rw [State.afterColumn_eq, State.closeColumn_eq]
  rfl

/-- R120: what FORM_END leaves of the state in which it began. -/
theorem State.SheetOnly.endForm_eq {s t : State} (h : s.SheetOnly t) (f : FormEndMark) {x : Entry} {rest : List Entry}
    (hx : s.queue = x :: rest) :
    t.endForm f = { s with
      queue := rest
      composer := (t.endForm f).composer
      ring := (t.endForm f).ring
      counters := (t.endForm f).counters } := by
  refine (t.endForm_eq f (h.queue.trans hx)).trans ?_
  generalize t.endForm f = u
  rw [h.eq]

/-- R106: what a closing counts depends on the counters alone. -/
theorem State.countFits_counters_congr {s t : State} (h : t.counters = s.counters) (ls : List Line) :
    (t.countFits ls).counters = (s.countFits ls).counters := by
  simp only [State.countFits, State.count, h]

theorem State.count_counters_congr {s t : State} (h : t.counters = s.counters) (c : Counter) (n : Nat) :
    (t.count c n).counters = (s.count c n).counters := by
  simp only [State.count, h]

theorem State.SheetOnly.counters {s t : State} (h : s.SheetOnly t) : t.counters = s.counters := by rw [h.eq]

/-- R120: the column closed, the next one is current. -/
theorem State.endForm_of_more (s : State) (f : FormEndMark) (c : Column) (closed : Sheet)
    (hc : (s.bind f.form f.length f.pitch).currentColumn = some c)
    (ha : assemblingSheet ((s.bind f.form f.length f.pitch).modColumn fun x => { x with closed := true }).ring =
      some closed) (hne : s.composer.column ≠ closed.plan.gang) :
    (s.endForm f).composer = { s.composer with column := s.composer.column + 1 } ∧
      (s.endForm f).ring = ((s.bind f.form f.length f.pitch).modColumn fun x => { x with closed := true }).ring ∧
      (s.endForm f).counters = (s.countFits c.lines).counters := by
  unfold State.endForm
  rw [State.closeColumn_of_current _ c hc,
    State.afterColumn_of_more (((s.bind f.form f.length f.pitch).countFits c.lines).modColumn _) closed ha hne]
  exact ⟨rfl, rfl, rfl⟩

/-- R120, R121: the last column closed, the sheet is committed. -/
theorem State.endForm_of_last (s : State) (f : FormEndMark) (c : Column) (closed : Sheet)
    (hc : (s.bind f.form f.length f.pitch).currentColumn = some c)
    (ha : assemblingSheet ((s.bind f.form f.length f.pitch).modColumn fun x => { x with closed := true }).ring =
      some closed) (heq : s.composer.column = closed.plan.gang) :
    (s.endForm f).composer = { s.composer with column := 1 } ∧
      (s.endForm f).ring =
        mapSlots commitSlot ((s.bind f.form f.length f.pitch).modColumn fun x => { x with closed := true }).ring ∧
      (s.endForm f).counters =
        (((s.countFits c.lines).countFits closed.openLines).count .sheetsCommitted 1).counters := by
  unfold State.endForm
  rw [State.closeColumn_of_current _ c hc,
    State.afterColumn_of_last (((s.bind f.form f.length f.pitch).countFits c.lines).modColumn _) closed ha heq]
  exact ⟨rfl, rfl, rfl⟩

/-- Settles O37: the record of a commitment, the counts and the lines not yet counted by their lemmas above, and FORM_END
by the work on the sheet that is assembling or opened for it, before and at the last column. -/
theorem formEndClosesTheColumn : Obligations.FormEndClosesTheColumn := by
  unfold Obligations.FormEndClosesTheColumn
  refine ⟨commitSlot_of_not_assembling, fun sh => ⟨sh.finish, commitSlot_of_assembling sh, rfl,
      sh.finish_seqFault_iff, ?_, ?_⟩,
    fun s ls => ⟨s.countFits_eq ls, ?_, ?_, fun k hsq hov => ?_⟩, Sheet.openLines_eq,
    fun s s0 s1 f rest sh closed c hq hx hr hs0 hs1 hsh hc hclosed => ?_⟩
  · rintro keys rfl
    have hguided := sh.finish_guided
    have hkeys : sh.finish.displayKeys = sh.displayKeys := congrArg (List.filterMap _) sh.finish_lines
    rw [Sheet.guided, hkeys] at hguided
    exact hguided
  · refine List.flatMap_congr fun c _ => ?_
    cases hb : c.binding with
    | none => exact columnMarks_of_unbound _ c hb
    | some b =>
      rw [columnMarks_of_bound _ c b hb]
      exact List.flatMap_congr fun l _ => lineMarks_eq _ _ l
  · rw [State.countFits_counter, if_pos rfl]
  · rw [State.countFits_counter, if_neg (by decide), if_pos rfl]
  · rw [State.countFits_counter, if_neg hsq, if_neg hov]
  · have hsheet : s.SheetOnly s0 := hs0 ▸ s.sheetOnly_of_opening
    have hplan : closed.plan = sh.plan := s1.modColumn_plan _ sh closed hsh hclosed
    have hcounts : (s0.countFits c.lines).counters = (s.countFits c.lines).counters :=
      State.countFits_counters_congr hsheet.counters _
    rw [hs1] at hc hclosed ⊢
    refine ⟨s.settleNotices (s0.endForm f), ?_, s.settleNotices_of_eq (hsheet.endForm_eq f hx), fun hne => ?_,
      fun heq => ?_⟩
    · rw [hs0, formEnd_closes s f rest hq hx hr]
    · obtain ⟨hcomposer, hring, hcounters⟩ := s0.endForm_of_more f c closed hc hclosed (hplan ▸ hne)
      exact ⟨hcomposer, hring, hcounters.trans hcounts⟩
    · obtain ⟨hcomposer, hring, hcounters⟩ := s0.endForm_of_last f c closed hc hclosed (hplan ▸ heq)
      refine ⟨hcomposer, hring, ?_, ?_⟩
      · rw [State.settleNotices_ring, hring, assemblingSheet_commit]
      · exact hcounters.trans
          (State.count_counters_congr (State.countFits_counters_congr hcounts _) _ _)

end Sys2Proof.Machine
end

section
/-! PROOFS. Two laws that every move of the ring keeps: its six slots with at most one ASSEMBLING, and the run of sequence
numbers. -/

namespace Sys2Proof.Machine

/-! ### The ASSEMBLING slots (R108, R112, R130) -/

theorem assemblingCount_cons_none (r : Ring) : assemblingCount (none :: r) = assemblingCount r := rfl

theorem assemblingCount_cons_some (x : Occupied) (r : Ring) :
    assemblingCount (some x :: r) = assemblingCount r + if x.phase = .assembling then 1 else 0 := by
  simp [assemblingCount, slotsIn, List.countP_cons]

theorem assemblingCount_eq_zero_iff (r : Ring) : assemblingCount r = 0 ↔ assemblingSheet r = none := by
  rw [assemblingSheet_eq_none_iff, assemblingCount, slotsIn, List.countP_eq_zero]
  constructor
  · intro h x hx ha
    exact h (some x) hx (by simp [ha])
  · rintro h (_ | x) hx
    · exact Bool.false_ne_true
    · simpa using h x hx

/-- R111: an opening makes one more slot ASSEMBLING. -/
theorem assemblingCount_fillFirst (sh : Sheet) : ∀ r : Ring, none ∈ r →
    assemblingCount (fillFirst ⟨.assembling, sh⟩ r) = assemblingCount r + 1
  | none :: r, _ => by
    rw [fillFirst, assemblingCount_cons_some, if_pos rfl, assemblingCount_cons_none]
  | some x :: r, h => by
    have hr : none ∈ r := by simpa using h
    rw [fillFirst, assemblingCount_cons_some, assemblingCount_cons_some, assemblingCount_fillFirst sh r hr]
    omega

/-- A change of the slots that makes none ASSEMBLING and lets none be so no longer. -/
theorem assemblingCount_mapSlots (f : Occupied → Occupied) (hf : ∀ x, (f x).phase = .assembling ↔ x.phase = .assembling) :
    ∀ r : Ring, assemblingCount (mapSlots f r) = assemblingCount r
  | [] => rfl
  | none :: r => assemblingCount_mapSlots f hf r
  | some x :: r => by
    have hcons : mapSlots f (some x :: r) = some (f x) :: mapSlots f r := rfl
    rw [hcons, assemblingCount_cons_some, assemblingCount_cons_some, assemblingCount_mapSlots f hf r]
    simp only [hf x]

/-- R135: freeing slots makes none ASSEMBLING. -/
theorem assemblingCount_dropSheet_le (q : Word16) : ∀ r : Ring, assemblingCount (dropSheet q r) ≤ assemblingCount r
  | [] => Nat.le_refl 0
  | none :: r => assemblingCount_dropSheet_le q r
  | some x :: r => by
    have hcons : dropSheet q (some x :: r) = (if x.sheet.seq = q then none else some x) :: dropSheet q r := rfl
    have ih := assemblingCount_dropSheet_le q r
    rw [hcons, assemblingCount_cons_some]
    split
    · rw [assemblingCount_cons_none]
      omega
    · rw [assemblingCount_cons_some]
      omega

theorem onAssembling_phase (g : Sheet → Sheet) (x : Occupied) : (onAssembling g x).phase = x.phase := by
  unfold onAssembling
  split <;> rfl

theorem Occupied.PassesTo.phase_iff {o x : Occupied} (h : o.PassesTo x) :
    x.phase = .assembling ↔ o.phase = .assembling := by
  rcases h with rfl | ⟨ho, hx, -⟩
  · rfl
  · exact iff_of_false hx ho

/-- Every move of the ring keeps its six slots, with at most one ASSEMBLING and none while the composer waits. -/
theorem State.RingMove.ringSound (s t : State) (hs : s.ringSound) (h : s.RingMove t) : t.ringSound := by
  obtain ⟨hlength, hone, hwaits⟩ := hs
  cases h with
  | kept h =>
    rw [State.ringSound, h.ring, h.composer]
    exact ⟨hlength, hone, hwaits⟩
  | wait ha hf => exact ⟨hlength, hone, fun _ => (assemblingCount_eq_zero_iff _).mpr ha⟩
  | opening hf ha =>
    have hzero : assemblingCount s.ring = 0 := ha.elim (assemblingCount_eq_zero_iff _).mpr hwaits
    have hopened := assemblingCount_fillFirst s.composer.freshSheet s.ring ((ringHasFree_iff _).mp hf)
    refine ⟨(fillFirst_length _ _).trans hlength, ?_, fun hw => nomatch hw⟩
    rw [State.openSheet_ring, hopened, hzero]
  | column f hf =>
    have hcount := assemblingCount_mapSlots _ (fun x => by rw [onAssembling_phase
      (fun sh => { sh with columns := sh.columns.modify (s.composer.column - 1) f }) x]) s.ring
    exact ⟨(mapSlots_length _ _).trans hlength, hcount.trans_le hone, fun hw => hcount.trans (hwaits hw)⟩
  | nextColumn => exact ⟨hlength, hone, hwaits⟩
  | commit =>
    have hzero := (assemblingCount_eq_zero_iff _).mpr (assemblingSheet_commit s.ring)
    exact ⟨(mapSlots_length _ _).trans hlength, hzero.trans_le (Nat.zero_le 1), fun _ => hzero⟩
  | plan p ha => exact ⟨hlength, hone, hwaits⟩
  | slots f hf =>
    have hcount := assemblingCount_mapSlots f (fun x => (hf x).phase_iff) s.ring
    exact ⟨(mapSlots_length _ _).trans hlength, hcount.trans_le hone, fun hw => hcount.trans (hwaits hw)⟩
  | free o ho hf =>
    have hle := assemblingCount_dropSheet_le o.sheet.seq s.ring
    exact ⟨(dropSheet_length _ _).trans hlength, hle.trans hone,
      fun hw => Nat.le_zero.mp (hle.trans (hwaits hw).le)⟩
  | softReset => exact ⟨rfl, Nat.zero_le 1, fun _ => rfl⟩
  | hardwareReset straps => exact State.atReset_ringSound straps

/-- Settles O55: every step is a series of moves of the ring, each of which keeps the law. -/
theorem atMostOneSheetAssembles : Obligations.AtMostOneSheetAssembles := by
  unfold Obligations.AtMostOneSheetAssembles
  exact fun s t hs hx => (step_ringMoves s t hx).keeps State.RingMove.ringSound hs

/-! ### The sequence numbers in the ring (R113, R133) -/

/-- The sequence numbers of the sheets in the ring, in the order of the slots. -/
def seqsOf (r : Ring) : List Word16 := (sheetsOf r).map fun x => x.seq

theorem seqsOf_cons_none (r : Ring) : seqsOf (none :: r) = seqsOf r := rfl

theorem seqsOf_cons_some (x : Occupied) (r : Ring) : seqsOf (some x :: r) = x.sheet.seq :: seqsOf r := rfl

theorem mem_sheetsOf (r : Ring) (sh : Sheet) : sh ∈ sheetsOf r ↔ ∃ x, some x ∈ r ∧ x.sheet = sh := by
  simp only [sheetsOf, List.mem_filterMap, Option.map_eq_some_iff]
  constructor
  · rintro ⟨_, ho, x, rfl, hx⟩
    exact ⟨x, ho, hx⟩
  · rintro ⟨x, hx, rfl⟩
    exact ⟨some x, hx, x, rfl, rfl⟩

theorem mem_seqsOf (r : Ring) (q : Word16) : q ∈ seqsOf r ↔ ∃ x, some x ∈ r ∧ x.sheet.seq = q := by
  simp only [seqsOf, List.mem_map, mem_sheetsOf]
  constructor
  · rintro ⟨_, ⟨x, hx, rfl⟩, hq⟩
    exact ⟨x, hx, hq⟩
  · rintro ⟨x, hx, rfl⟩
    exact ⟨_, ⟨x, hx, rfl⟩, rfl⟩

theorem sheetsIn_eq_length : ∀ r : Ring, sheetsIn r = (seqsOf r).length
  | [] => rfl
  | none :: r => (List.countP_cons_of_neg Bool.false_ne_true).trans (sheetsIn_eq_length r)
  | some x :: r => by
    rw [seqsOf_cons_some, List.length_cons, ← sheetsIn_eq_length r]
    exact List.countP_cons_of_pos rfl

theorem seqsOf_length_le (r : Ring) : (seqsOf r).length ≤ r.length := by
  rw [seqsOf, List.length_map]
  exact List.length_filterMap_le _ r

theorem seqsOf_mapSlots (f : Occupied → Occupied) (hf : ∀ x, (f x).sheet.seq = x.sheet.seq) :
    ∀ r : Ring, seqsOf (mapSlots f r) = seqsOf r
  | [] => rfl
  | none :: r => seqsOf_mapSlots f hf r
  | some x :: r => congrArg₂ List.cons (hf x) (seqsOf_mapSlots f hf r)

theorem seqsOf_fillFirst (o : Occupied) : ∀ r : Ring, none ∈ r → (seqsOf (fillFirst o r)).Perm (o.sheet.seq :: seqsOf r)
  | none :: r, _ => .refl _
  | some x :: r, h => by
    have hr : none ∈ r := by simpa using h
    exact ((seqsOf_fillFirst o r hr).cons _).trans (.swap _ _ _)

theorem seqsOf_dropSheet (q : Word16) : ∀ r : Ring, seqsOf (dropSheet q r) = (seqsOf r).filter fun p => p != q
  | [] => rfl
  | none :: r => seqsOf_dropSheet q r
  | some x :: r => by
    have hcons : dropSheet q (some x :: r) = (if x.sheet.seq = q then none else some x) :: dropSheet q r := rfl
    rw [hcons, seqsOf_cons_some]
    split
    · next h => rw [seqsOf_cons_none, seqsOf_dropSheet q r, List.filter_cons_of_neg (by simp [h])]
    · next h => rw [seqsOf_cons_some, seqsOf_dropSheet q r, List.filter_cons_of_pos (by simp [h])]

/-! ### The run (R133) -/

/-- The age of a sequence number below the next one. -/
def ageBelow (next q : Word16) : Nat := (next - q).toNat

theorem State.age_eq (s : State) (q : Word16) : s.age q = ageBelow s.composer.nextSeq q := rfl

theorem ageBelow_inj {next p q : Word16} (h : ageBelow next p = ageBelow next q) : p = q := by
  unfold ageBelow at h
  bv_omega

/-- R113: an opening makes every sheet older by one. -/
theorem ageBelow_succ (next q : Word16) (h : ageBelow next q ≤ 6) : ageBelow (next + 1) q = ageBelow next q + 1 := by
  unfold ageBelow at *
  bv_omega

theorem ageBelow_newest (next : Word16) : ageBelow (next + 1) next = 1 := by
  unfold ageBelow
  bv_omega

/-- R133: the numbers are distinct and form one run that ends just below `next`. -/
def RunBelow (next : Word16) (qs : List Word16) : Prop :=
  qs.Nodup ∧ ∀ q ∈ qs, 1 ≤ ageBelow next q ∧ ageBelow next q ≤ qs.length

theorem State.runSound_iff (s : State) : s.runSound ↔ RunBelow s.composer.nextSeq (seqsOf s.ring) := by
  have hages : (sheetsOf s.ring).map (fun x => s.age x.seq) = (seqsOf s.ring).map s.age := by simp [seqsOf]
  have hinj : Function.Injective s.age := fun _ _ => ageBelow_inj
  rw [State.runSound, hages, sheetsIn_eq_length, RunBelow, List.nodup_map_iff hinj]
  simp only [seqsOf, List.forall_mem_map, State.age_eq]

theorem RunBelow.perm {next : Word16} {qs ps : List Word16} (h : RunBelow next qs) (hp : ps.Perm qs) :
    RunBelow next ps := by
  obtain ⟨hnodup, hages⟩ := h
  refine ⟨hp.nodup_iff.mpr hnodup, fun q hq => ?_⟩
  rw [hp.length_eq]
  exact hages q (hp.mem_iff.mp hq)

/-- R113: a run grows at its newest end. -/
theorem RunBelow.grow {next : Word16} {qs : List Word16} (h : RunBelow next qs) (hl : qs.length ≤ 6) :
    RunBelow (next + 1) (next :: qs) := by
  obtain ⟨hnodup, hages⟩ := h
  have hnew : next ∉ qs := fun hq => by
    have hzero : ageBelow next next = 0 := by simp [ageBelow]
    have := (hages next hq).1
    omega
  refine ⟨List.nodup_cons.mpr ⟨hnew, hnodup⟩, fun q hq => ?_⟩
  rw [List.length_cons]
  rcases List.mem_cons.mp hq with rfl | hq
  · rw [ageBelow_newest]
    omega
  · obtain ⟨hlow, hhigh⟩ := hages q hq
    rw [ageBelow_succ next q (hhigh.trans hl)]
    omega

/-- R135: a run shrinks at its oldest end. -/
theorem RunBelow.dropOldest {next : Word16} {qs : List Word16} (h : RunBelow next qs) {q : Word16} (hq : q ∈ qs)
    (hold : ∀ p ∈ qs, ageBelow next p ≤ ageBelow next q) : RunBelow next (qs.filter fun p => p != q) := by
  obtain ⟨hnodup, hages⟩ := h
  rw [← hnodup.erase_eq_filter]
  refine ⟨hnodup.erase q, fun p hp => ?_⟩
  obtain ⟨hne, hp⟩ := hnodup.mem_erase_iff.mp hp
  have hlt : ageBelow next p < ageBelow next q :=
    lt_of_le_of_ne (hold p hp) fun h => hne (ageBelow_inj h)
  have hq := (hages q hq).2
  have hp := (hages p hp).1
  rw [List.length_erase_of_mem ‹q ∈ qs›]
  omega

theorem onAssembling_columns_seq (g : Nat) (f : Column → Column) (x : Occupied) :
    (onAssembling (fun sh => { sh with columns := sh.columns.modify g f }) x).sheet.seq = x.sheet.seq := by
  unfold onAssembling
  split <;> rfl

theorem commitSlot_seq (x : Occupied) : (commitSlot x).sheet.seq = x.sheet.seq := by
  unfold commitSlot
  split <;> rfl

theorem Occupied.PassesTo.seq {o x : Occupied} (h : o.PassesTo x) : x.sheet.seq = o.sheet.seq := by
  rcases h with rfl | ⟨-, -, hs⟩
  · rfl
  · rw [hs]

/-- Every move of the ring keeps its six slots and the run. -/
theorem State.RingMove.runSound (s t : State) (hs : s.ringSound ∧ s.runSound) (h : s.RingMove t) :
    t.ringSound ∧ t.runSound := by
  refine ⟨h.ringSound s t hs.1, ?_⟩
  obtain ⟨⟨hlength, -, -⟩, hrun⟩ := hs
  rw [State.runSound_iff] at hrun ⊢
  cases h with
  | kept h =>
    rw [h.ring, h.composer]
    exact hrun
  | wait ha hf => exact hrun
  | opening hf ha =>
    have hsix := (seqsOf_length_le s.ring).trans hlength.le
    exact (hrun.grow hsix).perm (seqsOf_fillFirst _ _ ((ringHasFree_iff _).mp hf))
  | column f hf => exact (seqsOf_mapSlots _ (onAssembling_columns_seq _ f) s.ring).symm ▸ hrun
  | nextColumn => exact hrun
  | commit => exact (seqsOf_mapSlots _ commitSlot_seq s.ring).symm ▸ hrun
  | plan p ha => exact hrun
  | slots f hf => exact (seqsOf_mapSlots f (fun x => (hf x).seq) s.ring).symm ▸ hrun
  | free o ho hf =>
    obtain ⟨hmem, -, hold⟩ := oldestOf_spec _ _ _ _ ho
    refine seqsOf_dropSheet o.sheet.seq s.ring ▸ hrun.dropOldest ((mem_seqsOf _ _).mpr ⟨o, hmem, rfl⟩) fun p hp => ?_
    obtain ⟨x, hx, rfl⟩ := (mem_seqsOf _ _).mp hp
    exact hold x hx rfl
  | softReset => exact ⟨List.nodup_nil, fun q hq => nomatch hq⟩
  | hardwareReset straps => exact ⟨List.nodup_nil, fun q hq => nomatch hq⟩

end Sys2Proof.Machine
end

section
/-! PROOFS. The releases of a STACKED or a JAM: which slots are FINISHED and which are freed, and the composer that waits. -/

namespace Sys2Proof.Machine

/-! ### Slots of distinct numbers (R133) -/

theorem mem_dropSheet (q : Word16) (r : Ring) (x : Occupied) : some x ∈ dropSheet q r ↔ some x ∈ r ∧ x.sheet.seq ≠ q := by
  constructor
  · intro h
    obtain ⟨o, ho, hx⟩ := List.mem_map.mp h
    cases o with
    | none => cases hx
    | some y =>
      simp only at hx
      split at hx
      · cases hx
      · next hne =>
        obtain rfl := Option.some.inj hx
        exact ⟨ho, hne⟩
  · rintro ⟨hx, hne⟩
    exact List.mem_map.mpr ⟨some x, hx, if_neg hne⟩

theorem none_mem_dropSheet (q : Word16) (r : Ring) :
    none ∈ dropSheet q r ↔ none ∈ r ∨ ∃ x, some x ∈ r ∧ x.sheet.seq = q := by
  constructor
  · intro h
    obtain ⟨o, ho, hx⟩ := List.mem_map.mp h
    cases o with
    | none => exact .inl ho
    | some y =>
      simp only at hx
      split at hx
      · next hq => exact .inr ⟨y, ho, hq⟩
      · cases hx
  · rintro (h | ⟨x, hx, hq⟩)
    · exact List.mem_map.mpr ⟨none, h, rfl⟩
    · exact List.mem_map.mpr ⟨some x, hx, if_pos hq⟩

theorem none_mem_mapSlots (f : Occupied → Occupied) (r : Ring) : none ∈ mapSlots f r ↔ none ∈ r := by
  simp [mapSlots]

theorem mem_fillFirst {o x : Occupied} : ∀ {r : Ring}, none ∈ r → (some x ∈ fillFirst o r ↔ x = o ∨ some x ∈ r)
  | none :: r, _ => by simp [fillFirst]
  | some y :: r, h => by
    have hr : none ∈ r := by simpa using h
    rw [fillFirst, List.mem_cons, mem_fillFirst hr, List.mem_cons, or_left_comm]

theorem none_mem_of_fillFirst {o : Occupied} : ∀ {r : Ring}, none ∈ fillFirst o r → none ∈ r
  | none :: _, _ => List.mem_cons_self
  | some x :: r, h => by
    rw [fillFirst, List.mem_cons] at h
    exact List.mem_cons_of_mem _ (none_mem_of_fillFirst (h.resolve_left fun h => nomatch h))

/-- R133: distinct numbers tell the slots apart. -/
theorem eq_of_seq_eq {r : Ring} (h : (seqsOf r).Nodup) {x y : Occupied} (hx : some x ∈ r) (hy : some y ∈ r)
    (hq : x.sheet.seq = y.sheet.seq) : x = y := by
  induction r with
  | nil => cases hx
  | cons o r ih =>
    cases o with
    | none => exact ih h (by simpa using hx) (by simpa using hy)
    | some z =>
      rw [seqsOf_cons_some, List.nodup_cons] at h
      obtain ⟨hz, hr⟩ := h
      have hout : ∀ w, some w ∈ r → w.sheet.seq ≠ z.sheet.seq := fun w hw he => hz ((mem_seqsOf _ _).mpr ⟨w, hw, he⟩)
      rcases List.mem_cons.mp hx with hx | hx <;> rcases List.mem_cons.mp hy with hy | hy
      · exact Option.some.inj (hx.trans hy.symm)
      · exact absurd (Option.some.inj hx ▸ hq.symm) (hout y hy)
      · exact absurd (Option.some.inj hy ▸ hq) (hout x hx)
      · exact ih hr hx hy

/-! ### The slots freed (R135) -/

/-- R135: a sheet stands while it or an older one is not FINISHED. -/
theorem mem_freeFinished {age : Word16 → Nat} (hage : Function.Injective age) (z : Occupied) :
    ∀ (n : Nat) (r : Ring), (seqsOf r).Nodup → (seqsOf r).length ≤ n →
      (some z ∈ freeFinished age n r ↔
        some z ∈ r ∧ ∃ y, some y ∈ r ∧ age z.sheet.seq ≤ age y.sheet.seq ∧ y.phase.isFinished = false)
  | 0, r, _, hl => by
    have hempty : ∀ x, some x ∉ r := fun x hx =>
      List.not_mem_nil ((List.length_eq_zero_iff.mp (Nat.le_zero.mp hl)) ▸ (mem_seqsOf r _).mpr ⟨x, hx, rfl⟩)
    exact iff_of_false (hempty z) fun h => hempty z h.1
  | n + 1, r, hd, hl => by
    simp only [freeFinished]
    split
    · next hnone =>
      have hempty : ∀ x, some x ∉ r := fun x hx => oldestOf_spec.oldestOf_none _ _ r hnone x hx rfl
      exact iff_of_false (hempty z) fun h => hempty z h.1
    · next o ho =>
      obtain ⟨hmem, -, hold⟩ := oldestOf_spec _ _ _ _ ho
      split
      · next hf =>
        have hq : o.sheet.seq ∈ seqsOf r := (mem_seqsOf _ _).mpr ⟨o, hmem, rfl⟩
        have hdrop := hd.erase_eq_filter o.sheet.seq
        have hlength : (seqsOf (dropSheet o.sheet.seq r)).length ≤ n := by
          rw [seqsOf_dropSheet, ← hdrop, List.length_erase_of_mem hq]
          omega
        have hnodup : (seqsOf (dropSheet o.sheet.seq r)).Nodup := by
          rw [seqsOf_dropSheet]
          exact hd.filter _
        rw [mem_freeFinished hage z n _ hnodup hlength]
        have hstands : ∀ y, some y ∈ r → y.phase.isFinished = false → y.sheet.seq ≠ o.sheet.seq := fun y hy hn he => by
          obtain rfl := eq_of_seq_eq hd hy hmem he
          rw [hf] at hn
          cases hn
        constructor
        · rintro ⟨hz, y, hy, hle, hn⟩
          exact ⟨((mem_dropSheet _ _ _).mp hz).1, y, ((mem_dropSheet _ _ _).mp hy).1, hle, hn⟩
        · rintro ⟨hz, y, hy, hle, hn⟩
          refine ⟨(mem_dropSheet _ _ _).mpr ⟨hz, fun he => ?_⟩, y, (mem_dropSheet _ _ _).mpr ⟨hy, hstands y hy hn⟩, hle, hn⟩
          rw [he] at hle
          exact hstands y hy hn (hage (le_antisymm (hold y hy rfl) hle))
      · next hf => exact ⟨fun hz => ⟨hz, o, hmem, hold z hz rfl, by simpa using hf⟩, fun h => h.1⟩

/-- R135: a slot is FREE that was so before, or that a sheet left. -/
theorem none_mem_freeFinished (age : Word16 → Nat) : ∀ (n : Nat) (r : Ring),
    (none ∈ freeFinished age n r ↔ none ∈ r ∨ ∃ x, some x ∈ r ∧ some x ∉ freeFinished age n r)
  | 0, r => by simp [freeFinished]
  | n + 1, r => by
    simp only [freeFinished]
    split
    · simp
    · next o ho =>
      obtain ⟨hmem, -, -⟩ := oldestOf_spec _ _ _ _ ho
      split
      · rw [none_mem_freeFinished age n]
        have hgone : some o ∉ freeFinished age n (dropSheet o.sheet.seq r) := fun h =>
          ((mem_dropSheet _ _ _).mp (mem_of_mem_freeFinished n _ h)).2 rfl
        have hfree : none ∈ dropSheet o.sheet.seq r := (none_mem_dropSheet _ _).mpr (.inr ⟨o, hmem, rfl⟩)
        exact iff_of_true (.inl hfree) (.inr ⟨o, hmem, hgone⟩)
      · simp
where
  /-- No sheet comes into the ring. -/
  mem_of_mem_freeFinished {age : Word16 → Nat} {z : Occupied} : ∀ (n : Nat) (r : Ring),
      some z ∈ freeFinished age n r → some z ∈ r
    | 0, _, h => h
    | n + 1, r, h => by
      simp only [freeFinished] at h
      split at h
      · exact h
      · split at h
        · exact ((mem_dropSheet _ _ _).mp (mem_of_mem_freeFinished n _ h)).1
        · exact h

/-! ### One release (R134) -/

/-- R134: the slot once the sheets of these numbers in flight on the engine are released. -/
def finishCovered (e : Engine) (covered : List Word16) (x : Occupied) : Occupied :=
  if x.sheet.seq ∈ covered ∧ x.phase.inFlightOn e = true then ⟨.finished e, x.sheet⟩ else x

@[simp] theorem finishCovered_sheet (e : Engine) (covered : List Word16) (x : Occupied) :
    (finishCovered e covered x).sheet = x.sheet := by
  unfold finishCovered
  split <;> rfl

@[simp] theorem finishCovered_nil (e : Engine) (x : Occupied) : finishCovered e [] x = x :=
  if_neg fun h => List.not_mem_nil h.1

/-- R134: the release of one more sheet. -/
theorem finishSlot_finishCovered (e : Engine) (covered : List Word16) (q : Word16) (x : Occupied) :
    finishSlot e q (finishCovered e covered x) = finishCovered e (covered ++ [q]) x := by
  have hfinished : (SlotPhase.finished e).inFlightOn e = false := rfl
  unfold finishCovered finishSlot
  by_cases hflight : x.phase.inFlightOn e = true
  · by_cases hcov : x.sheet.seq ∈ covered
    · simp [hcov, hflight, hfinished]
    · simp [hcov, hflight]
  · simp [hflight]

theorem finishCovered_isFinished_mono (e : Engine) (covered : List Word16) (q : Word16) (x : Occupied)
    (h : (finishCovered e (covered ++ [q]) x).phase.isFinished = false) :
    (finishCovered e covered x).phase.isFinished = false := by
  rw [← finishSlot_finishCovered, finishSlot] at h
  split at h
  · cases h
  · exact h

/-- R134, R135: of these releases, some older sheet or the sheet itself still stands in the way of its slot. -/
def State.standsAfter (s : State) (e : Engine) (covered : List Word16) (x : Occupied) : Prop :=
  ∃ y, some y ∈ s.ring ∧ s.age x.sheet.seq ≤ s.age y.sheet.seq ∧ (finishCovered e covered y).phase.isFinished = false

/-- R134, R135: the ring once a sheet has been released and the slots at the old end of the run freed. -/
def State.freedRing (s : State) (e : Engine) (q : Word16) : Ring :=
  freeFinished s.age Config.ringSlots (mapSlots (finishSlot e q) s.ring)

/-- R112, R135: a release wakes a composer that waits when a slot is FREE after it. -/
def State.wakes (s : State) (e : Engine) (q : Word16) : Bool := s.composer.waiting && ringHasFree (s.freedRing e q)

/-- R112: what waking the composer writes. -/
theorem State.wakeComposer_eq (s : State) :
    s.wakeComposer = { s with
      ring := if s.composer.waiting && ringHasFree s.ring then fillFirst ⟨.assembling, s.composer.freshSheet⟩ s.ring
        else s.ring
      composer := if s.composer.waiting && ringHasFree s.ring then s.composer.afterOpening else s.composer } := by
  unfold State.wakeComposer
  split
  · rw [s.openSheet_eq, State.openSheet_ring]
  · rfl

/-- R134, R135, R174: what a release writes. -/
theorem State.release_eq (s : State) (e : Engine) (q : Word16) :
    s.release e q = { s with
      linkA := (s.modLink e (Link.release s.settings q)).linkA
      linkB := (s.modLink e (Link.release s.settings q)).linkB
      ring := if s.wakes e q then fillFirst ⟨.assembling, s.composer.freshSheet⟩ (s.freedRing e q) else s.freedRing e q
      composer := if s.wakes e q then s.composer.afterOpening else s.composer
      counters := (s.count (stackedCounter e) 1).counters } := by
  unfold State.release
  simp only
  rw [State.wakeComposer_eq]
  cases e <;> rfl

end Sys2Proof.Machine
end

section
/-! PROOFS. A series of releases: the slots that stand after it, and the one opening it may bring. -/

namespace Sys2Proof.Machine

/-! ### Ages along a series of releases (R113, R133) -/

theorem State.age_bounds {s : State} (hs : s.ringSound ∧ s.runSound) {x : Occupied} (hx : some x ∈ s.ring) :
    1 ≤ s.age x.sheet.seq ∧ s.age x.sheet.seq ≤ 6 := by
  obtain ⟨⟨hlength, -, -⟩, hrun⟩ := hs
  obtain ⟨-, hages⟩ := s.runSound_iff.mp hrun
  obtain ⟨hlow, hhigh⟩ := hages _ ((mem_seqsOf _ _).mpr ⟨x, hx, rfl⟩)
  exact ⟨hlow, hhigh.trans ((seqsOf_length_le _).trans hlength.le)⟩

theorem State.seqsOf_nodup {s : State} (hs : s.ringSound ∧ s.runSound) : (seqsOf s.ring).Nodup :=
  (s.runSound_iff.mp hs.2).1

/-- R133: no sheet in the ring has the next number. -/
theorem State.seq_ne_nextSeq {s : State} (hs : s.ringSound ∧ s.runSound) {x : Occupied} (hx : some x ∈ s.ring) :
    x.sheet.seq ≠ s.composer.nextSeq := fun hseq => by
  have hlow := (State.age_bounds hs hx).1
  have hzero : s.age s.composer.nextSeq = 0 := by simp [State.age]
  rw [hseq, hzero] at hlow
  exact absurd hlow (by decide)

theorem State.standsAfter_mono {s : State} {e : Engine} {covered : List Word16} {q : Word16} {x : Occupied}
    (h : s.standsAfter e (covered ++ [q]) x) : s.standsAfter e covered x := by
  obtain ⟨y, hy, hle, hn⟩ := h
  exact ⟨y, hy, hle, finishCovered_isFinished_mono e covered q y hn⟩

/-- R135, R112: some slot is FREE once these sheets are released, were no sheet opened. -/
def State.leavesGap (s : State) (e : Engine) (covered : List Word16) : Prop :=
  none ∈ s.ring ∨ ∃ x, some x ∈ s.ring ∧ ¬s.standsAfter e covered x

theorem State.leavesGap_mono {s : State} {e : Engine} {covered : List Word16} (q : Word16)
    (h : s.leavesGap e covered) : s.leavesGap e (covered ++ [q]) :=
  h.imp_right fun ⟨x, hx, hn⟩ => ⟨x, hx, fun hs => hn (State.standsAfter_mono hs)⟩

/-- The sheet a waiting composer opens, in its slot. -/
abbrev State.openedSlot (s : State) : Occupied := ⟨.assembling, s.composer.freshSheet⟩

/-- `u` is `s` part of the way through a series of releases: these sheets are FINISHED, and no slot is freed but what may
be; `woken` says that the composer has opened its sheet. -/
structure State.Releasing (s : State) (e : Engine) (covered : List Word16) (woken : Bool) (u : State) : Prop where
  sound : u.ringSound ∧ u.runSound
  composer : u.composer = if woken then s.composer.afterOpening else s.composer
  waited : woken = true → s.composer.waiting = true
  found : ∀ z, some z ∈ u.ring →
    (∃ x, some x ∈ s.ring ∧ z = finishCovered e covered x) ∨ woken = true ∧ z = s.openedSlot
  kept : ∀ x, some x ∈ s.ring → s.standsAfter e covered x → some (finishCovered e covered x) ∈ u.ring
  opened : woken = true → some s.openedSlot ∈ u.ring
  gap : woken = false → none ∈ s.ring ∨ (∃ x, some x ∈ s.ring ∧ some (finishCovered e covered x) ∉ u.ring) →
    none ∈ u.ring
  freed : woken = true ∨ none ∈ u.ring → s.leavesGap e covered

/-- After a release every slot that may be freed is, and the composer has opened its sheet if a slot was FREE. -/
structure State.Released (s : State) (e : Engine) (covered : List Word16) (woken : Bool) (u : State) : Prop
    extends s.Releasing e covered woken u where
  stands : ∀ x, some x ∈ s.ring → some (finishCovered e covered x) ∈ u.ring → s.standsAfter e covered x
  wakes : s.composer.waiting = true → s.leavesGap e covered → woken = true

theorem State.Releasing.start {s : State} (hs : s.ringSound ∧ s.runSound) (e : Engine) : s.Releasing e [] false s where
  sound := hs
  composer := rfl
  waited := fun h => nomatch h
  found := fun z hz => .inl ⟨z, hz, (finishCovered_nil e z).symm⟩
  kept := fun x hx _ => by rwa [finishCovered_nil]
  opened := fun h => nomatch h
  gap := fun _ h => h.elim id fun ⟨x, hx, hn⟩ => absurd (by rwa [finishCovered_nil]) hn
  freed := fun h => .inl (h.resolve_left Bool.false_ne_true)

section
variable {s u : State} {e : Engine} {covered : List Word16} {woken : Bool}

/-- R113: an opening on the way makes every sheet older by one. -/
theorem State.Releasing.age (hs : s.ringSound ∧ s.runSound) (h : s.Releasing e covered woken u) {x : Occupied}
    (hx : some x ∈ s.ring) : u.age x.sheet.seq = s.age x.sheet.seq + woken.toNat := by
  obtain ⟨-, hhigh⟩ := State.age_bounds hs hx
  rw [State.age_eq, h.composer]
  cases woken with
  | false => rfl
  | true => exact ageBelow_succ _ _ hhigh

theorem State.Releasing.age_opened (h : s.Releasing e covered true u) : u.age s.openedSlot.sheet.seq = 1 := by
  rw [State.age_eq, h.composer]
  exact ageBelow_newest _

/-- The slots before the next freeing. -/
theorem State.Releasing.mem_finished (h : s.Releasing e covered woken u) (q : Word16) {z : Occupied}
    (hz : some z ∈ mapSlots (finishSlot e q) u.ring) :
    (∃ x, some x ∈ s.ring ∧ z = finishCovered e (covered ++ [q]) x) ∨ woken = true ∧ z = s.openedSlot := by
  obtain ⟨y, hy, rfl⟩ := (mem_mapSlots _ _ _).mp hz
  rcases h.found y hy with ⟨x, hx, rfl⟩ | ⟨hw, rfl⟩
  · exact .inl ⟨x, hx, finishSlot_finishCovered e covered q x⟩
  · exact .inr ⟨hw, if_neg fun hq => nomatch hq.2⟩

theorem finishCovered_mem_finished (q : Word16) {x : Occupied}
    (hx : some (finishCovered e covered x) ∈ u.ring) :
    some (finishCovered e (covered ++ [q]) x) ∈ mapSlots (finishSlot e q) u.ring :=
  (mem_mapSlots _ _ _).mpr ⟨_, hx, finishSlot_finishCovered e covered q x⟩

/-- R135: the slots after the next freeing. -/
theorem State.Releasing.mem_freedRing (hs : s.ringSound ∧ s.runSound) (h : s.Releasing e covered woken u) (q : Word16)
    (z : Occupied) :
    some z ∈ u.freedRing e q ↔
      (∃ x, some x ∈ s.ring ∧ s.standsAfter e (covered ++ [q]) x ∧ z = finishCovered e (covered ++ [q]) x) ∨
        woken = true ∧ z = s.openedSlot := by
  have hseq : ∀ x, (finishSlot e q x).sheet.seq = x.sheet.seq := fun x => (finishSlot_passes e q x).seq
  have hnodup : (seqsOf (mapSlots (finishSlot e q) u.ring)).Nodup := by
    rw [seqsOf_mapSlots _ hseq]
    exact State.seqsOf_nodup h.sound
  have hsix : (seqsOf (mapSlots (finishSlot e q) u.ring)).length ≤ Config.ringSlots :=
    (seqsOf_length_le _).trans ((mapSlots_length _ _).trans h.sound.1.1).le
  have hnewest : woken = true → ∀ x, some x ∈ s.ring → u.age s.openedSlot.sheet.seq < u.age x.sheet.seq :=
    fun hw x hx => by
      subst hw
      have hlow := (State.age_bounds hs hx).1
      rw [h.age hs hx, h.age_opened, Bool.toNat_true]
      omega
  have hinj : Function.Injective u.age := fun _ _ => ageBelow_inj
  rw [State.freedRing, mem_freeFinished hinj z _ _ hnodup hsix]
  constructor
  · rintro ⟨hz, y, hy, hle, hn⟩
    rcases h.mem_finished q hz with ⟨x, hx, rfl⟩ | hopened
    · refine .inl ⟨x, hx, ?_, rfl⟩
      rw [finishCovered_sheet] at hle
      rcases h.mem_finished q hy with ⟨w, hw, rfl⟩ | ⟨hwoken, rfl⟩
      · rw [finishCovered_sheet, h.age hs hx, h.age hs hw] at hle
        exact ⟨w, hw, Nat.le_of_add_le_add_right hle, hn⟩
      · exact absurd hle (hnewest hwoken x hx).not_ge
    · exact .inr hopened
  · rintro (⟨x, hx, hstands, rfl⟩ | ⟨hwoken, rfl⟩)
    · obtain ⟨y, hy, hle, hn⟩ := hstands
      have hkept : ∀ w, some w ∈ s.ring → s.age x.sheet.seq ≤ s.age w.sheet.seq → s.age w.sheet.seq ≤ s.age y.sheet.seq →
          some (finishCovered e (covered ++ [q]) w) ∈ mapSlots (finishSlot e q) u.ring := fun w hw _ hwy =>
        finishCovered_mem_finished q (h.kept w hw ⟨y, hy, hwy, finishCovered_isFinished_mono e covered q y hn⟩)
      refine ⟨hkept x hx le_rfl hle, _, hkept y hy hle le_rfl, ?_, hn⟩
      rw [finishCovered_sheet, finishCovered_sheet, h.age hs hx, h.age hs hy]
      exact Nat.add_le_add_right hle _
    · have hmem : some s.openedSlot ∈ mapSlots (finishSlot e q) u.ring :=
        (mem_mapSlots _ _ _).mpr ⟨_, h.opened hwoken, if_neg fun hq => nomatch hq.2⟩
      exact ⟨hmem, _, hmem, le_rfl, rfl⟩

/-- R112: after the next freeing a slot is FREE only if the series leaves one. -/
theorem State.Releasing.leavesGap_of_freed (hs : s.ringSound ∧ s.runSound) (h : s.Releasing e covered woken u)
    (q : Word16) (hfree : none ∈ u.freedRing e q) : s.leavesGap e (covered ++ [q]) := by
  cases woken with
  | true => exact State.leavesGap_mono q (h.freed (.inl rfl))
  | false =>
    rcases (none_mem_freeFinished _ _ _).mp hfree with hnone | ⟨z, hz, hgone⟩
    · exact State.leavesGap_mono q (h.freed (.inr ((none_mem_mapSlots _ _).mp hnone)))
    · rcases h.mem_finished q hz with ⟨x, hx, rfl⟩ | ⟨hw, -⟩
      · exact .inr ⟨x, hx, fun hst => hgone ((h.mem_freedRing hs q _).mpr (.inl ⟨x, hx, hst, rfl⟩))⟩
      · cases hw

/-- R112, R135: while the composer has not opened its sheet, a slot that a sheet left is FREE. -/
theorem State.Releasing.gap_freedRing (h : s.Releasing e covered false u) (q : Word16)
    (hgap : none ∈ s.ring ∨ ∃ x, some x ∈ s.ring ∧ some (finishCovered e (covered ++ [q]) x) ∉ u.freedRing e q) :
    none ∈ u.freedRing e q := by
  refine (none_mem_freeFinished _ _ _).mpr ?_
  have hbefore : none ∈ u.ring → none ∈ mapSlots (finishSlot e q) u.ring := (none_mem_mapSlots _ _).mpr
  rcases hgap with hnone | ⟨x, hx, hgone⟩
  · exact .inl (hbefore (h.gap rfl (.inl hnone)))
  · by_cases hmem : some (finishCovered e covered x) ∈ u.ring
    · exact .inr ⟨_, finishCovered_mem_finished q hmem, hgone⟩
    · exact .inl (hbefore (h.gap rfl (.inr ⟨x, hx, hmem⟩)))

/-- R112: the composer opens one sheet at most in a series of releases. -/
theorem State.Releasing.wakes_iff (h : s.Releasing e covered woken u) (q : Word16) :
    u.wakes e q = true ↔ woken = false ∧ s.composer.waiting = true ∧ none ∈ u.freedRing e q := by
  rw [State.wakes, Bool.and_eq_true, ringHasFree_iff, h.composer]
  cases woken <;> simp

/-- The sheet opened is none of those that stood in the ring before. -/
theorem State.openedSlot_ne (hs : s.ringSound ∧ s.runSound) {x : Occupied} (hx : some x ∈ s.ring) :
    finishCovered e covered x ≠ s.openedSlot := fun he =>
  State.seq_ne_nextSeq hs hx (by rw [← finishCovered_sheet e covered x, he])

/-- R134, R135: the slots after one more release. -/
theorem State.Releasing.mem_release (hs : s.ringSound ∧ s.runSound) (h : s.Releasing e covered woken u) (q : Word16)
    (z : Occupied) :
    some z ∈ (u.release e q).ring ↔
      (∃ x, some x ∈ s.ring ∧ s.standsAfter e (covered ++ [q]) x ∧ z = finishCovered e (covered ++ [q]) x) ∨
        (woken || u.wakes e q) = true ∧ z = s.openedSlot := by
  have hring := congrArg State.ring (u.release_eq e q)
  simp only at hring
  rw [hring]
  cases hwakes : u.wakes e q with
  | true =>
    obtain ⟨rfl, -, hfree⟩ := (h.wakes_iff q).mp hwakes
    have hfresh : u.composer = s.composer := h.composer
    rw [if_pos rfl, mem_fillFirst hfree, h.mem_freedRing hs q, hfresh]
    simp [or_comm]
  | false =>
    rw [if_neg Bool.false_ne_true, h.mem_freedRing hs q, Bool.or_false]

/-- R134, R135: one more release. -/
theorem State.Releasing.release (hs : s.ringSound ∧ s.runSound) (h : s.Releasing e covered woken u) (q : Word16) :
    s.Released e (covered ++ [q]) (woken || u.wakes e q) (u.release e q) := by
  have hring := congrArg State.ring (u.release_eq e q)
  have hcomposer := congrArg State.composer (u.release_eq e q)
  simp only at hring hcomposer
  have hfree : none ∈ (u.release e q).ring → none ∈ u.freedRing e q := by
    rw [hring]
    split
    · exact none_mem_of_fillFirst
    · exact id
  have hgone : ∀ x, some x ∈ s.ring → ¬s.standsAfter e (covered ++ [q]) x →
      some (finishCovered e (covered ++ [q]) x) ∉ (u.release e q).ring := fun x hx hst hz => by
    rcases (h.mem_release hs q _).mp hz with ⟨y, hy, hsty, he⟩ | ⟨-, he⟩
    · have hxy : x.sheet.seq = y.sheet.seq := by
        simpa using congrArg (fun o => o.sheet.seq) he
      exact hst (eq_of_seq_eq (State.seqsOf_nodup hs) hx hy hxy ▸ hsty)
    · exact State.openedSlot_ne hs hx he
  refine
    { sound := (u.release_ringMoves e q).keeps State.RingMove.runSound h.sound
      composer := ?_
      waited := fun hw => (Bool.or_eq_true_iff.mp hw).elim h.waited fun hw => ((h.wakes_iff q).mp hw).2.1
      found := fun z hz => ((h.mem_release hs q z).mp hz).imp_left fun ⟨x, hx, _, he⟩ => ⟨x, hx, he⟩
      kept := fun x hx hst => (h.mem_release hs q _).mpr (.inl ⟨x, hx, hst, rfl⟩)
      opened := fun hw => (h.mem_release hs q _).mpr (.inr ⟨hw, rfl⟩)
      gap := fun hw hgap => ?_
      freed := fun hw => ?_
      stands := fun x hx hz => by_contra fun hst => hgone x hx hst hz
      wakes := fun hwaiting hgap => ?_ }
  · rw [hcomposer, h.composer]
    cases woken <;> cases hwakes : u.wakes e q
    · rfl
    · rfl
    · rfl
    · exact absurd ((h.wakes_iff q).mp hwakes).1 (by decide)
  · obtain ⟨rfl, hwakes⟩ := Bool.or_eq_false_iff.mp hw
    rw [hwakes, if_neg Bool.false_ne_true] at hring
    rw [hring] at hgap ⊢
    exact h.gap_freedRing q hgap
  · rcases hw with hw | hnone
    · rcases Bool.or_eq_true_iff.mp hw with hw | hw
      · exact State.leavesGap_mono q (h.freed (.inl hw))
      · exact h.leavesGap_of_freed hs q ((h.wakes_iff q).mp hw).2.2
    · exact h.leavesGap_of_freed hs q (hfree hnone)
  · cases woken with
    | true => rfl
    | false =>
      refine (h.wakes_iff q).mpr ⟨rfl, hwaiting, h.gap_freedRing q (hgap.imp_right fun ⟨x, hx, hst⟩ => ⟨x, hx, ?_⟩)⟩
      exact fun hz => hgone x hx hst ((h.mem_release hs q _).mpr
        (((h.mem_freedRing hs q _).mp hz).imp_right fun hw => nomatch hw.1))

theorem State.Releasing.foldl_release (hs : s.ringSound ∧ s.runSound) : ∀ (qs covered : List Word16) (woken : Bool)
    (u : State), s.Releasing e covered woken u →
      ∃ w, s.Releasing e (covered ++ qs) w (qs.foldl (fun t q => t.release e q) u)
  | [], covered, woken, u, h => ⟨woken, by rwa [List.append_nil]⟩
  | q :: qs, covered, _, _, h => by
    rw [List.append_cons covered q qs]
    exact State.Releasing.foldl_release hs qs _ _ _ (h.release hs q).toReleasing
end

/-- R134, R135, R174: the releases of a STACKED or a JAM that names a sheet. -/
theorem State.releaseThrough_released {s : State} (hs : s.ringSound ∧ s.runSound) (e : Engine) (seq : Word16) :
    ∃ woken, s.Released e (coveredBy (s.link e).inFlight seq) woken (s.releaseThrough e seq) := by
  rw [State.releaseThrough, coveredBy, List.foldl_append]
  obtain ⟨w, hw⟩ := (State.Releasing.start hs e).foldl_release hs
    (((s.link e).inFlight.map fun i => i.seq).takeWhile fun q => q != seq)
  exact ⟨_, hw.release hs seq⟩

end Sys2Proof.Machine
end

section
/-! PROOFS. What pends and which conditions hold from one state to the next: rises, falls and posts, and the work that
reaches neither. -/

namespace Sys2Proof.Machine

/-! ### When two states have the same conditions (R201) -/

/-- The two links are in one state, have been READY alike, and are degraded alike. -/
structure Link.Alike (l m : Link) : Prop where
  state : m.state = l.state
  hasBeenReady : m.hasBeenReady = l.hasBeenReady
  degraded : m.pace.degraded = l.pace.degraded

theorem Link.Alike.refl (l : Link) : l.Alike l := ⟨rfl, rfl, rfl⟩

theorem Link.Alike.engineStoppedHolds {l m : Link} (h : l.Alike m) (cfg : LinkSettings) (e : Engine) :
    engineStoppedHolds cfg e m = engineStoppedHolds cfg e l := by
  unfold Machine.engineStoppedHolds
  rw [h.state, h.hasBeenReady]

theorem State.conditions_congr {s t : State} (hc : t.composer = s.composer) (hs : t.settings = s.settings)
    (ha : s.linkA.Alike t.linkA) (hb : s.linkB.Alike t.linkB) : t.conditions = s.conditions := by
  unfold State.conditions degradedHolds
  rw [hc, hs, ha.engineStoppedHolds, hb.engineStoppedHolds, ha.degraded, hb.degraded]

/-- R201: a condition that holds is one of the condition sources. -/
theorem State.mem_conditionSources {s : State} {x : Source10} (h : inSet s.conditions x = true) :
    inSet conditionSources x = true := by
  rw [State.inSet_conditions] at h
  cases x with
  | engineRestored | failover | listingOrder | negotiationFault | tableRefused => cases h
  | engineStoppedA | engineStoppedB | degraded | ringFull | folioLimit => rfl

/-! ### Posts (R202) -/

/-- From `s` to `t` events alone were posted. -/
structure State.PostsOnly (s t : State) : Prop where
  confirmed : t.notices.confirmed = s.notices.confirmed
  keeps : ∀ x, inSet s.notices.pending x = true → inSet t.notices.pending x = true
  posts : ∀ x, inSet t.notices.pending x = true → inSet s.notices.pending x = true ∨ inSet conditionSources x = false

theorem State.PostsOnly.refl (s : State) : s.PostsOnly s := ⟨rfl, fun _ => id, fun _ => .inl⟩

theorem State.PostsOnly.trans {s t u : State} (h : s.PostsOnly t) (k : t.PostsOnly u) : s.PostsOnly u where
  confirmed := k.confirmed.trans h.confirmed
  keeps := fun x hx => k.keeps x (h.keeps x hx)
  posts := fun x hx => (k.posts x hx).elim (h.posts x) .inr

theorem State.PostsOnly.of_notices {s t : State} (h : t.notices = s.notices) : s.PostsOnly t := by
  refine ⟨?_, fun x hx => ?_, fun x hx => .inl ?_⟩
  · rw [h]
  · rwa [h]
  · rwa [h] at hx

theorem State.post_postsOnly (s : State) (x : Source10) (hx : inSet conditionSources x = false) : s.PostsOnly (s.post x) := by
  refine ⟨rfl, fun y hy => ?_, fun y hy => ?_⟩
  · rw [State.post_notices, NoticeUnit.setPending_pending, inSet_or, hy, Bool.true_or]
  · rw [State.post_notices, NoticeUnit.setPending_pending, inSet_or, Bool.or_eq_true, inSet_bit, decide_eq_true_iff] at hy
    exact hy.imp_right fun (h : y = x) => h ▸ hx

/-! ### Rises and falls (R202, R203) -/

/-- From `s` to `t` what pends followed the conditions and the posts, and nothing was read or cleared by command. -/
structure State.NoticesFollow (s t : State) : Prop where
  confirmed : t.notices.confirmed = s.notices.confirmed
  rises : ∀ x, inSet s.conditions x = false → inSet t.conditions x = true → inSet t.notices.pending x = true
  falls : ∀ x, inSet s.conditions x = true → inSet t.conditions x = false → s.notices.confirmed = false →
    inSet t.notices.pending x = false
  stays : ∀ x, inSet s.conditions x = true → inSet t.conditions x = true → inSet s.notices.pending x = true →
    inSet t.notices.pending x = true
  latched : ∀ x, inSet conditionSources x = true → s.notices.confirmed = false → inSet s.conditions x = false →
    inSet t.conditions x = false → inSet t.notices.pending x = true → inSet s.notices.pending x = true
  keeps : ∀ x, s.notices.confirmed = true ∨ inSet conditionSources x = false → inSet s.notices.pending x = true →
    inSet t.notices.pending x = true

/-- R202, R203: what pends once the rises and falls of a work that posted events alone are settled. -/
theorem State.PostsOnly.settled {s t : State} (h : s.PostsOnly t) : s.NoticesFollow (s.settleNotices t) := by
  have hconditions : (s.settleNotices t).conditions = t.conditions := rfl
  have hpending : ∀ x, inSet (s.settleNotices t).notices.pending x =
      ((inSet t.notices.pending x || (inSet t.conditions x && !inSet s.conditions x)) &&
        (s.notices.confirmed || !(inSet s.conditions x && !inSet t.conditions x))) := fun x => by
    rw [State.settleNotices_notices, edgesOn_pending, h.confirmed]
  refine ⟨h.confirmed, fun x hs ht => ?_, fun x hs ht hm => ?_, fun x hs ht hp => ?_, fun x hx hm hs ht hp => ?_,
    fun x hx hp => ?_⟩
  · rw [hconditions] at ht
    rw [hpending]
    simp [hs, ht]
  · rw [hconditions] at ht
    rw [hpending]
    simp [hs, ht, hm]
  · rw [hconditions] at ht
    rw [hpending]
    simp [ht, h.keeps x hp]
  · rw [hconditions] at ht
    rw [hpending] at hp
    have hpt : inSet t.notices.pending x = true := by simpa [hs, ht] using hp
    exact (h.posts x hpt).resolve_right fun hn => by rw [hx] at hn; cases hn
  · rw [hpending, h.keeps x hp, Bool.true_or, Bool.true_and]
    rcases hx with hm | hx
    · rw [hm, Bool.true_or]
    · have hs : inSet s.conditions x = false := Bool.eq_false_iff.mpr fun hs => by
        rw [State.mem_conditionSources hs] at hx
        cases hx
      simp [hs]

theorem State.PostsOnly.follow {s t : State} (h : s.PostsOnly t) (hc : t.conditions = s.conditions) :
    s.NoticesFollow t where
  confirmed := h.confirmed
  rises := fun x hs ht => by rw [hc, hs] at ht; cases ht
  falls := fun x hs ht => by rw [hc, hs] at ht; cases ht
  stays := fun x _ _ hp => h.keeps x hp
  latched := fun x hx _ _ _ hp => (h.posts x hp).resolve_right fun hn => by rw [hx] at hn; cases hn
  keeps := fun x _ hp => h.keeps x hp

theorem State.NoticesFollow.refl (s : State) : s.NoticesFollow s := (State.PostsOnly.refl s).follow rfl

theorem State.NoticesFollow.trans {s t u : State} (h : s.NoticesFollow t) (k : t.NoticesFollow u) : s.NoticesFollow u where
  confirmed := k.confirmed.trans h.confirmed
  rises := fun x hs hu => by
    cases ht : inSet t.conditions x with
    | false => exact k.rises x ht hu
    | true => exact k.stays x ht hu (h.rises x hs ht)
  falls := fun x hs hu hm => by
    cases ht : inSet t.conditions x with
    | true => exact k.falls x ht hu (h.confirmed.trans hm)
    | false =>
      have hp := h.falls x hs ht hm
      refine Bool.eq_false_iff.mpr fun hpu => ?_
      rw [k.latched x (State.mem_conditionSources hs) (h.confirmed.trans hm) ht hu hpu] at hp
      cases hp
  stays := fun x hs hu hp => by
    cases ht : inSet t.conditions x with
    | false => exact k.rises x ht hu
    | true => exact k.stays x ht hu (h.stays x hs ht hp)
  latched := fun x hx hm hs hu hp => by
    cases ht : inSet t.conditions x with
    | false => exact h.latched x hx hm hs ht (k.latched x hx (h.confirmed.trans hm) ht hu hp)
    | true =>
      rw [k.falls x ht hu (h.confirmed.trans hm)] at hp
      cases hp
  keeps := fun x hx hp => k.keeps x (hx.imp_left h.confirmed.trans) (h.keeps x hx hp)

/-- R203: in LATCHED mode a pending condition source has its condition true. -/
theorem State.latchedSound_iff (s : State) :
    s.latchedSound ↔ ∀ x, s.notices.confirmed = false → inSet conditionSources x = true →
      inSet s.notices.pending x = true → inSet s.conditions x = true := by
  constructor
  · intro h x hm hx hp
    have hbit := congrArg (fun k => inSet k x) (h hm)
    rw [show (0 : NoticeSet) = 0#10 from rfl] at hbit
    simpa [hx, hp] using hbit
  · intro h hm
    apply inSet_ext
    intro x
    rw [show (0 : NoticeSet) = 0#10 from rfl, inSet_and, inSet_and, inSet_not, inSet_empty]
    cases hp : inSet s.notices.pending x with
    | false => rfl
    | true =>
      cases hx : inSet conditionSources x with
      | false => rfl
      | true => rw [h x hm hx hp]; rfl

theorem State.NoticesFollow.latchedSound {s t : State} (h : s.NoticesFollow t) (hs : s.latchedSound) :
    t.latchedSound := by
  rw [State.latchedSound_iff] at hs ⊢
  intro x hm hx hp
  have hms := h.confirmed.symm.trans hm
  refine of_not_not fun ht => ?_
  have ht := Bool.eq_false_iff.mpr ht
  cases hc : inSet s.conditions x with
  | true =>
    rw [h.falls x hc ht hms] at hp
    cases hp
  | false =>
    rw [hs x hms hx (h.latched x hx hms hc ht hp)] at hc
    cases hc

end Sys2Proof.Machine
end

section
/-! PROOFS. Work that opens no sheet: what every command but the composer's, STACKED, JAM and the resets leaves of the Sheet
Composer, and how what pends follows. -/

namespace Sys2Proof.Machine

/-! ### Work away from the composer -/

/-- From `s` to `t` the Sheet Composer stands, and events alone were posted. -/
structure State.Apart (s t : State) : Prop extends s.PostsOnly t where
  composer : t.composer = s.composer

/-- Work apart from the composer that changes no condition. -/
structure State.Calm (s t : State) : Prop extends s.Apart t where
  conditions : t.conditions = s.conditions

/-- From `s` to `t` the Sheet Composer stands, and what pends followed the conditions. -/
structure State.Aside (s t : State) : Prop extends s.NoticesFollow t where
  composer : t.composer = s.composer

theorem State.Apart.refl (s : State) : s.Apart s := ⟨.refl s, rfl⟩

theorem State.Apart.trans {s t u : State} (h : s.Apart t) (k : t.Apart u) : s.Apart u :=
  ⟨h.toPostsOnly.trans k.toPostsOnly, k.composer.trans h.composer⟩

theorem State.Calm.refl (s : State) : s.Calm s := ⟨.refl s, rfl⟩

theorem State.Calm.trans {s t u : State} (h : s.Calm t) (k : t.Calm u) : s.Calm u :=
  ⟨h.toApart.trans k.toApart, k.conditions.trans h.conditions⟩

theorem State.Aside.refl (s : State) : s.Aside s := ⟨.refl s, rfl⟩

theorem State.Aside.trans {s t u : State} (h : s.Aside t) (k : t.Aside u) : s.Aside u :=
  ⟨h.toNoticesFollow.trans k.toNoticesFollow, k.composer.trans h.composer⟩

theorem State.Calm.aside {s t : State} (h : s.Calm t) : s.Aside t := ⟨h.toPostsOnly.follow h.conditions, h.composer⟩

theorem State.Apart.settled {s t : State} (h : s.Apart t) : s.Aside (s.settleNotices t) :=
  ⟨h.toPostsOnly.settled, h.composer⟩

theorem State.Apart.of_notices {s t : State} (hn : t.notices = s.notices) (hc : t.composer = s.composer) : s.Apart t :=
  ⟨.of_notices hn, hc⟩

/-- Work on the Line Port, the form, the queue, the keys, the ring, the dispatcher and the counters is calm. -/
theorem State.Calm.of_eq {s t : State} (h : t = { s with
    lp := t.lp
    map := t.map
    forms := t.forms
    queue := t.queue
    keys := t.keys
    ring := t.ring
    dispatcher := t.dispatcher
    counters := t.counters
    pending := t.pending }) : s.Calm t := by
  rw [h]
  exact ⟨.of_notices rfl rfl, rfl⟩

theorem State.PortOnly.calm {s t : State} (h : s.PortOnly t) : s.Calm t := .of_eq (by rw [h])

theorem State.modLink_apart (s : State) (e : Engine) (f : Link → Link) : s.Apart (s.modLink e f) :=
  .of_notices (by simp) (by simp)

theorem State.setLink_apart (s : State) (e : Engine) (l : Link) : s.Apart (s.setLink e l) :=
  .of_notices (by simp) (by simp)

/-- A change of a link that leaves it in its state, READY before as it was, and degraded as it was. -/
theorem State.modLink_calm (s : State) (e : Engine) (f : Link → Link) (hf : ∀ l : Link, l.Alike (f l)) :
    s.Calm (s.modLink e f) := by
  refine ⟨s.modLink_apart e f, State.conditions_congr (by simp) (by simp) ?_ ?_⟩ <;> cases e
  · exact hf _
  · exact .refl _
  · exact .refl _
  · exact hf _

theorem Link.heard_alike (l : Link) : l.Alike l.heard := ⟨l.heard_state, l.heard_hasBeenReady, by rw [l.heard_pace]⟩

theorem State.heard_calm (s : State) (e : Engine) : s.Calm (s.modLink e Link.heard) :=
  s.modLink_calm e _ Link.heard_alike

theorem State.post_calm (s : State) (x : Source10) (hx : inSet conditionSources x = false) : s.Calm (s.post x) :=
  ⟨⟨s.post_postsOnly x hx, rfl⟩, rfl⟩

/-- R14, R190: a refusal posts TABLE REFUSED at most. -/
theorem State.refuse_calm (s : State) (h : Hand) (kind : CheckKind) (position : Option Nat) (detail : Nat) :
    s.Calm (s.refuse h kind position detail) := by
  unfold State.refuse
  simp only
  split
  · exact (State.Calm.of_eq rfl).trans ((State.post_calm _ .tableRefused rfl).trans (.of_eq rfl))
  · exact .of_eq rfl

/-! ### The due steps -/

theorem State.takeOwed_calm (s : State) : s.Calm s.takeOwed := by
  unfold State.takeOwed
  split
  · exact .refl s
  · split <;> exact .of_eq rfl

theorem State.windowShort_aside (s : State) (e : Engine) : s.Aside (s.windowShort e) := by
  unfold State.windowShort
  split
  · exact (s.modLink_apart e _).settled
  · exact .refl s

theorem State.windowMet_aside (s : State) (e : Engine) : s.Aside (s.windowMet e) := by
  unfold State.windowMet
  split
  · exact (s.modLink_apart e _).settled
  · exact .refl s

theorem State.windowsDue_aside (s : State) : s.Aside s.windowsDue :=
  (((s.windowShort_aside .a).trans (State.windowShort_aside _ .b)).trans (State.windowMet_aside _ .a)).trans
    (State.windowMet_aside _ .b)

/-- R143: a grant. -/
theorem State.grantOnce_calm (s : State) : s.Calm s.grantOnce := by
  have hgrant : ∀ e sh, s.Calm (s.grantTo e sh) := fun e sh => by
    have hcount : s.Calm (s.countReissue sh) := by
      unfold State.countReissue
      split <;> exact .of_eq rfl
    exact (hcount.trans (State.modLink_calm _ e (Link.beginTransfer sh) fun _ => ⟨rfl, rfl, rfl⟩)).trans (.of_eq rfl)
  unfold State.grantOnce
  split
  · exact hgrant _ _
  · exact .refl s
  · exact .refl s

theorem State.takeDue_aside (s : State) : s.Aside s.takeDue :=
  ((s.takeOwed_calm.aside.trans (State.windowsDue_aside _)).trans
    ((State.grantOnce_calm _).trans (State.grantOnce_calm _)).aside).trans
    (((State.syncCompletes_portOnly _).trans (State.syncFails_portOnly _)).trans
      (State.acceptWaiting_portOnly _)).calm.aside

/-! ### The signals and END -/

theorem State.orderByteStrobed_calm (s : State) (select : Bool) (unit : BitVec 4) (d : Byte) (p : Bool) :
    s.Calm (s.orderByteStrobed select unit d p) := by
  have htake : s.Calm (s.takeOrderByte d p) := by
    unfold State.takeOrderByte
    split
    · exact .of_eq rfl
    · split
      · exact .of_eq rfl
      · split
        · exact .of_eq rfl
        · split <;> exact .of_eq rfl
  unfold State.orderByteStrobed
  split
  · split
    · exact htake
    all_goals exact .refl s
  · exact .refl s

theorem State.dataByteStrobed_calm (s : State) (d : Byte) (p : Bool) : s.Calm (s.dataByteStrobed d p) := by
  unfold State.dataByteStrobed
  split
  · split <;> exact .of_eq rfl
  all_goals exact .refl s

theorem State.replyTakenSignal_calm (s : State) : s.Calm s.replyTakenSignal := by
  unfold State.replyTakenSignal
  split <;> exact .of_eq rfl

/-- END of an order leaves what no refusal and no work of its row undoes. -/
theorem State.endRow_of {P : State → Prop} (s : State) (mine : Hand → Bool) (own : Hand → State → State) (hs : P s)
    (hr : ∀ h kind position detail, P (s.refuse h kind position detail)) (ho : ∀ h, P (own h s)) :
    P (s.atEnd mine fun h t => t.judge h (own h)) := by
  unfold State.atEnd
  split
  · next h _ =>
    split
    · show P (s.judge h (own h))
      unfold State.judge
      split
      · exact hr _ _ _ _
      · split
        · exact hr _ _ _ _
        · exact ho h
    · exact hs
  all_goals exact hs

/-- END of a TABLE leaves what no refusal and no record carried out undoes. -/
theorem State.tableRow_of {P : State → Prop} (s : State) (kind : Nat) (fault : List Byte → Option (Nat × Nat))
    (carry : Hand → List Byte → State → State) (hs : P s)
    (hr : ∀ h kind position detail, P (s.refuse h kind position detail)) (hc : ∀ h body, P (carry h body s)) :
    P (s.tableRow kind fault carry) :=
  s.endRow_of _ _ hs hr fun h => by
    unfold State.endTable
    split
    · exact hr _ _ _ _
    · split
      · exact hr _ _ _ _
      · exact hc h _

theorem State.endRow_aside (s : State) (mine : Hand → Bool) (own : Hand → State → State) (ho : ∀ h, s.Aside (own h s)) :
    s.Aside (s.atEnd mine fun h t => t.judge h (own h)) :=
  s.endRow_of mine own (.refl s) (fun h _ _ _ => (s.refuse_calm h _ _ _).aside) ho

theorem State.tableRow_aside (s : State) (kind : Nat) (fault : List Byte → Option (Nat × Nat))
    (carry : Hand → List Byte → State → State) (hc : ∀ h body, s.Aside (carry h body s)) :
    s.Aside (s.tableRow kind fault carry) :=
  s.tableRow_of kind fault carry (.refl s) (fun h _ _ _ => (s.refuse_calm h _ _ _).aside) hc

/-- R190: END of a front record that reaches no composer. -/
theorem State.frontRow_aside (s : State) (kind : Nat) (fault : List Byte → Option (Nat × Nat))
    (apply : List Byte → State → State) (ha : ∀ body, s.Apart (apply body s)) :
    s.Aside (s.tableRow kind fault (applyFront apply)) :=
  s.tableRow_aside kind fault _ fun _ body => (ha body).settled.trans (State.Calm.of_eq rfl).aside

theorem State.streamRow_aside (s : State) (kind : Nat) (fault : List Byte → Option (Nat × Nat))
    (read : List Byte → StreamTable) : s.Aside (s.tableRow kind fault (queueStream read)) :=
  s.tableRow_aside kind fault _ fun _ _ => (State.Calm.of_eq rfl).aside

theorem State.queryRow_aside (s : State) (sel : Nat) (bytes : Hand → State → List Byte) :
    s.Aside (s.queryRow sel fun h t => t.respond h (bytes h t)) :=
  s.endRow_aside _ _ fun h => by
    unfold State.endQuery
    split
    · exact (s.refuse_calm _ _ _ _).aside
    · exact (State.Calm.of_eq rfl).aside

theorem State.endPrint_calm (s : State) (h : Hand) : s.Calm (s.endPrint h) := by
  unfold State.endPrint
  split
  · exact s.refuse_calm _ _ _ _
  · split
    · exact s.refuse_calm _ _ _ _
    · exact .of_eq rfl

theorem State.endMove_calm (s : State) (h : Hand) : s.Calm (s.endMove h) := by
  unfold State.endMove
  split
  · exact s.refuse_calm _ _ _ _
  · exact .of_eq rfl

end Sys2Proof.Machine
end

section
/-! PROOFS. The engines' frames and timers apart from the Sheet Composer, and every command that reaches it not. -/

namespace Sys2Proof.Machine

/-! ### The engines' frames and the timers -/

theorem State.failover_apart (s : State) : s.Apart s.failover := by
  unfold State.failover
  simp only
  split
  · have hactive : s.Calm { s with dispatcher := { s.dispatcher with active := otherEngine s.dispatcher.active } } :=
      .of_eq rfl
    exact (hactive.trans (State.post_calm _ .failover rfl)).toApart
  · exact .refl s

theorem State.leaveWork_apart (s : State) (e : Engine) (target : Link → Link) : s.Apart (s.leaveWork e target) := by
  unfold State.leaveWork
  split
  · exact s.modLink_apart e _
  · split <;> exact s.modLink_apart e _

theorem State.negotiationFault_apart (s : State) (e : Engine) : s.Apart (s.negotiationFault e) :=
  (s.modLink_apart e _).trans (State.post_calm _ .negotiationFault rfl).toApart

theorem State.returnAll_apart (s : State) (e : Engine) : s.Apart (s.returnAll e) :=
  (s.modLink_apart e _).trans (State.Calm.of_eq rfl).toApart

theorem State.countOffer_apart (s : State) (e : Engine) (modes : ModeSet) : s.Apart (s.countOffer e modes) := by
  unfold State.countOffer
  simp only
  split
  · exact s.setLink_apart e _
  · split
    · exact s.setLink_apart e _
    · exact (s.setLink_apart e _).trans (State.negotiationFault_apart _ e)

theorem State.offerFrame_apart (s : State) (e : Engine) (modes : ModeSet) (ack : Bool) :
    s.Apart (s.offerFrame e modes ack) := by
  have hlost : s.Apart (if (s.returnAll e).uses e then (s.returnAll e).restartOffering e modes
      else (s.returnAll e).modLink e Link.enterOff) := by
    split <;> exact (s.returnAll_apart e).trans (State.modLink_apart _ e _)
  unfold State.offerFrame
  simp only
  split
  · exact .refl s
  · exact s.countOffer_apart e modes
  · split
    · split
      · exact s.modLink_apart e _
      · exact .refl s
    · exact s.modLink_apart e _
  · split <;> exact s.modLink_apart e _
  · exact hlost
  · exact hlost
  · exact .refl s

theorem State.stopFrame_apart (s : State) (e : Engine) (cause : StopCause) : s.Apart (s.stopFrame e cause) := by
  have hheard := s.modLink_apart e Link.heard
  unfold State.stopFrame
  simp only
  split
  · exact (hheard.trans (State.returnAll_apart _ e)).trans (State.leaveWork_apart _ e _)
  · exact hheard.trans (State.modLink_apart _ e _)
  · exact hheard.trans (State.modLink_apart _ e _)
  all_goals exact .refl s

theorem State.readyFrame_apart (s : State) (e : Engine) : s.Apart (s.readyFrame e) := by
  unfold State.readyFrame
  split
  · exact (s.modLink_apart e _).trans (State.post_calm _ .engineRestored rfl).toApart
  · exact s.modLink_apart e _
  · exact s.modLink_apart e _
  all_goals exact .refl s

theorem State.offerWindowEnds_apart (s : State) (e : Engine) : s.Apart (s.offerWindowEnds e) := by
  have hplain : s.Apart (s.plainDetection e) := by
    unfold State.plainDetection
    split
    · exact s.modLink_apart e _
    · exact s.negotiationFault_apart e
  unfold State.offerWindowEnds
  simp only
  split
  · split
    · exact s.negotiationFault_apart e
    · split
      · exact hplain
      · exact s.setLink_apart e _
  · exact .refl s

theorem State.ackWindowEnds_apart (s : State) (e : Engine) : s.Apart (s.ackWindowEnds e) := by
  unfold State.ackWindowEnds
  split
  · exact s.modLink_apart e _
  · exact .refl s

theorem State.settleEnds_apart (s : State) (e : Engine) : s.Apart (s.settleEnds e) := by
  unfold State.settleEnds
  split
  · exact s.modLink_apart e _
  · exact .refl s

theorem State.linkLost_apart (s : State) (e : Engine) : s.Apart (s.linkLost e) := by
  unfold State.linkLost
  simp only
  split
  · split <;> exact (s.returnAll_apart e).trans (State.modLink_apart _ e _)
  · exact .refl s

theorem State.breakEnds_apart (s : State) (e : Engine) : s.Apart (s.breakEnds e) := by
  unfold State.breakEnds
  split
  · exact s.modLink_apart e _
  · exact .refl s

/-- R173, R175: a timeout, when its timer runs. -/
theorem State.timeout_apart (s : State) (e : Engine) (runs : Bool) :
    s.Apart (if runs then (s.timedOut e).failover else s) := by
  split
  · exact ((s.returnAll_apart e).trans (State.leaveWork_apart _ e _)).trans (State.failover_apart _)
  · exact .refl s

theorem State.idleFrame_calm (s : State) (e : Engine) : s.Calm (s.idleFrame e) := by
  unfold State.idleFrame
  split
  · exact s.modLink_calm e _ fun _ => ⟨rfl, rfl, rfl⟩
  iterate 3 exact s.heard_calm e
  all_goals exact .refl s

theorem State.sheetTaken_calm (s : State) (e : Engine) (seq : Word16) : s.Calm (s.sheetTaken e seq) :=
  (s.modLink_calm e (fun l => { l with inFlight := l.inFlight.map (startStacked s.settings.stackedMs seq) })
    fun _ => ⟨rfl, rfl, rfl⟩).trans (.of_eq rfl)

theorem State.takenFrame_calm (s : State) (e : Engine) (seq : Word16) : s.Calm (s.takenFrame e seq) := by
  unfold State.takenFrame
  simp only
  split
  · exact .refl s
  · split
    · split
      · exact (s.heard_calm e).trans (State.sheetTaken_calm _ e seq)
      · exact s.heard_calm e
    · exact (s.heard_calm e).trans (.of_eq rfl)

theorem State.sendSheetEnd_calm (s : State) (e : Engine) : s.Calm (s.sendSheetEnd e) := by
  unfold State.sendSheetEnd
  split
  · exact .refl s
  · exact s.modLink_calm e _ fun _ => ⟨rfl, rfl, rfl⟩

theorem State.repeatOffer_calm (s : State) (e : Engine) : s.Calm (s.repeatOffer e) := by
  unfold State.repeatOffer
  split
  iterate 2 exact s.modLink_calm e _ fun _ => ⟨rfl, rfl, rfl⟩
  all_goals exact .refl s

theorem Link.tick_alike (l : Link) : l.Alike l.tick := by
  unfold Link.tick PaceMonitor.countTick
  split
  · split <;> exact ⟨rfl, rfl, rfl⟩
  · exact .refl l

theorem State.tick_calm (s : State) : s.Calm { s with linkA := s.linkA.tick, linkB := s.linkB.tick } :=
  ⟨.of_notices rfl rfl, State.conditions_congr rfl rfl s.linkA.tick_alike s.linkB.tick_alike⟩

/-- R206: the timers of the call line change no notice. -/
theorem State.callTimer_calm (s : State) (n : NoticeUnit) (hp : n.pending = s.notices.pending)
    (hc : n.confirmed = s.notices.confirmed) : s.Calm { s with notices := n } where
  confirmed := hc
  keeps := fun _ hx => hp ▸ hx
  posts := fun _ hx => .inl (hp ▸ hx)
  composer := rfl
  conditions := rfl

/-! ### The head of the Intake Queue -/

/-- A step of the composer leaves what its work on the head entry does not undo. -/
theorem State.atHead_of {P : State → Prop} (s : State) (work : Entry → State → State) (hs : P s)
    (hw : ∀ x, P (work x s)) : P (s.atHead work) := by
  unfold State.atHead
  split
  · exact hs
  · exact hw _

theorem workCollation_calm (x : Entry) (s : State) : s.Calm (workCollation x s) := by
  unfold workCollation
  split <;> exact .of_eq rfl

theorem workFieldLayout_calm (x : Entry) (s : State) : s.Calm (workFieldLayout x s) := by
  unfold workFieldLayout
  split <;> exact .of_eq rfl

theorem workKeyReset_calm (x : Entry) (s : State) : s.Calm (workKeyReset x s) := by
  unfold workKeyReset
  split <;> exact .of_eq rfl

/-! ### LINK SETTINGS (R163, R164) -/

theorem State.followArrangement_apart (s : State) (e : Engine) : s.Apart (s.followArrangement e) := by
  unfold State.followArrangement
  split
  · split
    · exact s.modLink_apart e _
    · exact .refl s
  · split
    · exact s.modLink_apart e _
    · exact .refl s

theorem State.followAdvertisedIf_apart (s : State) (old : LinkSettings) (e : Engine) :
    s.Apart (s.followAdvertisedIf old e) := by
  have hfollow : s.Apart (s.followAdvertised e) := by
    unfold State.followAdvertised
    split
    iterate 2 exact .refl s
    iterate 4 exact s.modLink_apart e _
    · split <;> exact s.modLink_apart e _
  unfold State.followAdvertisedIf
  split
  · exact .refl s
  · exact hfollow

theorem State.applySettings_apart (s : State) (c : LinkSettings) : s.Apart (s.applySettings c) := by
  have hset : s.Apart { s with settings := c } := .of_notices rfl rfl
  have harrangement : ∀ u : State, u.Apart ((u.followArrangement .a).followArrangement .b).failover := fun u =>
    ((u.followArrangement_apart .a).trans (State.followArrangement_apart _ .b)).trans (State.failover_apart _)
  have hadvertised : ∀ (u : State) (old : LinkSettings),
      u.Apart ((u.followAdvertisedIf old .a).followAdvertisedIf old .b).failover := fun u old =>
    ((u.followAdvertisedIf_apart old .a).trans (State.followAdvertisedIf_apart _ old .b)).trans (State.failover_apart _)
  unfold State.applySettings
  simp only
  split <;> split
  · exact hset
  · exact hset.trans (harrangement _)
  · exact hset.trans (hadvertised _ _)
  · exact (hset.trans (harrangement _)).trans (hadvertised _ _)

/-! ### Every command that opens no sheet -/

theorem State.run_aside {s t : State} {f : State → State} (hx : s.run f = .next t) (hf : ∀ u : State, u.Aside (f u)) :
    s.Aside t := by
  cases hx
  exact s.takeDue_aside.trans (hf _)

theorem State.runNoticed_aside {s t : State} {f : State → State} (hx : s.runNoticed f = .next t)
    (hf : ∀ u : State, u.Apart (f u)) : s.Aside t := by
  cases hx
  exact s.takeDue_aside.trans (hf _).settled

/-- The commands that may open a sheet: the composer's work, and the releases that wake it. -/
def mayOpen : Instr → Bool
  | .placedLine => true
  | .overstrikeMerge => true
  | .lineOfItsOwn => true
  | .formEnd => true
  | .syncMarker => true
  | .sheetPlanEntry => true
  | .stacked _ _ => true
  | .jam _ _ => true
  | _ => false

/-- The commands that reset, read or clear what pends by themselves. -/
def clearsNotices : Instr → Bool
  | .hardwareReset _ => true
  | .lineReset => true
  | .tableReset => true
  | .tableNoticeControl => true
  | .tableNoticeClear => true
  | .queryNotices => true
  | _ => false

/-- Every other command leaves the composer, and what pends follows the conditions. -/
theorem exec_aside (c : Instr) (s t : State) (hx : exec c s = .next t) (ho : mayOpen c = false)
    (hn : clearsNotices c = false) : s.Aside t := by
  cases c
  all_goals dsimp only [exec] at hx
  case orderByte a u d p => exact State.run_aside hx fun v => (v.orderByteStrobed_calm a u d p).aside
  case orderAccept =>
    cases hx
    exact (s.takeOwed_calm.trans (State.acceptWaiting_portOnly _).calm).aside
  case dataByte d p => exact State.run_aside hx fun v => (v.dataByteStrobed_calm d p).aside
  case unknownOrder => exact State.run_aside hx fun v => v.endRow_aside _ _ fun _ => .refl v
  case print => exact State.run_aside hx fun v => v.endRow_aside _ _ fun h => (v.endPrint_calm h).aside
  case move => exact State.run_aside hx fun v => v.endRow_aside _ _ fun h => (v.endMove_calm h).aside
  case sync => exact State.run_aside hx fun v => v.endRow_aside _ _ fun _ => (State.Calm.of_eq rfl).aside
  case syncDone => cases hx; exact s.syncCompletes_portOnly.calm.aside
  case engineStopped => cases hx; exact s.syncFails_portOnly.calm.aside
  case tableCharacterMap => exact State.run_aside hx fun v => v.frontRow_aside _ _ _ fun _ => .of_notices rfl rfl
  case tableForms =>
    exact State.run_aside hx fun v => v.frontRow_aside _ _ _ fun _ =>
      .of_notices (by rw [State.loadForms_eq]) (v.loadForms_ringKept _).composer
  case tableCollation => exact State.run_aside hx fun v => v.streamRow_aside _ _ _
  case tableFieldLayout => exact State.run_aside hx fun v => v.streamRow_aside _ _ _
  case tableKeyReset => exact State.run_aside hx fun v => v.streamRow_aside _ _ _
  case tableSheetPlan => exact State.run_aside hx fun v => v.streamRow_aside _ _ _
  case tableLinkSettings => exact State.run_aside hx fun v => v.frontRow_aside _ _ _ fun _ => v.applySettings_apart _
  case tableNoticeControl => cases hn
  case tableNoticeClear => cases hn
  case tableUnit => exact State.run_aside hx fun v => v.frontRow_aside _ _ _ fun _ => .of_notices rfl rfl
  case tableCounterClear => exact State.run_aside hx fun v => v.frontRow_aside _ _ _ fun _ => .of_notices rfl rfl
  case tableReset => cases hn
  case tableKindUnknown =>
    exact State.run_aside hx fun v => v.endRow_aside _ _ fun h => by
      unfold State.endTable
      split
      · exact (v.refuse_calm _ _ _ _).aside
      · exact .refl v
  case queryCondition => exact State.run_aside hx fun v => v.queryRow_aside _ _
  case queryCheck => exact State.run_aside hx fun v => v.queryRow_aside _ _
  case queryNotices => cases hn
  case queryCounters => exact State.run_aside hx fun v => v.queryRow_aside _ _
  case queryTable => exact State.run_aside hx fun v => v.queryRow_aside _ _
  case queryEngine => exact State.run_aside hx fun v => v.queryRow_aside _ _
  case queryRing => exact State.run_aside hx fun v => v.queryRow_aside _ _
  case selectorNamingNothing =>
    exact State.run_aside hx fun v => v.endRow_aside _ _ fun h => by
      unfold State.endQuery
      split
      · exact (v.refuse_calm _ _ _ _).aside
      · exact .refl v
  case replyTaken => exact State.run_aside hx fun v => v.replyTakenSignal_calm.aside
  case clear => exact State.run_aside hx fun v => (State.Calm.of_eq rfl).aside
  case lineReset => cases hn
  case hardwareReset => cases hn
  case owedFormEnd => cases hx; exact s.takeOwed_calm.aside
  case placedLine => cases ho
  case overstrikeMerge => cases ho
  case lineOfItsOwn => cases ho
  case formEnd => cases ho
  case syncMarker => cases ho
  case sheetPlanEntry => cases ho
  case collationEntry => exact State.run_aside hx fun v => v.atHead_of _ (.refl v) fun x => (workCollation_calm x v).aside
  case fieldLayoutEntry =>
    exact State.run_aside hx fun v => v.atHead_of _ (.refl v) fun x => (workFieldLayout_calm x v).aside
  case keyResetEntry => exact State.run_aside hx fun v => v.atHead_of _ (.refl v) fun x => (workKeyReset_calm x v).aside
  case grant => cases hx; exact s.windowsDue_aside.trans (State.grantOnce_calm _).aside
  case sheetEnd e => exact State.run_aside hx fun v => (v.sendSheetEnd_calm e).aside
  case offer e m a => exact State.runNoticed_aside hx fun v => (v.offerFrame_apart e m a).trans (State.failover_apart _)
  case idle e => exact State.run_aside hx fun v => (v.idleFrame_calm e).aside
  case taken e q => exact State.run_aside hx fun v => (v.takenFrame_calm e q).aside
  case stacked => cases ho
  case stop e cause =>
    unfold execStop at hx
    split at hx
    · exact State.runNoticed_aside hx fun v => (v.stopFrame_apart e cause).trans (State.failover_apart _)
    · cases hx
  case jam => cases ho
  case ready e => exact State.runNoticed_aside hx fun v => (v.readyFrame_apart e).trans (State.failover_apart _)
  case offerRepeat e => exact State.run_aside hx fun v => (v.repeatOffer_calm e).aside
  case offerWindow e =>
    exact State.runNoticed_aside hx fun v => (v.offerWindowEnds_apart e).trans (State.failover_apart _)
  case acknowledgementWindow e => exact State.runNoticed_aside hx fun v => v.ackWindowEnds_apart e
  case settleTimer e => exact State.runNoticed_aside hx fun v => (v.settleEnds_apart e).trans (State.failover_apart _)
  case silenceTimer e => exact State.runNoticed_aside hx fun v => (v.linkLost_apart e).trans (State.failover_apart _)
  case breakEnd e => exact State.runNoticed_aside hx fun v => v.breakEnds_apart e
  case takenTimeout e => exact State.runNoticed_aside hx fun v => v.timeout_apart e _
  case stackedTimeout e q => exact State.runNoticed_aside hx fun v => v.timeout_apart e _
  case tick => exact State.run_aside hx fun v => v.tick_calm.aside
  case windowShort e => cases hx; exact s.windowShort_aside e
  case windowMet e => cases hx; exact s.windowMet_aside e
  case burstTimer => exact State.run_aside hx fun v => (v.callTimer_calm v.notices.burstEnds rfl rfl).aside
  case callPattern => exact State.run_aside hx fun v => (v.callTimer_calm v.notices.patternTurns rfl rfl).aside

end Sys2Proof.Machine
end

section
/-! PROOFS. The commands that may open a sheet: each opens one at most, and posts events alone before the conditions are
settled. -/

namespace Sys2Proof.Machine

/-! ### Work on the sheets, and openings (R111, R113, R114) -/

/-- From `s` to `t` no sheet was opened and none left the ring, and events alone were posted. -/
structure State.SheetWork (s t : State) : Prop extends s.PostsOnly t where
  nextSeq : t.composer.nextSeq = s.composer.nextSeq
  nextFolio : t.composer.nextFolio = s.composer.nextFolio
  sheets : ∀ x, some x ∈ s.ring →
    ∃ y, some y ∈ t.ring ∧ y.sheet.seq = x.sheet.seq ∧ y.sheet.folio = x.sheet.folio

/-- R113, R114: a sheet opened took the next number and the next folio, and both advanced. -/
def State.OpensOne (s t : State) : Prop :=
  t.composer.nextSeq = s.composer.afterOpening.nextSeq ∧ t.composer.nextFolio = s.composer.afterOpening.nextFolio ∧
    ∃ x, some x ∈ t.ring ∧ x.sheet.seq = s.composer.nextSeq ∧ x.sheet.folio = s.composer.nextFolio

/-- From `s` to `t` events alone were posted, and with the ring in order one sheet was opened at most. -/
structure State.OpeningWork (s t : State) : Prop extends s.PostsOnly t where
  opens : s.ringSound ∧ s.runSound →
    t.composer.nextSeq = s.composer.nextSeq ∧ t.composer.nextFolio = s.composer.nextFolio ∨ s.OpensOne t

theorem State.SheetWork.refl (s : State) : s.SheetWork s := ⟨.refl s, rfl, rfl, fun x hx => ⟨x, hx, rfl, rfl⟩⟩

theorem State.SheetWork.trans {s t u : State} (h : s.SheetWork t) (k : t.SheetWork u) : s.SheetWork u where
  toPostsOnly := h.toPostsOnly.trans k.toPostsOnly
  nextSeq := k.nextSeq.trans h.nextSeq
  nextFolio := k.nextFolio.trans h.nextFolio
  sheets := fun x hx => by
    obtain ⟨y, hy, hyq, hyf⟩ := h.sheets x hx
    obtain ⟨z, hz, hzq, hzf⟩ := k.sheets y hy
    exact ⟨z, hz, hzq.trans hyq, hzf.trans hyf⟩

theorem State.SheetWork.opening {s t : State} (h : s.SheetWork t) : s.OpeningWork t :=
  ⟨h.toPostsOnly, fun _ => .inl ⟨h.nextSeq, h.nextFolio⟩⟩

/-- Work on the sheets may come before an opening. -/
theorem State.SheetWork.before {s t u : State} (h : s.SheetWork t)
    (hsound : s.ringSound ∧ s.runSound → t.ringSound ∧ t.runSound) (k : t.OpeningWork u) : s.OpeningWork u := by
  refine ⟨h.toPostsOnly.trans k.toPostsOnly, fun hs => ?_⟩
  have hopens := k.opens (hsound hs)
  simp only [State.OpensOne, h.nextSeq, h.nextFolio] at hopens ⊢
  exact hopens

/-- And it may come after one. -/
theorem State.OpeningWork.after {s t u : State} (h : s.OpeningWork t) (k : t.SheetWork u) : s.OpeningWork u := by
  refine ⟨h.toPostsOnly.trans k.toPostsOnly, fun hs => ?_⟩
  rcases h.opens hs with ⟨hq, hf⟩ | ⟨hq, hf, x, hx, hxq, hxf⟩
  · exact .inl ⟨k.nextSeq.trans hq, k.nextFolio.trans hf⟩
  · obtain ⟨y, hy, hyq, hyf⟩ := k.sheets x hx
    exact .inr ⟨k.nextSeq.trans hq, k.nextFolio.trans hf, y, hy, hyq.trans hxq, hyf.trans hxf⟩

theorem State.RingKept.sheetWork {s t : State} (h : s.RingKept t) (hp : s.PostsOnly t) : s.SheetWork t where
  toPostsOnly := hp
  nextSeq := by rw [h.composer]
  nextFolio := by rw [h.composer]
  sheets := fun x hx => ⟨x, h.ring ▸ hx, rfl, rfl⟩

/-- A change of the slots under their numbers and folios. -/
theorem State.SheetWork.of_slots {s t : State} (f : Occupied → Occupied)
    (hf : ∀ x : Occupied, (f x).sheet.seq = x.sheet.seq ∧ (f x).sheet.folio = x.sheet.folio)
    (hr : t.ring = mapSlots f s.ring) (hn : t.notices = s.notices) (hq : t.composer.nextSeq = s.composer.nextSeq)
    (ho : t.composer.nextFolio = s.composer.nextFolio) : s.SheetWork t where
  toPostsOnly := .of_notices hn
  nextSeq := hq
  nextFolio := ho
  sheets := fun x hx => ⟨f x, hr ▸ (mem_mapSlots _ _ _).mpr ⟨x, hx, rfl⟩, hf x⟩

theorem Occupied.PassesTo.seq_folio {o x : Occupied} (h : o.PassesTo x) :
    x.sheet.seq = o.sheet.seq ∧ x.sheet.folio = o.sheet.folio := by
  rcases h with rfl | ⟨-, -, hs⟩
  · exact ⟨rfl, rfl⟩
  · rw [hs]
    exact ⟨rfl, rfl⟩

/-! ### The composer's work -/

theorem State.count_sheetWork (s : State) (c : Counter) (n : Nat) : s.SheetWork (s.count c n) :=
  (s.count_ringKept c n).sheetWork (.of_notices rfl)

theorem State.removeHead_sheetWork (s : State) : s.SheetWork s.removeHead :=
  s.removeHead_ringKept.sheetWork (.of_notices rfl)

theorem State.countFits_sheetWork (s : State) (ls : List Line) : s.SheetWork (s.countFits ls) :=
  (s.countFits_ringKept ls).sheetWork (.of_notices rfl)

theorem State.modColumn_sheetWork (s : State) (f : Column → Column) : s.SheetWork (s.modColumn f) :=
  .of_slots (onAssembling fun sh => { sh with columns := sh.columns.modify (s.composer.column - 1) f })
    (fun x => by unfold onAssembling; split <;> exact ⟨rfl, rfl⟩) rfl rfl rfl rfl

/-- R84: OUT OF ORDER posts LISTING ORDER, an event. -/
theorem State.judgeLine_sheetWork (s : State) (text : Text) : s.SheetWork (s.judgeLine text) := by
  refine (s.judgeLine_ringKept text).sheetWork ?_
  unfold State.judgeLine
  cases s.keys.verdict text with
  | outOfOrder =>
    have hcounted : s.PostsOnly (({ s with keys := s.keys.afterLine text } : State).count .keyedLines 1 |>.count
        .outOfOrder 1) := .of_notices rfl
    exact hcounted.trans (State.post_postsOnly _ .listingOrder rfl)
  | _ => exact .of_notices rfl

theorem State.addOrClip_sheetWork (s : State) (p : PlacedEntry) (v : Verdict) : s.SheetWork (s.addOrClip p v) := by
  unfold State.addOrClip
  split
  · exact .refl s
  · split
    · exact s.count_sheetWork _ _
    · exact s.modColumn_sheetWork _

theorem State.closeSheet_sheetWork (s : State) (sh : Sheet) : s.SheetWork (s.closeSheet sh) :=
  .of_slots commitSlot (fun x => by unfold commitSlot; split <;> exact ⟨rfl, rfl⟩) rfl rfl rfl rfl

theorem State.flush_sheetWork (s : State) : s.SheetWork s.flush := by
  unfold State.flush
  split
  · exact .refl s
  · exact s.closeSheet_sheetWork _

theorem State.closeColumn_sheetWork (s : State) : s.SheetWork s.closeColumn := by
  unfold State.closeColumn
  split
  · exact .refl s
  · exact (s.countFits_sheetWork _).trans (State.modColumn_sheetWork _ _)

theorem State.afterColumn_sheetWork (s : State) : s.SheetWork s.afterColumn := by
  unfold State.afterColumn
  split
  · exact .refl s
  · split
    · exact s.closeSheet_sheetWork _
    · exact ⟨.of_notices rfl, rfl, rfl, fun x hx => ⟨x, hx, rfl, rfl⟩⟩

theorem State.merge_sheetWork (s : State) (p : PlacedEntry) : s.SheetWork (s.merge p) :=
  (((s.modColumn_sheetWork _).trans (State.count_sheetWork _ _ _)).trans (State.count_sheetWork _ _ _)).trans
    (State.removeHead_sheetWork _)

/-- R111: a sheet is opened. -/
theorem State.openSheet_opens (s : State) (hf : ringHasFree s.ring = true) : s.OpensOne s.openSheet := by
  rw [State.OpensOne, State.openSheet_composer, State.openSheet_ring]
  exact ⟨rfl, rfl, s.openedSlot, (mem_fillFirst ((ringHasFree_iff _).mp hf)).mpr (.inl rfl), rfl, rfl⟩

/-- R111, R112: an entry opens one sheet at most. -/
theorem State.withSheet_opening (s : State) (work : State → State) (hw : ∀ u : State, u.SheetWork (work u)) :
    s.OpeningWork (s.withSheet work) := by
  unfold State.withSheet
  split
  · exact (hw s).opening
  · split
    · next hf =>
      have hopen : s.OpeningWork s.openSheet := ⟨.of_notices rfl, fun _ => .inr (s.openSheet_opens hf)⟩
      exact hopen.after (hw _)
    · exact ⟨.of_notices rfl, fun _ => .inl ⟨rfl, rfl⟩⟩

theorem workPlacedLine_opening (x : Entry) (s : State) : s.OpeningWork (workPlacedLine x s) := by
  unfold workPlacedLine
  split
  · split
    · exact s.withSheet_opening _ fun u =>
        ((((u.modColumn_sheetWork _).trans (State.judgeLine_sheetWork _ _)).trans (State.addOrClip_sheetWork _ _ _)).trans
          (State.count_sheetWork _ _ _)).trans (State.removeHead_sheetWork _)
    · exact (State.SheetWork.refl s).opening
  all_goals exact (State.SheetWork.refl s).opening

theorem workMerge_opening (x : Entry) (s : State) : s.OpeningWork (workMerge x s) := by
  unfold workMerge
  split
  · split
    · exact (s.merge_sheetWork _).opening
    · exact (State.SheetWork.refl s).opening
  all_goals exact (State.SheetWork.refl s).opening

theorem workOwnLine_opening (x : Entry) (s : State) : s.OpeningWork (workOwnLine x s) := by
  unfold workOwnLine
  split
  · split
    · exact s.withSheet_opening _ fun u =>
        (((u.modColumn_sheetWork _).trans (State.addOrClip_sheetWork _ _ _)).trans (State.count_sheetWork _ _ _)).trans
          (State.removeHead_sheetWork _)
    · exact (State.SheetWork.refl s).opening
  all_goals exact (State.SheetWork.refl s).opening

theorem workFormEnd_opening (x : Entry) (s : State) : s.OpeningWork (workFormEnd x s) := by
  unfold workFormEnd
  split
  · exact s.withSheet_opening _ fun u =>
      (((u.modColumn_sheetWork _).trans (State.closeColumn_sheetWork _)).trans (State.afterColumn_sheetWork _)).trans
        (State.removeHead_sheetWork _)
  all_goals exact (State.SheetWork.refl s).opening

theorem workSyncMarker_opening (x : Entry) (s : State) : s.OpeningWork (workSyncMarker x s) := by
  unfold workSyncMarker
  split
  · have hmarker : ∀ u : State, u.SheetWork u.markerTaken := fun u =>
      u.markerTaken_ringKept.sheetWork (.of_notices (by rw [u.markerTaken_eq]))
    exact ((s.flush_sheetWork.trans (State.removeHead_sheetWork _)).trans (hmarker _)).opening
  all_goals exact (State.SheetWork.refl s).opening

/-- R126: a plan sets the next folio, and opens no sheet. -/
theorem workSheetPlan_postsOnly (x : Entry) (s : State) :
    s.PostsOnly (workSheetPlan x s) ∧ (workSheetPlan x s).composer.nextSeq = s.composer.nextSeq := by
  unfold workSheetPlan
  split
  · have hflush := s.flush_sheetWork
    exact ⟨hflush.toPostsOnly.trans (.of_notices rfl), hflush.nextSeq⟩
  all_goals exact ⟨.refl s, rfl⟩

/-! ### The releases (R134, R135) -/

theorem State.releaseThrough_notices (s : State) (e : Engine) (seq : Word16) :
    (s.releaseThrough e seq).notices = s.notices := by
  unfold State.releaseThrough
  generalize coveredBy (s.link e).inFlight seq = qs
  induction qs generalizing s with
  | nil => rfl
  | cons q qs ih => rw [List.foldl_cons, ih, State.release_eq]

/-- R112: a series of releases opens one sheet at most. -/
theorem State.releaseThrough_opening (s : State) (e : Engine) (seq : Word16) :
    s.OpeningWork (s.releaseThrough e seq) := by
  refine ⟨.of_notices (s.releaseThrough_notices e seq), fun hs => ?_⟩
  obtain ⟨woken, h⟩ := State.releaseThrough_released hs e seq
  rw [State.OpensOne, h.composer]
  cases woken with
  | false => exact .inl ⟨rfl, rfl⟩
  | true => exact .inr ⟨rfl, rfl, s.openedSlot, h.opened rfl, rfl, rfl⟩

theorem State.modLink_sheetWork (s : State) (e : Engine) (f : Link → Link) : s.SheetWork (s.modLink e f) :=
  (s.modLink_ringKept e f).sheetWork (s.modLink_apart e f).toPostsOnly

theorem State.leaveWork_sheetWork (s : State) (e : Engine) (target : Link → Link) : s.SheetWork (s.leaveWork e target) :=
  (s.leaveWork_ringKept e target).sheetWork (s.leaveWork_apart e target).toPostsOnly

theorem State.failover_sheetWork (s : State) : s.SheetWork s.failover :=
  s.failover_ringKept.sheetWork s.failover_apart.toPostsOnly

theorem State.returnAll_sheetWork (s : State) (e : Engine) : s.SheetWork (s.returnAll e) :=
  (s.modLink_sheetWork e _).trans
    (.of_slots (returnSlot e) (fun x => (returnSlot_passes e x).seq_folio) rfl rfl rfl rfl)

theorem State.heard_sound {s : State} (e : Engine) (hs : s.ringSound ∧ s.runSound) :
    (s.modLink e Link.heard).ringSound ∧ (s.modLink e Link.heard).runSound :=
  (s.modLink_ringKept e Link.heard).moves.keeps State.RingMove.runSound hs

theorem State.stackedFrame_opening (s : State) (e : Engine) (seq : Word16) :
    s.OpeningWork (s.stackedFrame e seq) := by
  have hheard := s.modLink_sheetWork e Link.heard
  unfold State.stackedFrame
  simp only
  split
  · exact (State.SheetWork.refl s).opening
  · split
    · have hafter : ∀ u : State, u.SheetWork (u.afterRelease e) := fun u => by
        unfold State.afterRelease
        split
        · exact u.leaveWork_sheetWork e _
        · exact .refl u
      exact ((hheard.before (State.heard_sound e) (State.releaseThrough_opening _ e seq)).after
        (State.modLink_sheetWork _ e _)).after (hafter _)
    · exact (hheard.trans (State.count_sheetWork _ _ _)).opening

theorem State.jamFrame_opening (s : State) (e : Engine) (last : Option Word16) :
    s.OpeningWork (s.jamFrame e last) := by
  have hheard := s.modLink_sheetWork e Link.heard
  have hcovered : ∀ u : State, u.OpeningWork (u.releaseCovered e last) := fun u => by
    unfold State.releaseCovered
    split
    · exact (State.SheetWork.refl u).opening
    · split
      · exact u.releaseThrough_opening e _
      · exact (State.SheetWork.refl u).opening
  unfold State.jamFrame
  simp only
  split
  · exact ((hheard.before (State.heard_sound e) (hcovered _)).after (State.returnAll_sheetWork _ e)).after
      (State.leaveWork_sheetWork _ e _)
  · exact (hheard.trans (State.modLink_sheetWork _ e _)).opening
  · exact (hheard.trans (State.modLink_sheetWork _ e _)).opening
  all_goals exact (State.SheetWork.refl s).opening

/-! ### Every command -/

/-- A command that may open a sheet, SHEET_PLAN_ENTRY apart: the due steps, its work, and the conditions settled. -/
theorem exec_mayOpen (c : Instr) (s t : State) (hx : exec c s = .next t) (ho : mayOpen c = true)
    (hc : c ≠ .sheetPlanEntry) : ∃ u, s.takeDue.OpeningWork u ∧ t = s.takeDue.settleNotices u := by
  have hhead : ∀ work : Entry → State → State, (∀ (x : Entry) (v : State), v.OpeningWork (work x v)) →
      s.takeDue.OpeningWork (s.takeDue.atHead work) := fun work hw =>
    s.takeDue.atHead_of work (State.SheetWork.refl _).opening fun x => hw x _
  cases c
  case sheetPlanEntry => exact absurd rfl hc
  case placedLine => cases hx; exact ⟨_, hhead _ workPlacedLine_opening, rfl⟩
  case overstrikeMerge => cases hx; exact ⟨_, hhead _ workMerge_opening, rfl⟩
  case lineOfItsOwn => cases hx; exact ⟨_, hhead _ workOwnLine_opening, rfl⟩
  case formEnd => cases hx; exact ⟨_, hhead _ workFormEnd_opening, rfl⟩
  case syncMarker => cases hx; exact ⟨_, hhead _ workSyncMarker_opening, rfl⟩
  case stacked e q => cases hx; exact ⟨_, (State.stackedFrame_opening _ e q).after (State.failover_sheetWork _), rfl⟩
  case jam e q => cases hx; exact ⟨_, (State.jamFrame_opening _ e q).after (State.failover_sheetWork _), rfl⟩
  all_goals cases ho

theorem exec_sheetPlanEntry_work (s t : State) (hx : exec .sheetPlanEntry s = .next t) :
    ∃ u, s.takeDue.PostsOnly u ∧ u.composer.nextSeq = s.composer.nextSeq ∧ t = s.takeDue.settleNotices u := by
  cases hx
  have hwork := s.takeDue.atHead_of (P := fun u => s.takeDue.PostsOnly u ∧ u.composer.nextSeq = s.takeDue.composer.nextSeq)
    workSheetPlan ⟨.refl _, rfl⟩ fun x => workSheetPlan_postsOnly x _
  rw [s.takeDue_aside.composer] at hwork
  exact ⟨_, hwork.1, hwork.2, rfl⟩

/-- R196, R204, R205: a NOTICE CONTROL, a NOTICE CLEAR and a read leave the composer. -/
theorem exec_composer_of_clearsNotices (c : Instr) (s t : State) (hx : exec c s = .next t) (hn : clearsNotices c = true)
    (hh : ∀ straps, c ≠ .hardwareReset straps) (hl : c ≠ .lineReset) (hr : c ≠ .tableReset) :
    t.composer = s.composer := by
  have hrefuse : ∀ (v : State) (h : Hand) (kind : CheckKind) (position : Option Nat) (detail : Nat),
      (v.refuse h kind position detail).composer = v.composer := fun v h _ _ _ => (v.refuse_calm h _ _ _).composer
  have hrow : ∀ (v : State) (kind : Nat) (fault : List Byte → Option (Nat × Nat)) (apply : List Byte → State → State),
      (∀ body, (apply body v).composer = v.composer) →
        (v.tableRow kind fault (applyFront apply)).composer = v.composer := fun v kind fault apply ha =>
    v.tableRow_of (P := fun u => u.composer = v.composer) kind fault _ rfl (hrefuse v) fun _ body => ha body
  refine Eq.trans ?_ s.takeDue_aside.composer
  cases c
  case hardwareReset straps => exact absurd rfl (hh straps)
  case lineReset => exact absurd rfl hl
  case tableReset => exact absurd rfl hr
  case tableNoticeControl => cases hx; exact hrow _ _ _ _ fun _ => rfl
  case tableNoticeClear => cases hx; exact hrow _ _ _ _ fun _ => rfl
  case queryNotices =>
    cases hx
    refine s.takeDue.endRow_of (P := fun u => u.composer = s.takeDue.composer) _ _ rfl (hrefuse _) fun h => ?_
    unfold State.endQuery
    split
    · exact hrefuse _ _ _ _ _
    · exact (State.noticesRead_ringKept _).composer
  all_goals cases hn

/-- Settles O56: a command that may open a sheet opens one at most, every other leaves the composer, and every move of the
ring keeps the run. -/
theorem sheetNumbersFormOneRun : Obligations.SheetNumbersFormOneRun := by
  unfold Obligations.SheetNumbersFormOneRun
  refine ⟨fun c s t hring hrun hx hh hl hr => ?_, fun s t hs hx =>
    ((step_ringMoves s t hx).keeps State.RingMove.runSound hs).2⟩
  have hdue := s.takeDue_aside.composer
  have hsound := s.takeDue_ringMoves.keeps State.RingMove.runSound ⟨hring, hrun⟩
  cases ho : mayOpen c with
  | true =>
    by_cases hc : c = .sheetPlanEntry
    · subst hc
      obtain ⟨u, -, hu, rfl⟩ := exec_sheetPlanEntry_work s t hx
      exact .inl ⟨hu, fun h => absurd rfl h⟩
    · obtain ⟨u, hu, rfl⟩ := exec_mayOpen c s t hx ho hc
      have hopens := hu.opens hsound
      rw [State.OpensOne, hdue] at hopens
      exact hopens.imp_left fun h => ⟨h.1, fun _ => h.2⟩
  | false =>
    have hcomposer : t.composer = s.composer := by
      cases hn : clearsNotices c with
      | true => exact exec_composer_of_clearsNotices c s t hx hn hh hl hr
      | false => exact (exec_aside c s t hx ho hn).composer
    exact .inl ⟨by rw [hcomposer], fun _ => by rw [hcomposer]⟩

end Sys2Proof.Machine
end

section
/-! PROOFS. When each condition holds, and what pends after every command. -/

namespace Sys2Proof.Machine

/-! ### The conditions (R114, R180, R187, R201) -/

theorem inSet_getLsbD (k : NoticeSet) (x : Source10) : inSet k x = k.getLsbD x.number := rfl

theorem engineStoppedHolds_iff (cfg : LinkSettings) (e : Engine) (l : Link) :
    engineStoppedHolds cfg e l = true ↔ cfg.arrangement.uses e = true ∧ (l.state = .stopped ∨
      (l.state = .broken ∨ l.state = .offering) ∧ l.hasBeenReady = true) := by
  unfold engineStoppedHolds
  cases l.state <;> simp

theorem State.inSet_engineStopped (s : State) (e : Engine) (x : Source10)
    (h : e = .a ∧ x = .engineStoppedA ∨ e = .b ∧ x = .engineStoppedB) :
    inSet s.conditions x = engineStoppedHolds s.settings e (s.link e) := by
  rw [State.inSet_conditions]
  rcases h with ⟨rfl, rfl⟩ | ⟨rfl, rfl⟩ <;> rfl

theorem degradedHolds_iff (s : State) :
    degradedHolds s = true ↔ ∃ e, s.uses e = true ∧ (s.link e).pace.degraded = true := by
  unfold degradedHolds
  rw [Bool.or_eq_true, Bool.and_eq_true, Bool.and_eq_true]
  constructor
  · rintro (h | h)
    · exact ⟨.a, h⟩
    · exact ⟨.b, h⟩
  · rintro ⟨_ | _, h⟩
    · exact .inl h
    · exact .inr h

/-- R201: the sources that are events. -/
theorem mem_events_iff (x : Source10) :
    x ∈ [Source10.engineRestored, .failover, .listingOrder, .negotiationFault, .tableRefused] ↔
      inSet conditionSources x = false := by
  cases x <;> decide

/-! ### Resets, clears and reads (R196, R204, R205, R207) -/

/-- R207: nothing pends after a reset but what rises at it, which is FOLIO LIMIT at most. -/
structure State.ResetNotices (s t : State) : Prop where
  pends : ∀ x, inSet t.notices.pending x = (inSet t.conditions x && !inSet s.conditions x)
  folio : ∀ x, inSet t.conditions x = true → x = .folioLimit

/-- From `s` to `t` sources were cleared, with the law of LATCHED mode kept. -/
structure State.Clears (s t : State) : Prop where
  conditions : t.conditions = s.conditions
  shrinks : ∀ x, inSet t.notices.pending x = true → inSet s.notices.pending x = true
  sound : s.latchedSound → t.latchedSound

/-- R204, R205: but no source whose condition is true. -/
structure State.ClearsFalse (s t : State) : Prop extends s.Clears t where
  stays : ∀ x, inSet s.conditions x = true → inSet s.notices.pending x = true → inSet t.notices.pending x = true

/-- R196: a read clears in LATCHED mode alone. -/
structure State.Reads (s t : State) : Prop extends s.Clears t where
  confirmed : s.notices.confirmed = true → t.notices.pending = s.notices.pending

theorem State.Clears.refl (s : State) : s.Clears s := ⟨rfl, fun _ => id, id⟩

theorem State.ClearsFalse.refl (s : State) : s.ClearsFalse s := ⟨.refl s, fun _ _ => id⟩

theorem State.Reads.refl (s : State) : s.Reads s := ⟨.refl s, fun _ => rfl⟩

theorem State.SoftResetTo.resetNotices {s t : State} (h : s.SoftResetTo t) : s.ResetNotices t := by
  obtain ⟨-, -, -, -, -, hpending, hconditions⟩ := h
  refine ⟨fun x => by rw [hpending, inSet_and, inSet_not], fun x hx => ?_⟩
  have hbit := congrArg (fun k => inSet k x) hconditions
  rw [show (0 : NoticeSet) = 0#10 from rfl] at hbit
  simpa [hx] using hbit

theorem State.atReset_resetNotices (straps : Straps) (s : State) :
    s.ResetNotices { State.atReset straps with pending := s.pending } := by
  have hconditions : ({ State.atReset straps with pending := s.pending } : State).conditions = 0#10 :=
    State.atReset_conditions straps
  refine ⟨fun x => ?_, fun x hx => ?_⟩
  · rw [hconditions, inSet_empty, Bool.false_and]
    exact inSet_empty x
  · rw [hconditions, inSet_empty] at hx
    cases hx

theorem State.tableReset_notices (s : State) :
    s.NoticesFollow (s.tableRow 12 noFault fun h _ t => t.resetRecord h) ∨
      s.ResetNotices (s.tableRow 12 noFault fun h _ t => t.resetRecord h) :=
  s.tableRow_of (P := fun t => s.NoticesFollow t ∨ s.ResetNotices t) _ _ _ (.inl (.refl s))
    (fun h _ _ _ => .inl (s.refuse_calm h _ _ _).aside.toNoticesFollow)
    fun h _ => .inr ((s.done h false).softResetBlocks_softResetTo.with_lp s.lp _).resetNotices

/-- A record that clears takes effect, or what pends follows. -/
theorem State.clearRow_notices (s : State) (kind : Nat) (fault : List Byte → Option (Nat × Nat))
    (apply : List Byte → State → State) (ha : ∀ body, s.ClearsFalse (s.settleNotices (apply body s))) :
    ∃ q, s.NoticesFollow q ∧ q.ClearsFalse (s.tableRow kind fault (applyFront apply)) :=
  s.tableRow_of (P := fun t => ∃ q, s.NoticesFollow q ∧ q.ClearsFalse t) _ _ _ ⟨s, .refl s, .refl s⟩
    (fun h _ _ _ => ⟨_, (s.refuse_calm h _ _ _).aside.toNoticesFollow, .refl _⟩) fun _ body =>
    ⟨s, .refl s, ⟨⟨(ha body).conditions, (ha body).shrinks, (ha body).sound⟩, (ha body).stays⟩⟩

theorem State.applyNoticeClear_clears (s : State) (n : Nat) :
    s.ClearsFalse (s.settleNotices (s.applyNoticeClear (BitVec.ofNat 10 n))) := by
  have hpending := s.settled_noticeClear_pending n
  have hshrinks : ∀ x, inSet (s.settleNotices (s.applyNoticeClear (BitVec.ofNat 10 n))).notices.pending x = true →
      inSet s.notices.pending x = true := fun x hx => by
    rw [hpending, Bool.and_eq_true] at hx
    exact hx.1
  refine ⟨⟨rfl, hshrinks, fun hs => ?_⟩, fun x hc hp => ?_⟩
  · rw [State.latchedSound_iff] at hs ⊢
    exact fun x hm hx hp => hs x hm hx (hshrinks x hp)
  · rw [hpending, hc, hp]
    simp

theorem State.applyNoticeControl_clears (s : State) (mask : NoticeSet) (confirmed : Bool) :
    s.ClearsFalse (s.settleNotices (s.applyNoticeControl mask confirmed)) := by
  have hpending := s.settled_noticeControl_pending mask confirmed
  refine ⟨⟨rfl, fun x hx => ?_, fun hs => ?_⟩, fun x hc hp => ?_⟩
  · rw [hpending, Bool.and_eq_true] at hx
    exact hx.1
  · rw [State.latchedSound_iff] at hs ⊢
    intro x hm hx hp
    have hm : confirmed = false := hm
    rw [hpending, hm, hx, Bool.and_eq_true] at hp
    obtain ⟨hp, hkept⟩ := hp
    show inSet s.conditions x = true
    cases hmode : s.notices.confirmed with
    | true => simpa [hmode] using hkept
    | false => exact hs x hmode hx hp
  · rw [hpending, hc, hp]
    simp

theorem State.noticesRead_reads (s : State) : s.Reads s.noticesRead := by
  unfold State.noticesRead
  split
  · exact .refl s
  · next hm =>
    have hempty : ∀ x, inSet ({ s with notices := s.notices.setPending 0 } : State).notices.pending x = false := fun x =>
      inSet_empty x
    refine ⟨⟨rfl, fun x hx => ?_, fun _ => (State.latchedSound_iff _).mpr fun x _ _ hx => ?_⟩, fun h => absurd h hm⟩
    all_goals
      rw [hempty] at hx
      cases hx

/-- R196: END of QUERY NOTICES reads what pends, or what pends follows. -/
theorem State.queryNotices_notices (s : State) :
    ∃ q, s.NoticesFollow q ∧ q.Reads (s.queryRow 3 fun h t => t.noticesRead.respond h t.noticeBytes) := by
  refine s.endRow_of (P := fun t => ∃ q, s.NoticesFollow q ∧ q.Reads t) _ _ ⟨s, .refl s, .refl s⟩
    (fun h _ _ _ => ⟨_, (s.refuse_calm h _ _ _).aside.toNoticesFollow, .refl _⟩) fun h => ?_
  unfold State.endQuery
  split
  · exact ⟨_, (s.refuse_calm _ _ _ _).aside.toNoticesFollow, .refl _⟩
  · have hread := s.noticesRead_reads
    exact ⟨s, .refl s, ⟨⟨hread.conditions, hread.shrinks, hread.sound⟩, hread.confirmed⟩⟩

/-! ### Every command -/

/-- A command that neither resets nor reads nor clears by itself: what pends follows. -/
theorem exec_noticesFollow (c : Instr) (s t : State) (hx : exec c s = .next t) (hn : clearsNotices c = false) :
    s.NoticesFollow t := by
  have hdue := s.takeDue_aside.toNoticesFollow
  cases ho : mayOpen c with
  | false => exact (exec_aside c s t hx ho hn).toNoticesFollow
  | true =>
    by_cases hc : c = .sheetPlanEntry
    · subst hc
      obtain ⟨u, hu, -, rfl⟩ := exec_sheetPlanEntry_work s t hx
      exact hdue.trans hu.settled
    · obtain ⟨u, hu, rfl⟩ := exec_mayOpen c s t hx ho hc
      exact hdue.trans hu.toPostsOnly.settled

/-- R196, R202 to R207: what pends after a command, by the kind of command. -/
theorem exec_notices (c : Instr) (s t : State) (hx : exec c s = .next t) :
    s.NoticesFollow t ∨
      (((∃ straps, c = .hardwareReset straps) ∨ c = .lineReset ∨ c = .tableReset) ∧
        ∃ q : State, q.composer = s.composer ∧ q.ResetNotices t) ∨
      ((c = .tableNoticeControl ∨ c = .tableNoticeClear) ∧ ∃ q, s.NoticesFollow q ∧ q.ClearsFalse t) ∨
      (c = .queryNotices ∧ ∃ q, s.NoticesFollow q ∧ q.Reads t) := by
  have hdue := s.takeDue_aside
  cases hn : clearsNotices c with
  | false => exact .inl (exec_noticesFollow c s t hx hn)
  | true =>
    cases c
    case hardwareReset straps =>
      cases hx
      exact .inr (.inl ⟨.inl ⟨straps, rfl⟩, s, rfl, s.atReset_resetNotices straps⟩)
    case lineReset =>
      cases hx
      have hreset := s.takeDue.softResetBlocks_softResetTo.resetNotices
      exact .inr (.inl ⟨.inr (.inl rfl), s.takeDue, hdue.composer, ⟨hreset.pends, hreset.folio⟩⟩)
    case tableReset =>
      cases hx
      rcases s.takeDue.tableReset_notices with h | h
      · exact .inl (hdue.toNoticesFollow.trans h)
      · exact .inr (.inl ⟨.inr (.inr rfl), s.takeDue, hdue.composer, h⟩)
    case tableNoticeControl =>
      cases hx
      obtain ⟨q, hq, hc⟩ := s.takeDue.clearRow_notices 8 noticeControlFault
        (fun body t => t.applyNoticeControl (BitVec.ofNat 10 (wordAt body 0)) (byteAt body 2 == 1)) fun _ =>
          s.takeDue.applyNoticeControl_clears _ _
      exact .inr (.inr (.inl ⟨.inl rfl, q, hdue.toNoticesFollow.trans hq, hc⟩))
    case tableNoticeClear =>
      cases hx
      obtain ⟨q, hq, hc⟩ := s.takeDue.clearRow_notices 9 noticeClearFault
        (fun body t => t.applyNoticeClear (BitVec.ofNat 10 (wordAt body 0))) fun _ =>
          s.takeDue.applyNoticeClear_clears _
      exact .inr (.inr (.inl ⟨.inr rfl, q, hdue.toNoticesFollow.trans hq, hc⟩))
    case queryNotices =>
      cases hx
      obtain ⟨q, hq, hr⟩ := s.takeDue.queryNotices_notices
      exact .inr (.inr (.inr ⟨rfl, q, hdue.toNoticesFollow.trans hq, hr⟩))
    all_goals cases hn

/-- R202: a rise pends, but for one that QUERY NOTICES reads. -/
theorem exec_rises (c : Instr) (s t : State) (x : Source10) (hx : exec c s = .next t) (hs : inSet s.conditions x = false)
    (ht : inSet t.conditions x = true) (hc : c ≠ .queryNotices) : inSet t.notices.pending x = true := by
  rcases exec_notices c s t hx with h | ⟨-, q, hq, h⟩ | ⟨-, q, hq, h⟩ | ⟨rfl, -⟩
  · exact h.rises x hs ht
  · obtain rfl := h.folio x ht
    have hfolio : inSet q.conditions .folioLimit = inSet s.conditions .folioLimit := by
      rw [State.inSet_conditions, State.inSet_conditions, hq]
    rw [h.pends, ht, hfolio, hs]
    rfl
  · rw [h.conditions] at ht
    exact h.stays x ht (hq.rises x hs ht)
  · exact absurd rfl hc

/-- What is cleared after the conditions fell does not pend. -/
theorem State.NoticesFollow.falls_of_clears {s q t : State} (hq : s.NoticesFollow q) (h : q.Clears t) {x : Source10}
    (hs : inSet s.conditions x = true) (ht : inSet t.conditions x = false) (hm : s.notices.confirmed = false) :
    inSet t.notices.pending x = false := by
  rw [h.conditions] at ht
  have hfall := hq.falls x hs ht hm
  exact Bool.eq_false_iff.mpr fun hp => by
    rw [h.shrinks x hp] at hfall
    cases hfall

/-- R203: in LATCHED mode a fall clears. -/
theorem exec_falls (c : Instr) (s t : State) (x : Source10) (hx : exec c s = .next t) (hs : inSet s.conditions x = true)
    (ht : inSet t.conditions x = false) (hm : s.notices.confirmed = false) : inSet t.notices.pending x = false := by
  rcases exec_notices c s t hx with h | ⟨-, q, -, h⟩ | ⟨-, q, hq, h⟩ | ⟨-, q, hq, h⟩
  · exact h.falls x hs ht hm
  · rw [h.pends, ht]
    rfl
  · exact hq.falls_of_clears h.toClears hs ht hm
  · exact hq.falls_of_clears h.toClears hs ht hm

/-- R203, R204: what pends stays pending in CONFIRMED mode, and an event in LATCHED mode until it is read. -/
theorem exec_keepsPending (c : Instr) (s t : State) (x : Source10) (hx : exec c s = .next t)
    (hp : inSet s.notices.pending x = true) (hh : ∀ straps, c ≠ .hardwareReset straps) (hl : c ≠ .lineReset)
    (hr : c ≠ .tableReset) (hcl : c ≠ .tableNoticeClear) (hco : c ≠ .tableNoticeControl)
    (hm : s.notices.confirmed = true ∨ c ≠ .queryNotices ∧ inSet conditionSources x = false) :
    inSet t.notices.pending x = true := by
  rcases exec_notices c s t hx with h | ⟨⟨straps, hc⟩ | hc | hc, -⟩ | ⟨hc | hc, -⟩ | ⟨hc, q, hq, h⟩
  · exact h.keeps x (hm.imp_right fun h => h.2) hp
  · exact absurd hc (hh straps)
  · exact absurd hc hl
  · exact absurd hc hr
  · exact absurd hc hco
  · exact absurd hc hcl
  · have hm := hm.resolve_right fun h => h.1 hc
    rw [h.confirmed (hq.confirmed.trans hm)]
    exact hq.keeps x (.inl hm) hp

/-- R203: every command keeps the law of LATCHED mode. -/
theorem exec_latchedSound (c : Instr) (s t : State) (hx : exec c s = .next t) (hs : s.latchedSound) : t.latchedSound := by
  rcases exec_notices c s t hx with h | ⟨-, q, -, h⟩ | ⟨-, q, hq, h⟩ | ⟨-, q, hq, h⟩
  · exact h.latchedSound hs
  · refine (State.latchedSound_iff t).mpr fun x _ _ hp => ?_
    rw [h.pends, Bool.and_eq_true] at hp
    exact hp.1
  · exact h.sound (hq.latchedSound hs)
  · exact h.sound (hq.latchedSound hs)

theorem step_latchedSound (s t : State) (hx : step s = .next t) (hs : s.latchedSound) : t.latchedSound := by
  unfold step at hx
  split at hx
  · cases hx
    exact s.takeDue_aside.toNoticesFollow.latchedSound hs
  · exact exec_latchedSound _ _ t hx hs

/-- Settles O59: the sources and the conditions by their definitions, and the rest by what pends after each kind of
command. -/
theorem latchedConditionsAreTrue : Obligations.LatchedConditionsAreTrue := by
  unfold Obligations.LatchedConditionsAreTrue
  refine ⟨fun k x hx => ?_, fun s => ⟨fun e x h => ?_, ?_, ?_, ?_, fun x hx => ?_⟩, fun c s t x hx =>
    ⟨exec_rises c s t x hx, exec_falls c s t x hx, fun hp hh hl hr hcl hco hm => ?_⟩, fun s t hs hx =>
    step_latchedSound s t hx hs⟩
  · have hnumber : ∀ y ∈ ([(.engineStoppedA, 0), (.engineStoppedB, 1), (.engineRestored, 2), (.failover, 3), (.degraded, 4),
        (.listingOrder, 5), (.ringFull, 6), (.folioLimit, 7), (.negotiationFault, 8), (.tableRefused, 9)] :
        List (Source10 × Nat)), y.1.number = y.2 := by decide
    rw [inSet_getLsbD, hnumber x hx]
  · rw [s.inSet_engineStopped e x h]
    exact engineStoppedHolds_iff _ _ _
  · rw [State.inSet_conditions]
    exact degradedHolds_iff s
  · rw [State.ringFull_iff_waiting]
  · rw [State.inSet_conditions]
    exact beq_iff_eq
  · have hevent := (mem_events_iff x).mp hx
    exact Bool.eq_false_iff.mpr fun h => by
      rw [State.mem_conditionSources h] at hevent
      cases hevent
  · exact exec_keepsPending c s t x hx hp hh hl hr hcl hco (hm.imp_right fun h => ⟨h.1, (mem_events_iff x).mp h.2⟩)

end Sys2Proof.Machine
end

section
/-! PROOFS. The frames of a transfer and its header items. -/

namespace Sys2Proof.Machine

/-! ### RUN and MARK frames (R169, R170) -/

/-- R169: the base of a line, and its overstrike in M1 and M2. -/
theorem lineFrames_eq (mode : Mode) (left : Nat) (l : Line) :
    lineFrames mode left l =
      Frame.run left l.baseline l.fit.step .base l.fit.baseText ::
        match mode, l.fit.overText with
        | .fine, some t => [.run left l.baseline l.fit.step .overstrike t]
        | .standard, some t => [.run left l.baseline l.fit.step .overstrike t]
        | _, _ => [] := by
  unfold lineFrames
  cases mode <;> cases l.fit.overText <;> rfl

/-- R169: the lines of the bound columns, in column and line order. -/
theorem runFrames_eq (mode : Mode) (sh : Sheet) :
    runFrames mode sh = sh.columns.flatMap fun c => match c.binding with
      | none => []
      | some b => c.lines.flatMap fun l =>
        Frame.run b.left l.baseline l.fit.step .base l.fit.baseText ::
          match mode, l.fit.overText with
          | .fine, some t => [.run b.left l.baseline l.fit.step .overstrike t]
          | .standard, some t => [.run b.left l.baseline l.fit.step .overstrike t]
          | _, _ => [] := by
  refine congrArg (fun f => sh.columns.flatMap f) (funext fun c => ?_)
  unfold columnFrames
  cases c.binding with
  | none => rfl
  | some b => exact congrArg (fun f => c.lines.flatMap f) (funext fun l => lineFrames_eq mode b.left l)

/-- R170: M4 PLAIN sends no MARK. -/
theorem markFrames_eq (mode : Mode) (sh : Sheet) :
    markFrames mode sh = if mode = .plain then [] else sh.marks.map .mark := by
  cases mode <;> rfl

/-! ### Header items (R123, R168) -/

/-- The digits of a number from 1 that has at most `k` of them. -/
theorem decimalDigits_eq : ∀ (k n : Nat), 1 ≤ n → n < 10 ^ k → decimalDigits k n = (Nat.digits 10 n).reverse
  | 0, n, h1, hn => by omega
  | k + 1, n, h1, hn => by
    rw [Nat.digits_of_two_le_of_pos (by decide) h1, List.reverse_cons, decimalDigits]
    split
    · next h => simp [Nat.div_eq_of_lt h, Nat.mod_eq_of_lt h]
    · next h => rw [decimalDigits_eq k (n / 10) (by omega) (by omega)]

theorem reissueItems_of_ne (p : SheetPlan) (count : Nat) (h : count ≠ 0) :
    reissueItems p count =
      [⟨.reissue, p.rightEdge - (decimalDigits 5 count).length * p.cellWidth, p.markerBaseline, [],
        decimalDigits 5 count⟩] :=
  if_neg h

/-- Settles O42: the frames by their lists, the digits by recursion on their number, and each header item by its own
definition. -/
theorem sheetFramesFollowTheMode : Obligations.SheetFramesFollowTheMode := by
  unfold Obligations.SheetFramesFollowTheMode
  refine ⟨fun mode sh => ⟨rfl, runFrames_eq mode sh, markFrames_eq mode sh⟩, fun n h1 hn => decimalDigits_eq 5 n h1 hn, ?_⟩
  rintro sh p left right base marker rfl rfl rfl rfl rfl
  refine ⟨fun h => if_pos h, fun h => ⟨guideItems sh.plan sh.guides, folioItems sh.plan sh.folio,
    faultItems sh.plan sh.seqFault, reissueItems sh.plan sh.reissue, if_neg h, fun hg => ?_, fun g hg => ?_, fun hf => ?_,
    fun n ds hf hds => ?_, rfl, fun hr => if_pos hr, fun ds hr hds => ?_⟩⟩
  · rw [hg]
    rfl
  · rw [hg]
    rfl
  · rw [hf]
    rfl
  · rw [hf, hds]
    rfl
  · rw [hds]
    exact reissueItems_of_ne sh.plan sh.reissue hr

end Sys2Proof.Machine
end

section
/-! PROOFS. What a series of releases writes: the link, the counters and the frame, and the slots by the sheets covered. -/

namespace Sys2Proof.Machine

/-! ### The Pace Monitor and the sheets covered (R174, R185) -/

theorem PaceMonitor.countRelease_of_open (cfg : LinkSettings) (p : PaceMonitor) (h : p.sOver = false) :
    p.countRelease cfg = if p.s = 255 then { p with s := 0, sOver := true } else { p with s := p.s + 1 } := by
  unfold PaceMonitor.countRelease
  simp only [h, Bool.false_eq_true, if_false]

/-- R186: the second of two releases counts in the new window. -/
theorem PaceMonitor.countRelease_of_over (cfg : LinkSettings) (p : PaceMonitor) (h : p.sOver = true) :
    p.countRelease cfg = (p.endMet cfg).countRelease cfg := by
  have hopen : (p.endMet cfg).sOver = false := rfl
  rw [PaceMonitor.countRelease_of_open cfg _ hopen]
  unfold PaceMonitor.countRelease
  simp only [h, if_true]

theorem coveredBy_eq (l : List InFlight) (seq : Word16) (before after : List Word16)
    (hl : l.map (fun i => i.seq) = before ++ seq :: after) (hb : seq ∉ before) : coveredBy l seq = before ++ [seq] := by
  have hbefore : before.takeWhile (fun q => q != seq) = before :=
    List.takeWhile_eq_self_iff.mpr fun q hq => bne_iff_ne.mpr fun he => hb (he ▸ hq)
  rw [coveredBy, hl, List.takeWhile_append, hbefore, if_pos rfl, List.takeWhile_cons_of_neg (by simp), List.append_nil]

theorem mem_of_mem_coveredBy {l : List InFlight} {seq q : Word16} (hs : seq ∈ l.map (fun i => i.seq))
    (h : q ∈ coveredBy l seq) : q ∈ l.map (fun i => i.seq) := by
  rcases List.mem_append.mp h with h | h
  · exact (List.takeWhile_prefix _).subset h
  · rwa [List.mem_singleton.mp h]

theorem State.holdsSeq_iff (s : State) (e : Engine) (seq : Word16) :
    s.holdsSeq e seq = true ↔ seq ∈ (s.link e).inFlight.map fun i => i.seq := by
  simp [State.holdsSeq]

/-! ### What a release writes (R134, R174, R185) -/

/-- `t` is `s` but for what the releases and the links of the engines reach. -/
abbrev State.EngineOnly (s t : State) : Prop :=
  t = { s with
    linkA := t.linkA
    linkB := t.linkB
    ring := t.ring
    composer := t.composer
    dispatcher := { s.dispatcher with active := t.dispatcher.active }
    counters := t.counters
    notices := t.notices }

theorem State.EngineOnly.trans {s t u : State} (h : s.EngineOnly t) (k : t.EngineOnly u) : s.EngineOnly u := by
  unfold State.EngineOnly at *
  rw [k, h]

theorem State.LinksOnly.engineOnly {s t : State} (h : s.LinksOnly t) : s.EngineOnly t := by
  unfold State.EngineOnly
  rw [h]

theorem State.release_engineOnly (s : State) (e : Engine) (q : Word16) : s.EngineOnly (s.release e q) := by
  unfold State.EngineOnly
  rw [State.release_eq]

@[simp] theorem State.release_settings (s : State) (e : Engine) (q : Word16) : (s.release e q).settings = s.settings := by
  rw [State.release_eq]

theorem State.release_link (s : State) (e : Engine) (q : Word16) :
    (s.release e q).link e = (s.link e).release s.settings q := by
  rw [State.release_eq]
  cases e <;> rfl

theorem State.release_link_other (s : State) (e : Engine) (q : Word16) :
    (s.release e q).link (otherEngine e) = s.link (otherEngine e) := by
  rw [State.release_eq]
  cases e <;> rfl

theorem State.count_count (s : State) (c : Counter) (m n : Nat) : (s.count c m).count c n = s.count c (m + n) := by
  unfold State.count
  simp [Vector.get_eq_getElem, countUp_countUp]

theorem State.count_zero (s : State) (c : Counter) : s.count c 0 = s := by
  unfold State.count
  simp [Vector.get_eq_getElem]

/-- R134: a series of releases counts each. -/
theorem State.foldl_release_counters (e : Engine) : ∀ (qs : List Word16) (s : State),
    (qs.foldl (fun t q => t.release e q) s).counters = (s.count (stackedCounter e) qs.length).counters
  | [], s => by rw [List.foldl_nil, List.length_nil, State.count_zero]
  | q :: qs, s => by
    have hone : (s.release e q).counters = (s.count (stackedCounter e) 1).counters := by rw [State.release_eq]
    rw [List.foldl_cons, State.foldl_release_counters e qs, State.count_counters_congr hone, State.count_count,
      List.length_cons, Nat.add_comm]

theorem State.foldl_release_engineOnly (e : Engine) : ∀ (qs : List Word16) (s : State),
    s.EngineOnly (qs.foldl (fun t q => t.release e q) s)
  | [], _ => rfl
  | q :: qs, s => (s.release_engineOnly e q).trans (State.foldl_release_engineOnly e qs _)

theorem State.foldl_release_link_other (e : Engine) : ∀ (qs : List Word16) (s : State),
    (qs.foldl (fun t q => t.release e q) s).link (otherEngine e) = s.link (otherEngine e)
  | [], _ => rfl
  | q :: qs, s => (State.foldl_release_link_other e qs _).trans (s.release_link_other e q)

/-- R174: the link after the releases of these sheets. -/
def Link.releaseAll (cfg : LinkSettings) (covered : List Word16) (l : Link) : Link :=
  { l with
    inFlight := l.inFlight.filter fun i => !covered.contains i.seq
    writing := l.writing.filter fun w => !covered.contains w.seq
    pace := (PaceMonitor.countRelease cfg)^[covered.length] l.pace }

theorem filter_not_contains_cons {α : Type} (seq : α → Word16) (q : Word16) (qs : List Word16) (l : List α) :
    (l.filter fun a => seq a != q).filter (fun a => !qs.contains (seq a)) =
      l.filter fun a => !(q :: qs).contains (seq a) := by
  rw [List.filter_filter]
  exact List.filter_congr fun a _ => by
    rw [List.contains_cons, Bool.not_or, Bool.and_comm]
    rfl

theorem State.foldl_release_link (e : Engine) : ∀ (qs : List Word16) (s : State),
    (qs.foldl (fun t q => t.release e q) s).link e = (s.link e).releaseAll s.settings qs
  | [], s => by simp [Link.releaseAll]
  | q :: qs, s => by
    rw [List.foldl_cons, State.foldl_release_link e qs, State.release_link, State.release_settings]
    unfold Link.releaseAll Link.release
    simp only [filter_not_contains_cons, List.length_cons, Function.iterate_succ_apply]

/-! ### The slots by the sheets covered (R134, R135) -/

/-- The sheets covered are in flight on the engine. -/
def State.InFlightCovered (s : State) (e : Engine) (covered : List Word16) : Prop :=
  ∀ x, some x ∈ s.ring → x.sheet.seq ∈ covered → x.phase.inFlightOn e = true

/-- R141: so they are when each is named by the in-flight list. -/
theorem State.inFlightCovered_of_flightSound {s : State} (hs : s.ringSound ∧ s.runSound) (hf : s.flightSound) (e : Engine)
    {seq : Word16} (h : s.holdsSeq e seq = true) : s.InFlightCovered e (coveredBy (s.link e).inFlight seq) := by
  intro x hx hq
  have hflight := ((hf e).2 _).mp (mem_of_mem_coveredBy ((s.holdsSeq_iff e seq).mp h) hq)
  obtain ⟨o, ho, hy⟩ := List.mem_filterMap.mp hflight
  cases o with
  | none => cases hy
  | some y =>
    simp only at hy
    split at hy
    · next hyf => exact eq_of_seq_eq (State.seqsOf_nodup hs) ho hx (Option.some.inj hy) ▸ hyf
    · cases hy

section
variable {s : State} {e : Engine} {covered : List Word16}

theorem finishCovered_of_not_mem {x : Occupied} (h : x.sheet.seq ∉ covered) : finishCovered e covered x = x :=
  if_neg fun hq => h hq.1

theorem State.InFlightCovered.finishCovered (h : s.InFlightCovered e covered) {x : Occupied} (hx : some x ∈ s.ring)
    (hq : x.sheet.seq ∈ covered) : finishCovered e covered x = ⟨.finished e, x.sheet⟩ :=
  if_pos ⟨hq, h x hx hq⟩

theorem State.InFlightCovered.isFinished_iff (h : s.InFlightCovered e covered) {x : Occupied} (hx : some x ∈ s.ring) :
    (Machine.finishCovered e covered x).phase.isFinished = true ↔
      x.phase.isFinished = true ∨ x.sheet.seq ∈ covered := by
  by_cases hq : x.sheet.seq ∈ covered
  · rw [h.finishCovered hx hq]
    exact iff_of_true rfl (.inr hq)
  · rw [finishCovered_of_not_mem hq, or_iff_left hq]

/-- R135: a sheet leaves the ring when it is released or FINISHED, and every older one is. -/
theorem State.InFlightCovered.not_standsAfter_iff (hs : s.ringSound ∧ s.runSound) (h : s.InFlightCovered e covered)
    {x : Occupied} (hx : some x ∈ s.ring) :
    ¬s.standsAfter e covered x ↔ (x.phase.isFinished = true ∨ x.sheet.seq ∈ covered) ∧
      ∀ y, some y ∈ s.ring → s.age x.sheet.seq < s.age y.sheet.seq → y.phase.isFinished = true ∨ y.sheet.seq ∈ covered := by
  have hdone : ¬s.standsAfter e covered x ↔ ∀ y, some y ∈ s.ring → s.age x.sheet.seq ≤ s.age y.sheet.seq →
      (y.phase.isFinished = true ∨ y.sheet.seq ∈ covered) := by
    simp only [State.standsAfter, not_exists, not_and, Bool.not_eq_false]
    exact forall_congr' fun y => imp_congr_right fun hy => imp_congr_right fun _ => h.isFinished_iff hy
  rw [hdone]
  constructor
  · exact fun hall => ⟨hall x hx le_rfl, fun y hy hlt => hall y hy hlt.le⟩
  · rintro ⟨hself, holder⟩ y hy hle
    rcases hle.lt_or_eq with hlt | heq
    · exact holder y hy hlt
    · obtain rfl := eq_of_seq_eq (State.seqsOf_nodup hs) hx hy (ageBelow_inj heq)
      exact hself

theorem State.InFlightCovered.leavesGap_iff (hs : s.ringSound ∧ s.runSound) (h : s.InFlightCovered e covered) :
    s.leavesGap e covered ↔ none ∈ s.ring ∨ s.frees covered := by
  refine or_congr_right (exists_congr fun x => and_congr_right fun hx => ?_)
  rw [h.not_standsAfter_iff hs hx]

/-! ### The slots after the releases of a STACKED (R112, R134, R135) -/

variable {woken : Bool} {u : State}

/-- Every sheet neither FINISHED nor released stands as it was. -/
theorem State.Released.mem_of_neither (h : s.Released e covered woken u) {x : Occupied} (hx : some x ∈ s.ring)
    (hf : x.phase.isFinished = false) (hq : x.sheet.seq ∉ covered) : some x ∈ u.ring := by
  have hsame := finishCovered_of_not_mem (e := e) hq
  have hkept := h.kept x hx ⟨x, hx, le_rfl, hsame.symm ▸ hf⟩
  rwa [hsame] at hkept

/-- A released or FINISHED sheet with an older one that is neither stands FINISHED. -/
theorem State.Released.mem_of_older (hc : s.InFlightCovered e covered) (h : s.Released e covered woken u) {x : Occupied}
    (hx : some x ∈ s.ring)
    (ho : ∃ y, some y ∈ s.ring ∧ y.phase.isFinished = false ∧ y.sheet.seq ∉ covered ∧
      s.age x.sheet.seq < s.age y.sheet.seq) :
    (x.sheet.seq ∈ covered → some ⟨.finished e, x.sheet⟩ ∈ u.ring) ∧ (x.sheet.seq ∉ covered → some x ∈ u.ring) := by
  obtain ⟨y, hy, hyf, hyq, hlt⟩ := ho
  have hkept := h.kept x hx ⟨y, hy, hlt.le, (finishCovered_of_not_mem (e := e) hyq).symm ▸ hyf⟩
  refine ⟨fun hq => ?_, fun hq => ?_⟩
  · rwa [hc.finishCovered hx hq] at hkept
  · rwa [finishCovered_of_not_mem hq] at hkept

/-- A sheet that does not stand is gone, and none opened takes its number. -/
theorem State.Released.gone (hs : s.ringSound ∧ s.runSound) (h : s.Released e covered woken u) {x : Occupied}
    (hx : some x ∈ s.ring) (hgone : ¬s.standsAfter e covered x) (z : Occupied) (hz : some z ∈ u.ring) :
    z.sheet.seq ≠ x.sheet.seq := fun hzx => by
  rcases h.found z hz with ⟨y, hy, rfl⟩ | ⟨-, rfl⟩
  · rw [finishCovered_sheet] at hzx
    obtain rfl := eq_of_seq_eq (State.seqsOf_nodup hs) hy hx hzx
    exact hgone (h.stands y hy hz)
  · exact State.seq_ne_nextSeq hs hx hzx.symm

/-! ### The composer that waited (R63, R112) -/

theorem assemblingSheet_of_only {r : Ring} {sh : Sheet} (hmem : some ⟨.assembling, sh⟩ ∈ r)
    (honly : ∀ x, some x ∈ r → x.phase = .assembling → x.sheet = sh) : assemblingSheet r = some sh := by
  cases ha : assemblingSheet r with
  | none => exact absurd rfl ((assemblingSheet_eq_none_iff r).mp ha _ hmem)
  | some sh' => rw [← honly _ (mem_of_assemblingSheet r sh' ha) rfl]

/-- R108, R112: no sheet is ASSEMBLING while the composer waits, so the one it opens is the only one. -/
theorem State.Released.opened_only (hs : s.ringSound) (h : s.Released e covered woken u)
    (hw : s.composer.waiting = true) {z : Occupied} (hz : some z ∈ u.ring) (ha : z.phase = .assembling) :
    z = s.openedSlot := by
  obtain ⟨-, -, hwaits⟩ := hs
  have hnone := (assemblingSheet_eq_none_iff _).mp ((assemblingCount_eq_zero_iff _).mp (hwaits hw))
  rcases h.found z hz with ⟨x, hx, rfl⟩ | ⟨-, rfl⟩
  · unfold Machine.finishCovered at ha
    split at ha
    · cases ha
    · exact absurd ha (hnone x hx)
  · rfl

/-- R63, R112, R135: the end of the wait, once the rises and falls are settled. Work after the releases may change slots
that are not ASSEMBLING, and post events. -/
theorem State.Released.endsWait {v : State} (hs : s.ringSound ∧ s.runSound) (hc : s.InFlightCovered e covered)
    (h : s.Released e covered woken u) (hcomposer : v.composer = u.composer)
    (hring : ∀ x : Occupied, x.phase = .assembling → (some x ∈ v.ring ↔ some x ∈ u.ring)) (hposts : s.PostsOnly v) :
    s.EndsWait (s.settleNotices v) covered := by
  have hstays : woken = false → (s.settleNotices v).composer = s.composer := fun hw => by
    rw [State.settleNotices_composer, hcomposer, h.composer, hw]
    rfl
  refine ⟨fun hw => hstays ?_, fun hw hn hf => hstays ?_, fun hw hgap => ?_⟩
  · exact Bool.eq_false_iff.mpr fun hwoken => by
      rw [h.waited hwoken] at hw
      cases hw
  · exact Bool.eq_false_iff.mpr fun hwoken =>
      ((hc.leavesGap_iff hs).mp (h.freed (.inl hwoken))).elim hn hf
  · obtain rfl := h.wakes hw ((hc.leavesGap_iff hs).mpr hgap)
    have hopened : some s.openedSlot ∈ v.ring := (hring _ rfl).mpr (h.opened rfl)
    have hafter : v.composer = s.composer.afterOpening := hcomposer.trans h.composer
    have hfull : inSet s.conditions .ringFull = true := by rw [State.ringFull_iff_waiting, hw]
    have hfalls : inSet v.conditions .ringFull = false := by rw [State.ringFull_iff_waiting, hafter]
    have hpends : inSet v.notices.pending .ringFull = inSet s.notices.pending .ringFull :=
      Bool.eq_iff_iff.mpr ⟨fun hp => (hposts.posts _ hp).resolve_right (by decide), hposts.keeps _⟩
    refine ⟨hafter, hopened, assemblingSheet_of_only hopened fun x hx ha => ?_, hfalls, ?_⟩
    · rw [h.opened_only hs.1 hw ((hring x ha).mp hx) ha]
    · rw [State.settleNotices_notices, edgesOn_pending, hpends, hposts.confirmed, hfull, hfalls]
      simp [Bool.and_comm]
end

end Sys2Proof.Machine
end

section
/-! PROOFS. STACKED: the sheets released, the composer that waited, the next transfer and the link. -/

namespace Sys2Proof.Machine

/-! ### The frame taken in (R157, R174) -/

theorem exec_stacked (e : Engine) (seq : Word16) (s : State) :
    exec (.stacked e seq) s = s.runNoticed fun q => (q.stackedFrame e seq).failover := rfl

theorem Link.heard_of_ready (l : Link) (h : l.state = .ready) :
    l.heard = { l with timers := { l.timers with silence := some 500 } } := by
  unfold Link.heard
  rw [h]
  rfl

/-- The ring and the composer alone say what is released and opened. -/
theorem State.Released.of_modLink {s u : State} {e x : Engine} {f : Link → Link} {covered : List Word16} {woken : Bool}
    (h : (s.modLink x f).Released e covered woken u) : s.Released e covered woken u := by
  cases x <;>
    exact ⟨⟨h.sound, h.composer, h.waited, h.found, h.kept, h.opened, h.gap, h.freed⟩, h.stands, h.wakes⟩

theorem State.heard_holdsSeq (s : State) (e : Engine) (seq : Word16) :
    (s.modLink e Link.heard).holdsSeq e seq = s.holdsSeq e seq := by
  simp [State.holdsSeq]

/-- A frame that releases through a sheet is heard first. -/
def State.heardThrough (s : State) (e : Engine) (seq : Word16) : State := (s.modLink e Link.heard).releaseThrough e seq

theorem State.heardThrough_released {s : State} (hs : s.ringSound ∧ s.runSound) (e : Engine) (seq : Word16) :
    ∃ woken, s.Released e (coveredBy (s.link e).inFlight seq) woken (s.heardThrough e seq) := by
  obtain ⟨woken, h⟩ := State.releaseThrough_released (State.heard_sound e hs) e seq
  rw [State.link_modLink_self, Link.heard_inFlight] at h
  exact ⟨woken, h.of_modLink⟩

theorem State.heardThrough_link (s : State) (e : Engine) (seq : Word16) :
    (s.heardThrough e seq).link e = (s.link e).heard.releaseAll s.settings (coveredBy (s.link e).inFlight seq) := by
  rw [State.heardThrough, State.releaseThrough, State.foldl_release_link]
  simp

theorem State.heardThrough_link_other (s : State) (e : Engine) (seq : Word16) :
    (s.heardThrough e seq).link (otherEngine e) = s.link (otherEngine e) := by
  rw [State.heardThrough, State.releaseThrough, State.foldl_release_link_other, State.link_modLink_other]

theorem State.heardThrough_engineOnly (s : State) (e : Engine) (seq : Word16) : s.EngineOnly (s.heardThrough e seq) :=
  (s.modLink_linksOnly e _).engineOnly.trans (State.foldl_release_engineOnly e _ _)

theorem State.heardThrough_counters (s : State) (e : Engine) (seq : Word16) :
    (s.heardThrough e seq).counters =
      (s.count (stackedCounter e) (coveredBy (s.link e).inFlight seq).length).counters := by
  rw [State.heardThrough, State.releaseThrough, State.foldl_release_counters,
    State.count_counters_congr (s.modLink_counters e Link.heard)]
  simp

/-! ### The link left by a release (R160, R164) -/

theorem State.leaveWork_link (s : State) (e : Engine) (target : Link → Link) :
    (s.leaveWork e target).link e =
      if s.uses e = false then (s.link e).enterOff
      else if (s.link e).draining = true then (s.link e).enterOffering s.settings
      else target (s.link e) := by
  unfold State.leaveWork
  cases s.uses e with
  | false => exact s.link_modLink_self e _
  | true =>
    cases (s.link e).draining with
    | true => exact s.link_modLink_self e _
    | false => exact s.link_modLink_self e _

theorem State.leaveWork_link_other (s : State) (e : Engine) (target : Link → Link) :
    (s.leaveWork e target).link (otherEngine e) = s.link (otherEngine e) := by
  unfold State.leaveWork
  split
  · exact s.link_modLink_other e _
  · split <;> exact s.link_modLink_other e _

theorem State.afterRelease_link_other (s : State) (e : Engine) :
    (s.afterRelease e).link (otherEngine e) = s.link (otherEngine e) := by
  unfold State.afterRelease
  split
  · exact s.leaveWork_link_other e _
  · rfl

theorem State.afterRelease_linksOnly (s : State) (e : Engine) : s.LinksOnly (s.afterRelease e) := by
  unfold State.afterRelease
  split
  · exact s.leaveWork_linksOnly e _
  · rfl

theorem State.afterRelease_of_empty (s : State) (e : Engine) (h : (s.link e).inFlight = []) :
    s.afterRelease e = s.leaveWork e id := by
  rw [State.afterRelease, h]
  rfl

/-- A link that still holds a sheet, or stays in use and does not drain, goes on as it is. -/
theorem State.afterRelease_link_of_stays (s : State) (e : Engine)
    (h : (s.link e).inFlight ≠ [] ∨ s.uses e = true ∧ (s.link e).draining = false) :
    (s.afterRelease e).link e = s.link e := by
  by_cases hempty : (s.link e).inFlight = []
  · obtain ⟨hused, hdrain⟩ := h.resolve_left fun hn => hn hempty
    rw [s.afterRelease_of_empty e hempty, State.leaveWork_link, hused, hdrain]
    rfl
  · rw [State.afterRelease, if_neg (by simpa using hempty)]

/-- What leaving work keeps of a link: what is in flight, what is written, and the Pace Monitor. -/
theorem State.afterRelease_link_keeps (s : State) (e : Engine) :
    ((s.afterRelease e).link e).inFlight = (s.link e).inFlight ∧
      ((s.afterRelease e).link e).writing = (s.link e).writing ∧ ((s.afterRelease e).link e).pace = (s.link e).pace := by
  by_cases hempty : (s.link e).inFlight = []
  · rw [s.afterRelease_of_empty e hempty, State.leaveWork_link]
    split
    · exact ⟨rfl, rfl, rfl⟩
    · split <;> exact ⟨rfl, rfl, rfl⟩
  · rw [s.afterRelease_link_of_stays e (.inl hempty)]
    exact ⟨rfl, rfl, rfl⟩

/-! ### The next transfer (R143, R167, R171) -/

/-- The SHEET BEGIN of a transfer is sent when another one was written before. -/
theorem Link.beginNext_lastSent (before : List Transfer) (l : Link) (w : Transfer) (more : List Transfer)
    (h : l.writing = w :: more) :
    (before.head?.map (fun b => b.seq) = some w.seq → (l.beginNext before).lastSent = l.lastSent) ∧
      (before.head?.map (fun b => b.seq) ≠ some w.seq → (l.beginNext before).lastSent = [w.opening]) := by
  unfold Link.beginNext
  split
  · next hn =>
    rw [hn] at h
    cases h
  · next t tail hn =>
    obtain ⟨rfl, -⟩ := List.cons.inj (h.symm.trans hn)
    exact ⟨fun hb => by rw [if_pos hb], fun hb => by rw [if_neg hb]⟩

/-! ### The whole frame (R174) -/

/-- The releases of a STACKED, and the transfer that begins then. -/
def State.stackedWork (s : State) (e : Engine) (seq : Word16) : State :=
  (s.heardThrough e seq).modLink e (Link.beginNext (s.link e).writing)

/-- The state after a STACKED that names a sheet in flight. -/
def State.afterStacked (s : State) (e : Engine) (seq : Word16) : State :=
  s.settleNotices ((s.stackedWork e seq).afterRelease e).failover

theorem State.stackedFrame_of_holds (s : State) (e : Engine) (seq : Word16) (hr : (s.link e).state = .ready)
    (hh : s.holdsSeq e seq = true) : s.stackedFrame e seq = (s.stackedWork e seq).afterRelease e := by
  have hoff : (s.link e).state ≠ .off := by
    rw [hr]
    exact LinkState.noConfusion
  have hholds : (s.modLink e Link.heard).holdsSeq e seq = true := (s.heard_holdsSeq e seq).trans hh
  unfold State.stackedFrame
  simp only
  rw [if_neg hoff, if_pos hholds]
  rfl

theorem exec_stacked_of_holds (s : State) (e : Engine) (seq : Word16) (hq : s.quiet) (hr : (s.link e).state = .ready)
    (hh : s.holdsSeq e seq = true) : exec (.stacked e seq) s = .next (s.afterStacked e seq) := by
  rw [exec_stacked, s.runNoticed_of_quiet _ hq, s.stackedFrame_of_holds e seq hr hh]
  rfl

theorem State.stackedWork_engineOnly (s : State) (e : Engine) (seq : Word16) : s.EngineOnly (s.stackedWork e seq) :=
  (s.heardThrough_engineOnly e seq).trans (State.modLink_linksOnly _ e _).engineOnly

theorem State.stackedWork_to_after (s : State) (e : Engine) (seq : Word16) :
    (s.stackedWork e seq).LinksOnly (s.afterStacked e seq) :=
  State.settleNotices_linksOnly s _ _ ((State.afterRelease_linksOnly _ e).trans (State.failover_linksOnly _))

theorem State.stackedWork_settings (s : State) (e : Engine) (seq : Word16) :
    (s.stackedWork e seq).settings = s.settings := by
  rw [s.stackedWork_engineOnly e seq]

theorem State.stackedWork_uses (s : State) (e : Engine) (seq : Word16) : (s.stackedWork e seq).uses e = s.uses e := by
  rw [State.uses, s.stackedWork_settings e seq]
  rfl

theorem State.afterStacked_link (s : State) (e x : Engine) (seq : Word16) :
    (s.afterStacked e seq).link x = ((s.stackedWork e seq).afterRelease e).link x := by
  rw [State.afterStacked, State.settleNotices_link, State.failover_link]

/-- The link before it leaves work. -/
theorem State.stackedWork_link (s : State) (e : Engine) (seq : Word16) (hr : (s.link e).state = .ready) :
    (s.stackedWork e seq).link e = Link.beginNext (s.link e).writing
      { (s.link e).releaseAll s.settings (coveredBy (s.link e).inFlight seq) with
        timers := { (s.link e).timers with silence := some 500 } } := by
  rw [State.stackedWork, State.link_modLink_self, State.heardThrough_link, Link.heard_of_ready _ hr]
  rfl

theorem State.afterStacked_ring (s : State) (e : Engine) (seq : Word16) :
    (s.afterStacked e seq).ring = (s.heardThrough e seq).ring := by
  rw [s.stackedWork_to_after e seq]
  simp [State.stackedWork]

theorem State.afterStacked_composer (s : State) (e : Engine) (seq : Word16) :
    (s.afterStacked e seq).composer = (s.heardThrough e seq).composer := by
  rw [s.stackedWork_to_after e seq]
  simp [State.stackedWork]

theorem State.afterStacked_counters (s : State) (e : Engine) (seq : Word16) :
    (s.afterStacked e seq).counters =
      (s.count (stackedCounter e) (coveredBy (s.link e).inFlight seq).length).counters := by
  rw [s.stackedWork_to_after e seq, ← s.heardThrough_counters e seq]
  simp [State.stackedWork]

/-- What is in flight and written, and the Pace Monitor. -/
theorem State.afterStacked_link_keeps (s : State) (e : Engine) (seq : Word16) (covered : List Word16)
    (hr : (s.link e).state = .ready) (hc : covered = coveredBy (s.link e).inFlight seq) :
    ((s.afterStacked e seq).link e).inFlight = (s.link e).inFlight.filter (fun i => !covered.contains i.seq) ∧
      ((s.afterStacked e seq).link e).writing = (s.link e).writing.filter (fun w => !covered.contains w.seq) ∧
      ((s.afterStacked e seq).link e).pace = (PaceMonitor.countRelease s.settings)^[covered.length] (s.link e).pace := by
  obtain ⟨hin, hwriting, hpace⟩ := (s.stackedWork e seq).afterRelease_link_keeps e
  rw [State.afterStacked_link, hin, hwriting, hpace, s.stackedWork_link e seq hr, hc]
  simp [Link.releaseAll]

theorem State.stackedWork_inFlight (s : State) (e : Engine) (seq : Word16) :
    ((s.stackedWork e seq).link e).inFlight = ((s.afterStacked e seq).link e).inFlight := by
  rw [State.afterStacked_link, ((s.stackedWork e seq).afterRelease_link_keeps e).1]

theorem State.stackedWork_draining (s : State) (e : Engine) (seq : Word16) (hr : (s.link e).state = .ready) :
    ((s.stackedWork e seq).link e).draining = (s.link e).draining := by
  rw [s.stackedWork_link e seq hr, Link.beginNext_draining]
  rfl

/-- R174: a link that goes on, with the transfer that begins then. -/
theorem State.afterStacked_stays (s : State) (e : Engine) (seq : Word16) (hr : (s.link e).state = .ready) (m : Link)
    (hm : m = (s.afterStacked e seq).link e)
    (hstays : m.inFlight ≠ [] ∨ s.uses e = true ∧ (s.link e).draining = false) :
    m = { s.link e with
        inFlight := m.inFlight
        writing := m.writing
        pace := m.pace
        lastSent := m.lastSent
        timers := { (s.link e).timers with silence := some 500 } } ∧
      (m.writing = [] → m.lastSent = (s.link e).lastSent) ∧
      ∀ w more, m.writing = w :: more →
        ((s.link e).writing.head?.map (fun b => b.seq) = some w.seq → m.lastSent = (s.link e).lastSent) ∧
        ((s.link e).writing.head?.map (fun b => b.seq) ≠ some w.seq → m.lastSent = [w.opening]) := by
  have hwork : m = (s.stackedWork e seq).link e := by
    rw [hm, State.afterStacked_link]
    apply State.afterRelease_link_of_stays
    rwa [State.stackedWork_inFlight, State.stackedWork_uses, s.stackedWork_draining e seq hr, ← hm]
  rw [s.stackedWork_link e seq hr] at hwork
  subst hwork
  refine ⟨?_, fun hw => ?_, fun w more hw => ?_⟩
  · rw [Link.beginNext_eq]
    rfl
  · rw [Link.beginNext_writing] at hw
    rw [Link.beginNext_idle _ _ hw]
    rfl
  · rw [Link.beginNext_writing] at hw
    exact Link.beginNext_lastSent _ _ w more hw

/-- R160, R164: a link left with no sheet in flight, not in use or draining. -/
theorem State.afterStacked_link_of_empty (s : State) (e : Engine) (seq : Word16)
    (hempty : ((s.afterStacked e seq).link e).inFlight = []) :
    (s.afterStacked e seq).link e = ((s.stackedWork e seq).leaveWork e id).link e := by
  rw [State.afterStacked_link, State.afterRelease_of_empty]
  rw [State.stackedWork_inFlight, hempty]

theorem State.afterStacked_off (s : State) (e : Engine) (seq : Word16)
    (hempty : ((s.afterStacked e seq).link e).inFlight = []) (hu : s.uses e = false) :
    ((s.afterStacked e seq).link e).state = .off := by
  rw [s.afterStacked_link_of_empty e seq hempty, State.leaveWork_link, State.stackedWork_uses, if_pos hu]
  rfl

theorem State.afterStacked_offering (s : State) (e : Engine) (seq : Word16) (hr : (s.link e).state = .ready)
    (hempty : ((s.afterStacked e seq).link e).inFlight = []) (hu : s.uses e = true)
    (hd : (s.link e).draining = true) :
    ((s.afterStacked e seq).link e).state = .offering ∧ ((s.afterStacked e seq).link e).draining = false ∧
      ((s.afterStacked e seq).link e).mode = none ∧
      ((s.afterStacked e seq).link e).lastSent = [.offer s.settings.advertised false] := by
  rw [s.afterStacked_link_of_empty e seq hempty, State.leaveWork_link, State.stackedWork_uses, hu,
    s.stackedWork_draining e seq hr, hd, if_neg Bool.noConfusion, if_pos rfl, State.stackedWork_settings]
  exact ⟨rfl, rfl, rfl, rfl⟩

theorem State.afterStacked_link_other (s : State) (e : Engine) (seq : Word16) :
    (s.afterStacked e seq).link (otherEngine e) = s.link (otherEngine e) := by
  rw [State.afterStacked_link, State.afterRelease_link_other, State.stackedWork, State.link_modLink_other,
    State.heardThrough_link_other]

theorem State.afterStacked_endsWait (s : State) (e : Engine) (seq : Word16) (hs : s.ringSound ∧ s.runSound)
    (hf : s.flightSound) (hr : (s.link e).state = .ready) (hh : s.holdsSeq e seq = true) :
    s.EndsWait (s.afterStacked e seq) (coveredBy (s.link e).inFlight seq) := by
  obtain ⟨woken, h⟩ := State.heardThrough_released hs e seq
  have hposts := ((s.stackedFrame_opening e seq).after (State.failover_sheetWork _)).toPostsOnly
  rw [s.stackedFrame_of_holds e seq hr hh] at hposts
  have hring := s.afterStacked_ring e seq
  exact h.endsWait hs (State.inFlightCovered_of_flightSound hs hf e hh) (s.afterStacked_composer e seq)
    (fun x _ => by rw [← hring]; rfl) hposts

/-- Settles O44: the counts and the sheets covered by their definitions, the link and the frame by what a series of releases
writes, and the ring and the composer by the slots that stand after it. -/
theorem stackedReleasesInOrder : Obligations.StackedReleasesInOrder := by
  unfold Obligations.StackedReleasesInOrder
  refine ⟨fun cfg p => ⟨fun ho hp => ?_, fun ho hp => ?_, fun ho => ?_⟩, ⟨rfl, rfl, fun l seq hseq => ?_⟩, ?_⟩
  · rw [PaceMonitor.countRelease_of_open cfg p ho, if_neg hp]
  · rw [PaceMonitor.countRelease_of_open cfg p ho, if_pos hp]
  · rw [PaceMonitor.countRelease_of_over cfg p ho]
    rfl
  · obtain ⟨before, after, hl, hb⟩ := List.eq_append_cons_of_mem hseq
    exact ⟨before, after, hl, hb, coveredBy_eq l seq before after hl hb⟩
  intro s e seq covered hq hr hh hring hrun hflight hcovered
  have hs : s.ringSound ∧ s.runSound := ⟨hring, hrun⟩
  obtain ⟨hin, hwriting, hpace⟩ := s.afterStacked_link_keeps e seq covered hr hcovered
  have hflightCovered := State.inFlightCovered_of_flightSound hs hflight e hh
  obtain ⟨woken, h⟩ := State.heardThrough_released hs e seq
  rw [← hcovered] at hflightCovered h
  have hringAfter := s.afterStacked_ring e seq
  refine ⟨s.afterStacked e seq, exec_stacked_of_holds s e seq hq hr hh, s.afterStacked_link_other e seq, hin, hwriting, hpace,
    s.afterStacked_stays e seq hr _ rfl, s.afterStacked_off e seq, fun hempty => s.afterStacked_offering e seq hr hempty,
    hcovered ▸ s.afterStacked_counters e seq, fun x hx hf hn => ?_, fun x hx hdone => ⟨fun ho => ?_, fun ho z hz => ?_⟩,
    hcovered ▸ s.afterStacked_endsWait e seq hs hflight hr hh, ?_,
    (s.stackedWork_engineOnly e seq).trans (s.stackedWork_to_after e seq).engineOnly⟩
  · rw [hringAfter]
    exact h.mem_of_neither hx hf hn
  · rw [hringAfter]
    exact h.mem_of_older hflightCovered hx ho
  · rw [hringAfter] at hz
    exact h.gone hs hx ((hflightCovered.not_standsAfter_iff hs hx).mpr ⟨hdone, ho⟩) z hz
  · rw [hringAfter, h.sound.1.1, hring.1]

end Sys2Proof.Machine
end

section
/-! PROOFS. JAM: the sheets it releases, the sheets it returns, and the link, in every link state. -/

namespace Sys2Proof.Machine

/-! ### The sheets returned (R136) -/

theorem State.returnAll_eq (s : State) (e : Engine) :
    s.returnAll e = { s with
      linkA := (s.returnAll e).linkA
      linkB := (s.returnAll e).linkB
      ring := mapSlots (returnSlot e) s.ring } := by
  cases e <;> rfl

theorem State.returnAll_link (s : State) (e : Engine) :
    (s.returnAll e).link e = { s.link e with inFlight := [], writing := [] } := by
  cases e <;> rfl

theorem State.returnAll_link_other (s : State) (e : Engine) :
    (s.returnAll e).link (otherEngine e) = s.link (otherEngine e) := by
  cases e <;> rfl

theorem SlotPhase.inFlightOn_iff (p : SlotPhase) (e : Engine) :
    p.inFlightOn e = true ↔ p = .sending e ∨ p = .sent e := by
  cases p <;> simp [SlotPhase.inFlightOn]

theorem ringReturned_mapSlots (e : Engine) (r : Ring) : ringReturned e r (mapSlots (returnSlot e) r) := by
  refine ⟨mapSlots_length _ _, fun k o ho => ?_⟩
  rw [mapSlots, List.getElem?_map, ho, Option.map_some]
  cases o with
  | none => rfl
  | some x =>
    rw [Option.map_some, returnSlot, apply_ite some]
    simp only [SlotPhase.inFlightOn_iff]

/-- Slots that pass on leave the ASSEMBLING sheets as they are. -/
theorem mem_mapSlots_assembling {f : Occupied → Occupied} (hf : ∀ o : Occupied, o.PassesTo (f o)) (r : Ring) {x : Occupied}
    (ha : x.phase = .assembling) : some x ∈ mapSlots f r ↔ some x ∈ r := by
  rw [mem_mapSlots]
  constructor
  · rintro ⟨y, hy, rfl⟩
    rcases hf y with h | ⟨-, hn, -⟩
    · rwa [h]
    · exact absurd ha hn
  · intro hx
    rcases hf x with h | ⟨hn, -, -⟩
    · exact ⟨x, hx, h⟩
    · exact absurd ha hn

/-! ### The releases of a JAM (R178) -/

theorem exec_jam (e : Engine) (last : Option Word16) (s : State) :
    exec (.jam e last) s = s.runNoticed fun q => (q.jamFrame e last).failover := rfl

/-- A JAM heard, and the sheets its number covers released. -/
def State.jamWork (s : State) (e : Engine) (last : Option Word16) : State :=
  (s.modLink e Link.heard).releaseCovered e last

theorem State.jamWork_eq (s : State) (e : Engine) (last : Option Word16) :
    s.jamWork e last = match last with
      | some q =>
        if s.holdsSeq e q then (s.setLink e (s.link e).heard).releaseThrough e q else s.setLink e (s.link e).heard
      | none => s.setLink e (s.link e).heard := by
  cases last with
  | none => rfl
  | some q =>
    unfold State.jamWork State.releaseCovered
    simp only
    rw [State.heard_holdsSeq]
    rfl

theorem State.jamWork_of_holds (s : State) (e : Engine) (q : Word16) (h : s.holdsSeq e q = true) :
    s.jamWork e (some q) = s.heardThrough e q := by
  rw [State.jamWork_eq]
  exact if_pos h

/-- R178: a number that names no sheet in flight releases none. -/
theorem State.jamWork_cases (s : State) (e : Engine) (last : Option Word16) :
    (∃ q, s.jamWork e last = s.heardThrough e q) ∨ s.jamWork e last = s.modLink e Link.heard := by
  rw [State.jamWork_eq]
  cases last with
  | none => exact .inr rfl
  | some q =>
    by_cases h : s.holdsSeq e q = true
    · exact .inl ⟨q, if_pos h⟩
    · exact .inr (if_neg h)

theorem State.jamWork_engineOnly (s : State) (e : Engine) (last : Option Word16) : s.EngineOnly (s.jamWork e last) := by
  rcases s.jamWork_cases e last with ⟨q, h⟩ | h <;> rw [h]
  · exact s.heardThrough_engineOnly e q
  · exact (s.modLink_linksOnly e _).engineOnly

theorem State.jamWork_uses (s : State) (e : Engine) (last : Option Word16) : (s.jamWork e last).uses e = s.uses e := by
  rw [s.jamWork_engineOnly e last]
  rfl

theorem State.jamWork_lastGranted (s : State) (e : Engine) (last : Option Word16) :
    (s.jamWork e last).dispatcher.lastGranted = s.dispatcher.lastGranted := by
  rw [s.jamWork_engineOnly e last]

theorem State.jamWork_draining (s : State) (e : Engine) (last : Option Word16) :
    ((s.jamWork e last).link e).draining = (s.link e).draining := by
  rcases s.jamWork_cases e last with ⟨q, h⟩ | h <;> rw [h]
  · rw [State.heardThrough_link]
    exact (s.link e).heard_draining
  · rw [State.link_modLink_self, Link.heard_draining]

theorem State.jamWork_link_other (s : State) (e : Engine) (last : Option Word16) :
    (s.jamWork e last).link (otherEngine e) = s.link (otherEngine e) := by
  rcases s.jamWork_cases e last with ⟨q, h⟩ | h <;> rw [h]
  · exact s.heardThrough_link_other e q
  · exact s.link_modLink_other e _

/-- R176, R178: a JAM counts no stray. -/
theorem State.jamWork_strays (s : State) (e : Engine) (last : Option Word16) :
    (s.jamWork e last).counter .strays = s.counter .strays := by
  rcases s.jamWork_cases e last with ⟨q, h⟩ | h <;> rw [h]
  · have hstray : Counter.strays ≠ stackedCounter e := by cases e <;> exact Counter.noConfusion
    rw [State.counter, State.heardThrough_counters]
    exact s.counter_count_ne _ _ _ hstray
  · rw [State.counter, State.modLink_counters]
    rfl

/-! ### JAM on a READY link (R136, R178) -/

/-- The releases, the returns, and the link as it leaves its work. -/
def State.jamReturned (s : State) (e : Engine) (last : Option Word16) : State :=
  ((s.jamWork e last).returnAll e).leaveWork e (Link.enterStopped .jam)

/-- The state after a JAM on a READY link. -/
def State.afterJam (s : State) (e : Engine) (last : Option Word16) : State :=
  s.settleNotices (s.jamReturned e last).failover

theorem State.jamFrame_of_ready (s : State) (e : Engine) (last : Option Word16) (hr : (s.link e).state = .ready) :
    s.jamFrame e last = s.jamReturned e last := by
  unfold State.jamFrame
  simp only [hr]
  rfl

theorem State.returned_to_afterJam (s : State) (e : Engine) (last : Option Word16) :
    ((s.jamWork e last).returnAll e).LinksOnly (s.afterJam e last) :=
  State.settleNotices_linksOnly s _ _ ((State.leaveWork_linksOnly _ e _).trans (State.failover_linksOnly _))

theorem State.afterJam_ring (s : State) (e : Engine) (last : Option Word16) :
    (s.afterJam e last).ring = mapSlots (returnSlot e) (s.jamWork e last).ring := by
  rw [s.returned_to_afterJam e last, State.returnAll_eq]

theorem State.afterJam_composer (s : State) (e : Engine) (last : Option Word16) :
    (s.afterJam e last).composer = (s.jamWork e last).composer := by
  rw [s.returned_to_afterJam e last, State.returnAll_eq]

theorem State.afterJam_strays (s : State) (e : Engine) (last : Option Word16) :
    (s.afterJam e last).counter .strays = s.counter .strays := by
  rw [← s.jamWork_strays e last, s.returned_to_afterJam e last, State.returnAll_eq]
  rfl

theorem State.afterJam_eq (s : State) (e : Engine) (last : Option Word16) :
    s.afterJam e last = { s.jamWork e last with
      ring := (s.afterJam e last).ring
      linkA := (s.afterJam e last).linkA
      linkB := (s.afterJam e last).linkB
      dispatcher := { s.dispatcher with active := (s.afterJam e last).dispatcher.active }
      notices := (s.afterJam e last).notices } := by
  have hafter := s.returned_to_afterJam e last
  rw [State.LinksOnly, State.returnAll_eq] at hafter
  have hdispatcher : ({ s.dispatcher with active := (s.afterJam e last).dispatcher.active } : Dispatcher) =
      { (s.jamWork e last).dispatcher with active := (s.afterJam e last).dispatcher.active } :=
    congrArg (Dispatcher.mk _) (s.jamWork_lastGranted e last).symm
  rw [hdispatcher, s.afterJam_ring e last]
  exact hafter

theorem State.afterJam_link (s : State) (e : Engine) (last : Option Word16) :
    (s.afterJam e last).link e =
      if s.uses e = false then ((s.jamWork e last).returnAll e).link e |>.enterOff
      else if (s.link e).draining = true then (((s.jamWork e last).returnAll e).link e).enterOffering s.settings
      else (((s.jamWork e last).returnAll e).link e).enterStopped .jam := by
  have huses : ((s.jamWork e last).returnAll e).uses e = s.uses e := by
    rw [State.returnAll_eq]
    exact s.jamWork_uses e last
  have hsettings : ((s.jamWork e last).returnAll e).settings = s.settings := by
    rw [State.returnAll_eq, s.jamWork_engineOnly e last]
  have hdraining : (((s.jamWork e last).returnAll e).link e).draining = (s.link e).draining := by
    rw [State.returnAll_link]
    exact s.jamWork_draining e last
  rw [State.afterJam, State.settleNotices_link, State.failover_link, State.jamReturned, State.leaveWork_link, huses,
    hdraining, hsettings]

theorem State.afterJam_link_empty (s : State) (e : Engine) (last : Option Word16) :
    ((s.afterJam e last).link e).inFlight = [] ∧ ((s.afterJam e last).link e).writing = [] := by
  rw [State.afterJam_link, State.returnAll_link]
  split
  · exact ⟨rfl, rfl⟩
  · split <;> exact ⟨rfl, rfl⟩

theorem State.afterJam_link_other (s : State) (e : Engine) (last : Option Word16) :
    (s.afterJam e last).link (otherEngine e) = s.link (otherEngine e) := by
  rw [State.afterJam, State.settleNotices_link, State.failover_link, State.jamReturned, State.leaveWork_link_other,
    State.returnAll_link_other, State.jamWork_link_other]

theorem State.afterJam_endsWait (s : State) (e : Engine) (q : Word16) (hs : s.ringSound ∧ s.runSound)
    (hf : s.flightSound) (hr : (s.link e).state = .ready) (hh : s.holdsSeq e q = true) :
    s.EndsWait (s.afterJam e (some q)) (coveredBy (s.link e).inFlight q) := by
  obtain ⟨woken, h⟩ := State.heardThrough_released hs e q
  rw [← s.jamWork_of_holds e q hh] at h
  have hposts := ((s.jamFrame_opening e (some q)).after (State.failover_sheetWork _)).toPostsOnly
  rw [s.jamFrame_of_ready e _ hr] at hposts
  have hring : (s.jamReturned e (some q)).failover.ring = mapSlots (returnSlot e) (s.jamWork e (some q)).ring :=
    s.afterJam_ring e (some q)
  refine h.endsWait hs (State.inFlightCovered_of_flightSound hs hf e hh) (s.afterJam_composer e (some q)) (fun x ha => ?_)
    hposts
  rw [hring]
  exact mem_mapSlots_assembling (returnSlot_passes e) _ ha

/-! ### JAM in the other link states (R157, R178) -/

/-- A change of one link, with a failover check and the notices settled, is an event at that link. -/
theorem State.settled_modLink_onlyAtLink (s : State) (e : Engine) (f : Link → Link) :
    s.OnlyAtLink (s.settleNotices (s.modLink e f).failover) e ∧
      (s.settleNotices (s.modLink e f).failover).ring = s.ring ∧
      (s.settleNotices (s.modLink e f).failover).link e = f (s.link e) := by
  have hlinks : s.LinksOnly (s.settleNotices (s.modLink e f).failover) :=
    State.settleNotices_linksOnly s _ _ ((s.modLink_linksOnly e f).trans (State.failover_linksOnly _))
  have hring : (s.settleNotices (s.modLink e f).failover).ring = s.ring := by rw [hlinks]
  have hmask : ∀ u : State, u.failover.notices.mask = u.notices.mask := fun u => by
    unfold State.failover
    simp only
    split <;> rfl
  have hkept := (s.modLink_apart e f).trans (State.failover_apart _)
  refine ⟨⟨?_, ?_, ?_, ?_⟩, hring, ?_⟩
  · rw [hring]
    exact hlinks
  · rw [State.settleNotices_link, State.failover_link, State.link_modLink_other]
  · rw [State.settleNotices_notices, edgesOn_mask, hmask, State.modLink_notices]
  · rw [State.settleNotices_notices, edgesOn_confirmed, hkept.confirmed]
  · rw [State.settleNotices_link, State.failover_link, State.link_modLink_self]

theorem State.modLink_modLink (s : State) (e : Engine) (f g : Link → Link) :
    (s.modLink e f).modLink e g = s.modLink e fun l => g (f l) := by
  cases e <;> rfl

/-- A JAM that one change of the link carries out. -/
theorem exec_jam_of_modLink (s : State) (e : Engine) (last : Option Word16) (f : Link → Link) (m : Link) (hq : s.quiet)
    (hj : s.jamFrame e last = s.modLink e f) (hm : f (s.link e) = m) :
    ∃ t, exec (.jam e last) s = .next t ∧ s.OnlyAtLink t e ∧ t.ring = s.ring ∧ t.link e = m := by
  obtain ⟨honly, hring, hlink⟩ := s.settled_modLink_onlyAtLink e f
  refine ⟨s.settleNotices (s.modLink e f).failover, ?_, honly, hring, hlink.trans hm⟩
  rw [exec_jam, s.runNoticed_of_quiet _ hq, hj]

theorem State.jamFrame_of_settling (s : State) (e : Engine) (last : Option Word16) (h : (s.link e).state = .settling) :
    s.jamFrame e last = s.modLink e fun l => l.heard.enterStopped .jam := by
  unfold State.jamFrame
  simp only [h]
  exact s.modLink_modLink e _ _

theorem State.jamFrame_of_stopped (s : State) (e : Engine) (last : Option Word16) (h : (s.link e).state = .stopped) :
    s.jamFrame e last = s.modLink e fun l => { l.heard with stopCause := some .jam } := by
  unfold State.jamFrame
  simp only [h]
  exact s.modLink_modLink e _ _

theorem State.jamFrame_of_ignored (s : State) (e : Engine) (last : Option Word16)
    (h : (s.link e).state = .offering ∨ (s.link e).state = .agreeing ∨ (s.link e).state = .broken ∨
      (s.link e).state = .off) : s.jamFrame e last = s := by
  unfold State.jamFrame
  rcases h with h | h | h | h <;> simp only [h]

theorem Link.heard_enterStopped (l : Link) (cause : StopCause) (h : l.state = .settling) :
    l.heard.enterStopped cause =
      { l with state := .stopped, stopCause := some cause, timers := ⟨none, none, none, none, some 500, none⟩ } := by
  unfold Link.heard
  rw [h]
  rfl

theorem Link.heard_stopCause (l : Link) (cause : StopCause) (h : l.state = .stopped) :
    ({ l.heard with stopCause := some cause } : Link) =
      { l with stopCause := some cause, timers := { l.timers with silence := some 500 } } := by
  unfold Link.heard
  rw [h]
  rfl

/-- Settles O46: on a READY link the releases of a STACKED and the returns of the rest; elsewhere one change of the link, or
none. -/
theorem jamReleasesThenReturns : Obligations.JamReleasesThenReturns := by
  unfold Obligations.JamReleasesThenReturns
  intro s e last hq
  refine ⟨fun hr s1 hs1 => ?_, fun h => ?_, fun h => ?_, fun h hcall hsettled => ?_⟩
  · obtain rfl : s1 = s.jamWork e last := hs1.trans (s.jamWork_eq e last).symm
    obtain ⟨hin, hwriting⟩ := s.afterJam_link_empty e last
    refine ⟨s.afterJam e last, ?_, s.afterJam_eq e last, ?_, ?_, s.afterJam_link_other e last, hin, hwriting,
      s.afterJam_strays e last, fun hu hd => ?_, fun hu hd => ?_, fun hu => ?_⟩
    · rw [exec_jam, s.runNoticed_of_quiet _ hq, s.jamFrame_of_ready e last hr]
      rfl
    · rw [s.afterJam_ring e last]
      exact ringReturned_mapSlots e _
    · rintro q rfl hh hring hrun hf
      exact s.afterJam_endsWait e q ⟨hring, hrun⟩ hf hr hh
    · rw [s.afterJam_link e last, hu, hd]
      exact ⟨rfl, rfl⟩
    · rw [s.afterJam_link e last, hu, hd]
      rfl
    · rw [s.afterJam_link e last, hu]
      rfl
  · exact exec_jam_of_modLink s e last _ _ hq (s.jamFrame_of_settling e last h) ((s.link e).heard_enterStopped .jam h)
  · exact exec_jam_of_modLink s e last _ _ hq (s.jamFrame_of_stopped e last h) ((s.link e).heard_stopCause .jam h)
  · rw [exec_jam, s.runNoticed_of_quiet _ hq, s.jamFrame_of_ignored e last h, s.failover_of_settled hsettled,
      State.settleNotices_same s s rfl hcall]

end Sys2Proof.Machine
end

section
/-! PROOFS. The flights: what the in-flight lists and the slots SENDING and SENT are to each other, and the two kinds of move
between them. A sheet lands when its number leaves the list of its engine; it takes off at a grant. -/

namespace Sys2Proof.Machine

/-! ### Slots in flight and slots SENDING (R141) -/

/-- The numbers in the in-flight list of an engine. -/
def State.flights (s : State) (e : Engine) : List Word16 := (s.link e).inFlight.map fun i => i.seq

theorem mem_inFlightSlots (e : Engine) (r : Ring) (q : Word16) :
    q ∈ inFlightSlots e r ↔ ∃ x, some x ∈ r ∧ x.phase.inFlightOn e = true ∧ x.sheet.seq = q := by
  rw [inFlightSlots, List.mem_filterMap]
  constructor
  · rintro ⟨_ | x, hx, hq⟩
    · cases hq
    · exact ⟨x, hx, by simpa [ite_eq_iff] using hq⟩
  · rintro ⟨x, hx, hf, rfl⟩
    exact ⟨some x, hx, if_pos hf⟩

theorem mem_sendingSlots (e : Engine) (r : Ring) (q : Word16) :
    q ∈ sendingSlots e r ↔ ∃ x, some x ∈ r ∧ x.phase = .sending e ∧ x.sheet.seq = q := by
  rw [sendingSlots, List.mem_filterMap]
  constructor
  · rintro ⟨_ | x, hx, hq⟩
    · cases hq
    · exact ⟨x, hx, by simpa [ite_eq_iff] using hq⟩
  · rintro ⟨x, hx, hp, rfl⟩
    exact ⟨some x, hx, if_pos hp⟩

theorem sendingSlots_cons_some (e : Engine) (x : Occupied) (r : Ring) :
    sendingSlots e (some x :: r) =
      if x.phase = .sending e then x.sheet.seq :: sendingSlots e r else sendingSlots e r := by
  unfold sendingSlots
  rw [List.filterMap_cons]
  by_cases h : x.phase = .sending e <;> simp [h]

/-- A sheet is in flight on one engine at most. -/
theorem SlotPhase.inFlightOn_unique {p : SlotPhase} {e x : Engine} (h : p.inFlightOn e = true)
    (k : p.inFlightOn x = true) : x = e := by
  rcases (p.inFlightOn_iff e).mp h with rfl | rfl <;> exact (of_decide_eq_true k).symm

/-- A sheet SENDING is in flight. -/
theorem inFlightSlots_of_sendingSlots {e : Engine} {r : Ring} {q : Word16} (h : q ∈ sendingSlots e r) :
    q ∈ inFlightSlots e r := by
  obtain ⟨x, hx, hp, hq⟩ := (mem_sendingSlots e r q).mp h
  exact (mem_inFlightSlots e r q).mpr ⟨x, hx, (x.phase.inFlightOn_iff e).mpr (.inl hp), hq⟩

theorem sendingSlots_sublist_seqsOf (e : Engine) : ∀ r : Ring, (sendingSlots e r).Sublist (seqsOf r)
  | [] => .slnil
  | none :: r => sendingSlots_sublist_seqsOf e r
  | some x :: r => by
    rw [sendingSlots_cons_some, seqsOf_cons_some]
    split
    · exact (sendingSlots_sublist_seqsOf e r).cons_cons _
    · exact (sendingSlots_sublist_seqsOf e r).cons _

/-- Slots that change make no slot SENDING. -/
theorem sendingSlots_mapSlots_sublist (e : Engine) (f : Occupied → Occupied)
    (hseq : ∀ x, (f x).sheet.seq = x.sheet.seq) (hf : ∀ x, (f x).phase = .sending e → x.phase = .sending e) :
    ∀ r : Ring, (sendingSlots e (mapSlots f r)).Sublist (sendingSlots e r)
  | [] => .slnil
  | none :: r => sendingSlots_mapSlots_sublist e f hseq hf r
  | some x :: r => by
    have hcons : mapSlots f (some x :: r) = some (f x) :: mapSlots f r := rfl
    have ih := sendingSlots_mapSlots_sublist e f hseq hf r
    rw [hcons, sendingSlots_cons_some, sendingSlots_cons_some, hseq]
    by_cases hx : x.phase = .sending e
    · rw [if_pos hx]
      split
      · exact ih.cons_cons _
      · exact ih.cons _
    · rwa [if_neg hx, if_neg fun h => hx (hf x h)]

theorem sendingSlots_dropSheet_sublist (e : Engine) (q : Word16) :
    ∀ r : Ring, (sendingSlots e (dropSheet q r)).Sublist (sendingSlots e r)
  | [] => .slnil
  | none :: r => sendingSlots_dropSheet_sublist e q r
  | some x :: r => by
    have hcons : dropSheet q (some x :: r) = (if x.sheet.seq = q then none else some x) :: dropSheet q r := rfl
    have ih := sendingSlots_dropSheet_sublist e q r
    have hle : (sendingSlots e r).Sublist (sendingSlots e (some x :: r)) := by
      rw [sendingSlots_cons_some]
      split
      · exact List.sublist_cons_self _ _
      · exact .refl _
    rw [hcons]
    split
    · exact ih.trans hle
    · rw [sendingSlots_cons_some, sendingSlots_cons_some]
      split
      · exact ih.cons_cons _
      · exact ih

theorem sendingSlots_freeFinished_sublist (e : Engine) (age : Word16 → Nat) :
    ∀ (n : Nat) (r : Ring), (sendingSlots e (freeFinished age n r)).Sublist (sendingSlots e r)
  | 0, _ => .refl _
  | n + 1, r => by
    simp only [freeFinished]
    split
    · exact .refl _
    · split
      · exact (sendingSlots_freeFinished_sublist e age n _).trans (sendingSlots_dropSheet_sublist e _ r)
      · exact .refl _

/-- R135: no slot in flight is freed. -/
theorem mem_inFlightSlots_freeFinished {age : Word16 → Nat} (hage : Function.Injective age) (e : Engine) (n : Nat) (r : Ring)
    (hd : (seqsOf r).Nodup) (hl : (seqsOf r).length ≤ n) (q : Word16) :
    q ∈ inFlightSlots e (freeFinished age n r) ↔ q ∈ inFlightSlots e r := by
  simp only [mem_inFlightSlots]
  refine exists_congr fun x => and_congr_left fun hx => ?_
  obtain ⟨hflight, -⟩ := hx
  rw [mem_freeFinished hage x n r hd hl, and_iff_left_iff_imp]
  intro hmem
  refine ⟨x, hmem, le_rfl, ?_⟩
  rcases (x.phase.inFlightOn_iff e).mp hflight with h | h <;> rw [h] <;> rfl

/-- R111: a sheet newly opened is not in flight. -/
theorem filterMap_fillFirst {α : Type} (g : Option Occupied → Option α) (o : Occupied) (ho : g (some o) = none)
    (hn : g none = none) : ∀ r : Ring, (fillFirst o r).filterMap g = r.filterMap g
  | [] => rfl
  | none :: r => by rw [fillFirst, List.filterMap_cons_none ho, List.filterMap_cons_none hn]
  | some x :: r => by rw [fillFirst, List.filterMap_cons, List.filterMap_cons, filterMap_fillFirst g o ho hn r]

theorem inFlightSlots_fillFirst (e : Engine) (sh : Sheet) (r : Ring) :
    inFlightSlots e (fillFirst ⟨.assembling, sh⟩ r) = inFlightSlots e r :=
  filterMap_fillFirst _ _ rfl rfl r

theorem sendingSlots_fillFirst (e : Engine) (sh : Sheet) (r : Ring) :
    sendingSlots e (fillFirst ⟨.assembling, sh⟩ r) = sendingSlots e r :=
  filterMap_fillFirst _ _ (if_neg SlotPhase.noConfusion) rfl r

/-! ### Landings (R134, R136) -/

/-- Of a slot in flight whose number does not stay on its engine the sheet lands; no slot becomes SENDING. -/
structure Occupied.Lands (stays : Engine → Word16 → Bool) (o x : Occupied) : Prop where
  seq : x.sheet.seq = o.sheet.seq
  flight : ∀ e, x.phase.inFlightOn e = true ↔ o.phase.inFlightOn e = true ∧ stays e o.sheet.seq = true
  sending : ∀ e, x.phase = .sending e → o.phase = .sending e

/-- From `s` to `t` every sheet in flight whose number does not stay on its engine landed, and none took off. -/
structure State.LandsBut (stays : Engine → Word16 → Bool) (s t : State) : Prop where
  flights : ∀ e, t.flights e = (s.flights e).filter (stays e)
  slots : ∀ e q, q ∈ inFlightSlots e t.ring ↔ q ∈ inFlightSlots e s.ring ∧ stays e q = true
  sending : ∀ e, (sendingSlots e t.ring).Sublist (sendingSlots e s.ring)

/-- From `s` to `t` sheets landed at most. -/
def State.Lands (s t : State) : Prop := ∃ stays, State.LandsBut stays s t

theorem State.LandsBut.of_slots {s t : State} {stays : Engine → Word16 → Bool} (f : Occupied → Occupied)
    (hf : ∀ o : Occupied, o.Lands stays (f o)) (hr : t.ring = mapSlots f s.ring)
    (hl : ∀ e, t.flights e = (s.flights e).filter (stays e)) : State.LandsBut stays s t where
  flights := hl
  slots := fun e q => by
    rw [hr]
    simp only [mem_inFlightSlots, mem_mapSlots]
    constructor
    · rintro ⟨_, ⟨x, hx, rfl⟩, hflight, hq⟩
      obtain ⟨hflight, hstays⟩ := ((hf x).flight e).mp hflight
      obtain rfl := (hf x).seq.symm.trans hq
      exact ⟨⟨x, hx, hflight, rfl⟩, hstays⟩
    · rintro ⟨⟨x, hx, hflight, rfl⟩, hstays⟩
      exact ⟨f x, ⟨x, hx, rfl⟩, ((hf x).flight e).mpr ⟨hflight, hstays⟩, (hf x).seq⟩
  sending := fun e => hr ▸ sendingSlots_mapSlots_sublist e f (fun x => (hf x).seq) (fun x => (hf x).sending e) s.ring

/-- Slots that change in neither their numbers nor their flights. -/
theorem State.Lands.of_slots {s t : State} (f : Occupied → Occupied) (hf : ∀ o : Occupied, o.Lands (fun _ _ => true) (f o))
    (hr : t.ring = mapSlots f s.ring) (hl : ∀ e, t.flights e = s.flights e) : s.Lands t :=
  ⟨_, .of_slots f hf hr fun e => (hl e).trans (List.filter_true _).symm⟩

theorem State.Lands.of_kept {s t : State} (hr : t.ring = s.ring) (hl : ∀ e, t.flights e = s.flights e) : s.Lands t :=
  .of_slots id (fun _ => ⟨rfl, fun _ => (and_iff_left rfl).symm, fun _ => id⟩) (hr.trans (by simp [mapSlots])) hl

theorem State.Lands.refl (s : State) : s.Lands s := .of_kept rfl fun _ => rfl

theorem State.Lands.trans {s t u : State} (h : s.Lands t) (k : t.Lands u) : s.Lands u := by
  obtain ⟨stays, h⟩ := h
  obtain ⟨still, k⟩ := k
  refine ⟨fun e q => still e q && stays e q, fun e => ?_, fun e q => ?_, fun e => (k.sending e).trans (h.sending e)⟩
  · rw [k.flights, h.flights, List.filter_filter]
  · rw [k.slots, h.slots, Bool.and_eq_true, and_assoc, and_comm (a := still e q = true)]

/-- All sheets land at a reset. -/
theorem State.Lands.of_empty {s t : State} (hr : t.ring = emptyRing) (hl : ∀ e, t.flights e = []) : s.Lands t := by
  refine ⟨fun _ _ => false, fun e => ?_, fun e q => ?_, fun e => ?_⟩
  · rw [hl, List.filter_false]
  · rw [hr]
    exact iff_of_false List.not_mem_nil fun h => Bool.false_ne_true h.2
  · rw [hr]
    exact List.nil_sublist _

/-- What a list keeps at its end. -/
theorem getLast?_filter_of_mem {α : Type} {l : List α} {a : α} {p : α → Bool} (h : l.getLast? = some a) (hp : p a = true) :
    (l.filter p).getLast? = some a := by
  obtain ⟨l', rfl⟩ := List.getLast?_eq_some_iff.mp h
  rw [List.filter_append, List.filter_cons_of_pos hp, List.filter_nil, List.getLast?_concat]

theorem State.flightSound_iff (s : State) :
    s.flightSound ↔ ∀ e, (s.flights e).length ≤ 2 ∧ ∀ q, q ∈ s.flights e ↔ q ∈ inFlightSlots e s.ring := by
  simp only [State.flights, List.length_map]

/-- Landings keep the lists equal to the flights. -/
theorem State.Lands.flightSound {s t : State} (h : s.Lands t) (hs : s.flightSound) : t.flightSound := by
  obtain ⟨stays, h⟩ := h
  rw [State.flightSound_iff] at hs ⊢
  intro e
  obtain ⟨hlength, hlist⟩ := hs e
  refine ⟨?_, fun q => ?_⟩
  · rw [h.flights]
    exact (List.length_filter_le _ _).trans hlength
  · rw [h.flights, List.mem_filter, hlist, h.slots]

/-- Landings keep each number once, and a sheet SENDING the last of its list. -/
theorem State.Lands.flightOrdered {s t : State} (h : s.Lands t) (hs : s.flightOrdered) : t.flightOrdered := by
  obtain ⟨stays, h⟩ := h
  intro e
  obtain ⟨hnodup, hone, hlast⟩ := hs e
  change (t.flights e).Nodup ∧ _ ∧ ∀ q ∈ _, (t.flights e).getLast? = some q
  rw [h.flights]
  refine ⟨hnodup.filter _, (h.sending e).length_le.trans hone, fun q hq => ?_⟩
  obtain ⟨-, hstays⟩ := (h.slots e q).mp (inFlightSlots_of_sendingSlots hq)
  exact getLast?_filter_of_mem (hlast q ((h.sending e).subset hq)) hstays

end Sys2Proof.Machine
end

section
/-! PROOFS. What lands and what takes off: the releases, the returns, the resets and the work that leaves every flight as it
was, and the one move by which a sheet takes off, a grant. -/

namespace Sys2Proof.Machine

/-! ### Releases and returns (R134 to R136) -/

theorem State.modLink_flights (s : State) (e : Engine) (f : Link → Link)
    (hf : (f (s.link e)).inFlight.map (fun i => i.seq) = s.flights e) (x : Engine) :
    (s.modLink e f).flights x = s.flights x := by
  rcases eq_or_eq_otherEngine e x with rfl | rfl
  · rw [State.flights, State.link_modLink_self]
    exact hf
  · rw [State.flights, State.link_modLink_other]
    rfl

/-- A change of a link that keeps the numbers in its list. -/
theorem State.modLink_lands (s : State) (e : Engine) (f : Link → Link)
    (hf : (f (s.link e)).inFlight.map (fun i => i.seq) = s.flights e) : s.Lands (s.modLink e f) :=
  .of_kept (by simp) (s.modLink_flights e f hf)

theorem finishSlot_lands (e : Engine) (q : Word16) (o : Occupied) :
    o.Lands (fun x p => !(x == e && p == q)) (finishSlot e q o) := by
  unfold finishSlot
  split
  · next h =>
    obtain ⟨hq, hflight⟩ := h
    refine ⟨rfl, fun x => iff_of_false Bool.false_ne_true ?_, fun x hx => nomatch hx⟩
    rintro ⟨hx, hstays⟩
    rw [SlotPhase.inFlightOn_unique hflight hx, hq] at hstays
    simp at hstays
  · next h =>
    refine ⟨rfl, fun x => (and_iff_left_of_imp fun hx => ?_).symm, fun x => id⟩
    rw [Bool.not_eq_true', Bool.and_eq_false_iff, beq_eq_false_iff_ne, beq_eq_false_iff_ne, ← not_and_or]
    rintro ⟨rfl, hq⟩
    exact h ⟨hq, hx⟩

theorem returnSlot_lands (e : Engine) (o : Occupied) : o.Lands (fun x _ => x != e) (returnSlot e o) := by
  unfold returnSlot
  split
  · next hflight =>
    refine ⟨rfl, fun x => iff_of_false Bool.false_ne_true ?_, fun x hx => nomatch hx⟩
    rintro ⟨hx, hstays⟩
    exact bne_iff_ne.mp hstays (SlotPhase.inFlightOn_unique hflight hx)
  · next hflight =>
    refine ⟨rfl, fun x => (and_iff_left_of_imp fun hx => bne_iff_ne.mpr ?_).symm, fun x => id⟩
    rintro rfl
    exact hflight hx

theorem State.release_flights (s : State) (e : Engine) (q : Word16) (x : Engine) :
    (s.release e q).flights x = (s.flights x).filter fun p => !(x == e && p == q) := by
  rcases eq_or_eq_otherEngine e x with rfl | rfl
  · rw [State.flights, State.release_link, Link.release, State.flights, List.filter_map]
    simp [Function.comp_def, bne]
  · have hne : (otherEngine e == e) = false := beq_eq_false_iff_ne.mpr (otherEngine_ne e)
    rw [State.flights, State.release_link_other, State.flights]
    simp [hne]

/-- R134, R135: of a release the sheet named lands. -/
theorem State.release_lands {s : State} (hs : s.ringSound ∧ s.runSound) (e : Engine) (q : Word16) :
    s.Lands (s.release e q) := by
  have hfinish : State.LandsBut (fun x p => !(x == e && p == q)) s
      { s.release e q with ring := mapSlots (finishSlot e q) s.ring } :=
    .of_slots _ (finishSlot_lands e q) rfl (s.release_flights e q)
  have hseqs : seqsOf (mapSlots (finishSlot e q) s.ring) = seqsOf s.ring :=
    seqsOf_mapSlots _ (fun x => (finishSlot_lands e q x).seq) _
  have hfreed : ∀ x p, p ∈ inFlightSlots x (s.freedRing e q) ↔ p ∈ inFlightSlots x (mapSlots (finishSlot e q) s.ring) :=
    fun x p => mem_inFlightSlots_freeFinished (fun _ _ => ageBelow_inj) x _ _ (hseqs ▸ State.seqsOf_nodup hs)
      (hseqs ▸ (seqsOf_length_le _).trans hs.1.1.le) p
  have hring : ∀ x, inFlightSlots x (s.release e q).ring = inFlightSlots x (s.freedRing e q) ∧
      sendingSlots x (s.release e q).ring = sendingSlots x (s.freedRing e q) := fun x => by
    rw [State.release_eq]
    simp only
    split
    · exact ⟨inFlightSlots_fillFirst x _ _, sendingSlots_fillFirst x _ _⟩
    · exact ⟨rfl, rfl⟩
  refine ⟨_, s.release_flights e q, fun x p => ?_, fun x => ?_⟩
  · rw [(hring x).1, hfreed]
    exact hfinish.slots x p
  · rw [(hring x).2]
    exact (sendingSlots_freeFinished_sublist x _ _ _).trans (hfinish.sending x)

theorem State.foldl_release_lands (e : Engine) : ∀ (qs : List Word16) {s : State}, s.ringSound ∧ s.runSound →
    s.Lands (qs.foldl (fun t q => t.release e q) s)
  | [], s, _ => .refl s
  | q :: qs, s, hs => (State.release_lands hs e q).trans
    (State.foldl_release_lands e qs ((s.release_ringMoves e q).keeps State.RingMove.runSound hs))

theorem State.releaseCovered_lands {s : State} (hs : s.ringSound ∧ s.runSound) (e : Engine) (last : Option Word16) :
    s.Lands (s.releaseCovered e last) := by
  unfold State.releaseCovered
  split
  · exact .refl s
  · split
    · exact State.foldl_release_lands e _ hs
    · exact .refl s

/-- R136: every sheet in flight on the engine lands. -/
theorem State.returnAll_lands (s : State) (e : Engine) : s.Lands (s.returnAll e) := by
  refine ⟨_, .of_slots (returnSlot e) (returnSlot_lands e) (by rw [State.returnAll_eq]) fun x => ?_⟩
  rcases eq_or_eq_otherEngine e x with rfl | rfl
  · rw [State.flights, State.returnAll_link]
    simp
  · have hne : (otherEngine e == e) = false := beq_eq_false_iff_ne.mpr (otherEngine_ne e)
    rw [State.flights, State.returnAll_link_other, State.flights]
    simp [hne, bne]

/-! ### Resets (R139, R165) -/

theorem State.softResetBlocks_lands (s : State) : s.Lands s.softResetBlocks := by
  have hlink : ∀ e l, (softResetLink s.settings e l).inFlight = [] := fun e l => by
    unfold softResetLink
    simp only
    split <;> rfl
  exact .of_empty rfl fun e => by
    cases e <;> exact congrArg (List.map _) (hlink _ _)

theorem State.atReset_lands (s : State) (straps : Straps) : s.Lands { State.atReset straps with pending := s.pending } := by
  have hlink : ∀ cfg e, (linkAtReset cfg e).inFlight = [] := fun cfg e => by
    unfold linkAtReset
    split <;> rfl
  exact .of_empty rfl fun e => by
    cases e <;> exact congrArg (List.map _) (hlink _ _)

/-! ### The grant (R141, R142, R143) -/

/-- R142: an engine that is eligible holds one sheet at most, and none SENDING. -/
theorem State.flights_of_eligible {s : State} {e : Engine} (h : s.eligible e = true) :
    (s.flights e).length < 2 ∧ sendingSlots e s.ring = [] := by
  simp only [State.eligible, Bool.and_eq_true, decide_eq_true_eq, Bool.not_eq_true'] at h
  obtain ⟨⟨-, hsending⟩, hlength⟩ := h
  refine ⟨(List.length_map _).trans_lt hlength, List.eq_nil_iff_forall_not_mem.mpr fun q hq => ?_⟩
  obtain ⟨x, hx, hp, -⟩ := (mem_sendingSlots e s.ring q).mp hq
  rw [(s.hasSending_iff e).mpr ⟨x, hx, hp⟩] at hsending
  cases hsending

theorem State.grantTo_flights_self (s : State) (e : Engine) (sh : Sheet) :
    (s.grantTo e sh).flights e = s.flights e ++ [sh.seq] := by
  rw [State.flights, State.grantTo_link_self, Link.beginTransfer, List.map_append]
  rfl

theorem State.grantTo_flights_other (s : State) (e : Engine) (sh : Sheet) :
    (s.grantTo e sh).flights (otherEngine e) = s.flights (otherEngine e) := by
  rw [State.flights, State.grantTo_link_other]
  rfl

theorem sendSlot_seq (e : Engine) (q : Word16) (x : Occupied) : (sendSlot e q x).sheet.seq = x.sheet.seq :=
  (sendSlot_passes e q x).seq

/-- R143: the slot of the sheet granted, READY before, is in flight; every other slot as before. -/
theorem sendSlot_inFlightOn_iff (e x : Engine) (q : Word16) (o : Occupied) :
    (sendSlot e q o).phase.inFlightOn x = true ↔
      o.phase.inFlightOn x = true ∨ x = e ∧ o.sheet.seq = q ∧ o.phase = .ready := by
  unfold sendSlot
  split
  · next h =>
    obtain ⟨hq, hp⟩ := h
    simp [SlotPhase.inFlightOn, hq, hp, eq_comm]
  · next h =>
    rw [or_iff_left fun k => h k.2]

theorem sendSlot_sending_iff (e x : Engine) (q : Word16) (o : Occupied) :
    (sendSlot e q o).phase = .sending x ↔ o.phase = .sending x ∨ x = e ∧ o.sheet.seq = q ∧ o.phase = .ready := by
  unfold sendSlot
  split
  · next h =>
    obtain ⟨hq, hp⟩ := h
    simp [hq, hp, eq_comm]
  · next h =>
    rw [or_iff_left fun k => h k.2]

section
variable {s : State} {e : Engine} {sh : Sheet}

theorem State.grantTo_ring (s : State) (e : Engine) (sh : Sheet) :
    (s.grantTo e sh).ring = mapSlots (sendSlot e sh.seq) s.ring := by
  rw [s.grantTo_eq]

theorem State.mem_inFlightSlots_grantTo (hr : s.oldestReady = some sh) (x : Engine) (q : Word16) :
    q ∈ inFlightSlots x (s.grantTo e sh).ring ↔ q ∈ inFlightSlots x s.ring ∨ x = e ∧ q = sh.seq := by
  simp only [State.grantTo_ring, mem_inFlightSlots, mem_mapSlots]
  constructor
  · rintro ⟨_, ⟨o, ho, rfl⟩, hflight, rfl⟩
    rw [sendSlot_seq]
    rcases (sendSlot_inFlightOn_iff e x _ o).mp hflight with h | ⟨hx, hq, -⟩
    · exact .inl ⟨o, ho, h, rfl⟩
    · exact .inr ⟨hx, hq⟩
  · rintro (⟨o, ho, hflight, rfl⟩ | ⟨rfl, rfl⟩)
    · exact ⟨_, ⟨o, ho, rfl⟩, (sendSlot_inFlightOn_iff e x _ o).mpr (.inl hflight), sendSlot_seq _ _ _⟩
    · obtain ⟨o, ho, rfl, hp⟩ := s.oldestReady_mem sh hr
      exact ⟨_, ⟨o, ho, rfl⟩, (sendSlot_inFlightOn_iff x x _ o).mpr (.inr ⟨rfl, rfl, hp⟩), sendSlot_seq _ _ _⟩

/-- R141: the sheet granted was in no list. -/
theorem State.not_mem_flights_of_ready (hs : s.ringSound ∧ s.runSound) (hf : s.flightSound)
    (hr : s.oldestReady = some sh) (e : Engine) : sh.seq ∉ s.flights e := fun h => by
  obtain ⟨y, hy, hflight, hq⟩ := (mem_inFlightSlots _ _ _).mp (((s.flightSound_iff.mp hf e).2 _).mp h)
  obtain ⟨x, hx, rfl, hp⟩ := s.oldestReady_mem sh hr
  obtain rfl := eq_of_seq_eq (State.seqsOf_nodup hs) hy hx hq
  rw [hp] at hflight
  cases hflight

theorem State.grantTo_flightSound (hf : s.flightSound) (he : s.eligible e = true) (hr : s.oldestReady = some sh) :
    (s.grantTo e sh).flightSound := by
  rw [State.flightSound_iff] at hf ⊢
  intro x
  obtain ⟨hlength, hlist⟩ := hf x
  simp only [State.mem_inFlightSlots_grantTo hr]
  rcases eq_or_eq_otherEngine e x with rfl | rfl
  · have hroom := (State.flights_of_eligible he).1
    refine ⟨?_, fun q => ?_⟩
    · rw [State.grantTo_flights_self, List.length_append, List.length_singleton]
      exact hroom
    · rw [State.grantTo_flights_self, List.mem_append, List.mem_singleton, hlist]
      simp
  · rw [State.grantTo_flights_other]
    exact ⟨hlength, fun q => by simp [hlist, otherEngine_ne]⟩

/-- R142: the sheet granted is the only one SENDING on its engine. -/
theorem State.sendingSlots_grantTo (hs : s.ringSound ∧ s.runSound) (he : s.eligible e = true) :
    (sendingSlots e (s.grantTo e sh).ring).length ≤ 1 ∧ ∀ q ∈ sendingSlots e (s.grantTo e sh).ring, q = sh.seq := by
  have hall : ∀ q ∈ sendingSlots e (s.grantTo e sh).ring, q = sh.seq := fun q hq => by
    rw [State.grantTo_ring, mem_sendingSlots] at hq
    obtain ⟨_, hx, hp, rfl⟩ := hq
    obtain ⟨o, ho, rfl⟩ := (mem_mapSlots _ _ _).mp hx
    rw [sendSlot_seq]
    rcases (sendSlot_sending_iff e e _ o).mp hp with h | ⟨-, hq, -⟩
    · have hmem := (mem_sendingSlots e s.ring _).mpr ⟨o, ho, h, rfl⟩
      rw [(State.flights_of_eligible he).2] at hmem
      cases hmem
    · exact hq
  have hnodup : (sendingSlots e (s.grantTo e sh).ring).Nodup :=
    (State.seqsOf_nodup ((s.grantTo_ringMoves e sh).keeps State.RingMove.runSound hs)).sublist
      (sendingSlots_sublist_seqsOf e _)
  refine ⟨?_, hall⟩
  rw [List.eq_replicate_of_mem hall] at hnodup
  exact List.nodup_replicate.mp hnodup

theorem State.grantTo_flightOrdered (hs : s.ringSound ∧ s.runSound) (hf : s.flightSound) (he : s.eligible e = true)
    (hr : s.oldestReady = some sh) (ho : s.flightOrdered) : (s.grantTo e sh).flightOrdered := by
  intro x
  change ((s.grantTo e sh).flights x).Nodup ∧ _ ∧ ∀ q ∈ _, ((s.grantTo e sh).flights x).getLast? = some q
  obtain ⟨hnodup, hone, hlast⟩ := ho x
  rcases eq_or_eq_otherEngine e x with rfl | rfl
  · obtain ⟨hlength, hall⟩ := State.sendingSlots_grantTo (sh := sh) hs he
    have hnew := State.not_mem_flights_of_ready hs hf hr x
    rw [State.grantTo_flights_self, List.getLast?_concat]
    refine ⟨List.nodup_append.mpr ⟨hnodup, List.nodup_singleton _, ?_⟩, hlength, fun q hq => by rw [hall q hq]⟩
    rintro p hp q hq rfl
    exact hnew (List.mem_singleton.mp hq ▸ hp)
  · have hsending : (sendingSlots (otherEngine e) (s.grantTo e sh).ring).Sublist (sendingSlots (otherEngine e) s.ring) := by
      rw [State.grantTo_ring]
      exact sendingSlots_mapSlots_sublist _ _ (sendSlot_seq e _)
        (fun o ho => ((sendSlot_sending_iff e _ _ o).mp ho).resolve_right fun k => otherEngine_ne e k.1) _
    rw [State.grantTo_flights_other]
    exact ⟨hnodup, hsending.length_le.trans hone, fun q hq => hlast q (hsending.subset hq)⟩
end

end Sys2Proof.Machine
end

section
/-! PROOFS. The flights along every command: the front, the composer, the engines' frames and the timers let sheets land at
most, and the grants alone let them take off. -/

namespace Sys2Proof.Machine

/-! ### The composer -/

/-- Work that leaves the ring and the lists as they are. -/
theorem State.PortOnly.lands {s t : State} (h : s.PortOnly t) : s.Lands t := by
  rw [h]
  exact .of_kept rfl fun _ => rfl

theorem State.modColumn_lands (s : State) (f : Column → Column) : s.Lands (s.modColumn f) :=
  .of_slots (onAssembling fun sh => { sh with columns := sh.columns.modify (s.composer.column - 1) f })
    (fun o => ⟨onAssembling_columns_seq _ f o, fun e => by rw [onAssembling_phase, and_iff_left rfl],
      fun e => by rw [onAssembling_phase]; exact id⟩) rfl fun _ => rfl

theorem commitSlot_lands (o : Occupied) : o.Lands (fun _ _ => true) (commitSlot o) := by
  unfold commitSlot
  split
  · next h =>
    refine ⟨rfl, fun e => iff_of_false Bool.false_ne_true fun k => ?_, fun e k => nomatch k⟩
    exact SlotPhase.ne_assembling_of_inFlightOn k.1 h
  · exact ⟨rfl, fun e => (and_iff_left rfl).symm, fun e => id⟩

theorem State.closeSheet_lands (s : State) (sh : Sheet) : s.Lands (s.closeSheet sh) :=
  .of_slots commitSlot commitSlot_lands rfl fun _ => rfl

theorem State.openSheet_lands (s : State) : s.Lands s.openSheet := by
  refine ⟨fun _ _ => true, fun e => (List.filter_true _).symm, fun e q => ?_, fun e => ?_⟩
  · rw [State.openSheet_ring, inFlightSlots_fillFirst, and_iff_left rfl]
  · rw [State.openSheet_ring, sendingSlots_fillFirst]

theorem State.withSheet_lands (s : State) (work : State → State) (hw : ∀ u : State, u.Lands (work u)) :
    s.Lands (s.withSheet work) := by
  unfold State.withSheet
  split
  · exact hw s
  · split
    · exact s.openSheet_lands.trans (hw _)
    · exact .of_kept rfl fun _ => rfl

theorem State.removeHead_lands (s : State) : s.Lands s.removeHead := .of_kept rfl fun _ => rfl

theorem State.count_lands (s : State) (c : Counter) (n : Nat) : s.Lands (s.count c n) := .of_kept rfl fun _ => rfl

theorem State.judgeLine_lands (s : State) (text : Text) : s.Lands (s.judgeLine text) := by
  rw [s.judgeLine_eq]
  exact .of_kept rfl fun _ => rfl

theorem State.addOrClip_lands (s : State) (p : PlacedEntry) (v : Verdict) : s.Lands (s.addOrClip p v) := by
  unfold State.addOrClip
  split
  · exact .refl s
  · split
    · exact s.count_lands _ _
    · exact s.modColumn_lands _

theorem State.flush_lands (s : State) : s.Lands s.flush := by
  unfold State.flush
  split
  · exact .refl s
  · exact s.closeSheet_lands _

theorem State.closeColumn_lands (s : State) : s.Lands s.closeColumn := by
  have hcount : ∀ ls, s.Lands (s.countFits ls) := fun _ => .of_kept rfl fun _ => rfl
  unfold State.closeColumn
  split
  · exact .refl s
  · exact (hcount _).trans (State.modColumn_lands _ _)

theorem State.afterColumn_lands (s : State) : s.Lands s.afterColumn := by
  unfold State.afterColumn
  split
  · exact .refl s
  · split
    · exact s.closeSheet_lands _
    · exact .of_kept rfl fun _ => rfl

theorem State.markerTaken_lands (s : State) : s.Lands s.markerTaken := by
  rw [s.markerTaken_eq]
  exact .of_kept rfl fun _ => rfl

theorem workPlacedLine_lands (x : Entry) (s : State) : s.Lands (workPlacedLine x s) := by
  unfold workPlacedLine
  split
  · split
    · exact s.withSheet_lands _ fun u =>
        ((((u.modColumn_lands _).trans (State.judgeLine_lands _ _)).trans (State.addOrClip_lands _ _ _)).trans
          (State.count_lands _ _ _)).trans (State.removeHead_lands _)
    · exact .refl s
  all_goals exact .refl s

theorem workMerge_lands (x : Entry) (s : State) : s.Lands (workMerge x s) := by
  unfold workMerge
  split
  · split
    · exact (((s.modColumn_lands _).trans (State.count_lands _ _ _)).trans (State.count_lands _ _ _)).trans
        (State.removeHead_lands _)
    · exact .refl s
  all_goals exact .refl s

theorem workOwnLine_lands (x : Entry) (s : State) : s.Lands (workOwnLine x s) := by
  unfold workOwnLine
  split
  · split
    · exact s.withSheet_lands _ fun u =>
        (((u.modColumn_lands _).trans (State.addOrClip_lands _ _ _)).trans (State.count_lands _ _ _)).trans
          (State.removeHead_lands _)
    · exact .refl s
  all_goals exact .refl s

theorem workFormEnd_lands (x : Entry) (s : State) : s.Lands (workFormEnd x s) := by
  unfold workFormEnd
  split
  · exact s.withSheet_lands _ fun u =>
      (((u.modColumn_lands _).trans (State.closeColumn_lands _)).trans (State.afterColumn_lands _)).trans
        (State.removeHead_lands _)
  all_goals exact .refl s

theorem workSyncMarker_lands (x : Entry) (s : State) : s.Lands (workSyncMarker x s) := by
  unfold workSyncMarker
  split
  · exact (s.flush_lands.trans (State.removeHead_lands _)).trans (State.markerTaken_lands _)
  all_goals exact .refl s

theorem workSheetPlan_lands (x : Entry) (s : State) : s.Lands (workSheetPlan x s) := by
  unfold workSheetPlan
  split
  · exact s.flush_lands.trans (.of_kept rfl fun _ => rfl)
  all_goals exact .refl s

theorem workCollation_lands (x : Entry) (s : State) : s.Lands (workCollation x s) := by
  unfold workCollation
  split <;> exact .of_kept rfl fun _ => rfl

theorem workFieldLayout_lands (x : Entry) (s : State) : s.Lands (workFieldLayout x s) := by
  unfold workFieldLayout
  split <;> exact .of_kept rfl fun _ => rfl

theorem workKeyReset_lands (x : Entry) (s : State) : s.Lands (workKeyReset x s) := by
  unfold workKeyReset
  split <;> exact .of_kept rfl fun _ => rfl

/-! ### The signals and END -/

theorem State.takeOwed_lands (s : State) : s.Lands s.takeOwed := by
  unfold State.takeOwed
  split
  · exact .refl s
  · split <;> exact .of_kept rfl fun _ => rfl

theorem State.orderByteStrobed_lands (s : State) (select : Bool) (unit : BitVec 4) (d : Byte) (p : Bool) :
    s.Lands (s.orderByteStrobed select unit d p) := by
  have htake : s.Lands (s.takeOrderByte d p) := by
    unfold State.takeOrderByte
    split
    · exact .of_kept rfl fun _ => rfl
    · split
      · exact .of_kept rfl fun _ => rfl
      · split
        · exact .of_kept rfl fun _ => rfl
        · split <;> exact .of_kept rfl fun _ => rfl
  unfold State.orderByteStrobed
  split
  · split
    · exact htake
    all_goals exact .refl s
  · exact .refl s

theorem State.dataByteStrobed_lands (s : State) (d : Byte) (p : Bool) : s.Lands (s.dataByteStrobed d p) := by
  unfold State.dataByteStrobed
  split
  · split <;> exact .of_kept rfl fun _ => rfl
  all_goals exact .refl s

theorem State.replyTakenSignal_lands (s : State) : s.Lands s.replyTakenSignal := by
  unfold State.replyTakenSignal
  split <;> exact .of_kept rfl fun _ => rfl

theorem State.refuse_lands (s : State) (h : Hand) (kind : CheckKind) (position : Option Nat) (detail : Nat) :
    s.Lands (s.refuse h kind position detail) := by
  rw [s.refuse_refusedAs h kind position detail]
  exact .of_kept rfl fun _ => rfl

theorem State.endRow_lands (s : State) (mine : Hand → Bool) (own : Hand → State → State) (ho : ∀ h, s.Lands (own h s)) :
    s.Lands (s.atEnd mine fun h t => t.judge h (own h)) :=
  s.endRow_of mine own (.refl s) s.refuse_lands ho

theorem State.tableRow_lands (s : State) (kind : Nat) (fault : List Byte → Option (Nat × Nat))
    (carry : Hand → List Byte → State → State) (hc : ∀ h body, s.Lands (carry h body s)) :
    s.Lands (s.tableRow kind fault carry) :=
  s.tableRow_of kind fault carry (.refl s) s.refuse_lands hc

theorem State.frontRow_lands (s : State) (kind : Nat) (fault : List Byte → Option (Nat × Nat))
    (apply : List Byte → State → State) (ha : ∀ body, s.Lands (apply body s)) :
    s.Lands (s.tableRow kind fault (applyFront apply)) :=
  s.tableRow_lands kind fault _ fun _ body => (ha body).trans (.of_kept rfl fun _ => rfl)

theorem State.streamRow_lands (s : State) (kind : Nat) (fault : List Byte → Option (Nat × Nat))
    (read : List Byte → StreamTable) : s.Lands (s.tableRow kind fault (queueStream read)) :=
  s.tableRow_lands kind fault _ fun _ _ => .of_kept rfl fun _ => rfl

theorem State.endQuery_lands (s : State) (h : Hand) (answer : State → State) (ha : s.Lands (answer s)) :
    s.Lands (s.endQuery h answer) := by
  unfold State.endQuery
  split
  · exact s.refuse_lands _ _ _ _
  · exact ha

theorem State.queryRow_lands (s : State) (sel : Nat) (bytes : Hand → State → List Byte) :
    s.Lands (s.queryRow sel fun h t => t.respond h (bytes h t)) :=
  s.endRow_lands _ _ fun h => s.endQuery_lands h _ (.of_kept rfl fun _ => rfl)

theorem State.noticesRead_lands (s : State) : s.Lands s.noticesRead := by
  unfold State.noticesRead
  split <;> exact .of_kept rfl fun _ => rfl

theorem State.endPrint_lands (s : State) (h : Hand) : s.Lands (s.endPrint h) := by
  unfold State.endPrint
  split
  · exact s.refuse_lands _ _ _ _
  · split
    · exact s.refuse_lands _ _ _ _
    · exact .of_kept rfl fun _ => rfl

theorem State.endMove_lands (s : State) (h : Hand) : s.Lands (s.endMove h) := by
  unfold State.endMove
  split
  · exact s.refuse_lands _ _ _ _
  · exact .of_kept rfl fun _ => rfl

theorem State.loadForms_lands (s : State) (t : FormsTable) : s.Lands (s.loadForms t) := by
  rw [s.loadForms_eq]
  exact .of_kept rfl fun _ => rfl

/-! ### The links -/

theorem Link.enterSettling_inFlight (cfg : LinkSettings) (l : Link) : (l.enterSettling cfg).inFlight = l.inFlight := by
  unfold Link.enterSettling
  simp only
  split <;> rfl

theorem Link.noteOffer_inFlight (modes : ModeSet) (l : Link) : (l.noteOffer modes).inFlight = l.inFlight := by
  unfold Link.noteOffer
  split <;> rfl

/-- A change of a link that keeps its in-flight list. -/
theorem State.modLink_lands_of_inFlight (s : State) (e : Engine) (f : Link → Link)
    (hf : (f (s.link e)).inFlight = (s.link e).inFlight) : s.Lands (s.modLink e f) :=
  s.modLink_lands e f (congrArg _ hf)

theorem State.heard_lands (s : State) (e : Engine) : s.Lands (s.modLink e Link.heard) :=
  s.modLink_lands_of_inFlight e _ (Link.heard_inFlight _)

theorem State.failover_lands (s : State) : s.Lands s.failover :=
  .of_kept s.failover_ringKept.ring fun e => by rw [State.flights, State.failover_link]; rfl

theorem State.leaveWork_lands (s : State) (e : Engine) (target : Link → Link)
    (ht : (target (s.link e)).inFlight = (s.link e).inFlight) : s.Lands (s.leaveWork e target) := by
  unfold State.leaveWork
  split
  · exact s.modLink_lands_of_inFlight e _ rfl
  · split
    · exact s.modLink_lands_of_inFlight e _ rfl
    · exact s.modLink_lands_of_inFlight e _ ht

theorem State.negotiationFault_lands (s : State) (e : Engine) : s.Lands (s.negotiationFault e) :=
  (s.modLink_lands_of_inFlight e Link.enterBreak rfl).trans (.of_kept rfl fun _ => rfl)

theorem State.restartOffering_lands (s : State) (e : Engine) (modes : ModeSet) : s.Lands (s.restartOffering e modes) :=
  s.modLink_lands_of_inFlight e _ (Link.noteOffer_inFlight modes _)

theorem State.countOffer_lands (s : State) (e : Engine) (modes : ModeSet) : s.Lands (s.countOffer e modes) := by
  have hset : ∀ l : Link, l.inFlight = (s.link e).inFlight → s.Lands (s.setLink e l) := fun l hl =>
    s.modLink_lands_of_inFlight e (fun _ => l) hl
  have hnote := Link.noteOffer_inFlight modes (s.link e)
  unfold State.countOffer
  simp only
  split
  · exact hset _ hnote
  · split
    · exact hset _ hnote
    · exact (hset _ hnote).trans (State.negotiationFault_lands _ e)

/-- R155, R158: the sheets of a lost link land, and the link is OFFERING anew or OFF. -/
theorem State.offerFrame_lands (s : State) (e : Engine) (modes : ModeSet) (ack : Bool) :
    s.Lands (s.offerFrame e modes ack) := by
  have hlost : s.Lands (if (s.returnAll e).uses e then (s.returnAll e).restartOffering e modes
      else (s.returnAll e).modLink e Link.enterOff) := by
    split
    · exact (s.returnAll_lands e).trans (State.restartOffering_lands _ e modes)
    · exact (s.returnAll_lands e).trans (State.modLink_lands_of_inFlight _ e _ rfl)
  unfold State.offerFrame
  simp only
  split
  · exact .refl s
  · exact s.countOffer_lands e modes
  · split
    · split
      · exact s.modLink_lands_of_inFlight e _ (Link.enterSettling_inFlight _ _)
      · exact .refl s
    · exact s.restartOffering_lands e modes
  · split
    · exact s.heard_lands e
    · exact s.restartOffering_lands e modes
  · exact hlost
  · exact hlost
  · exact .refl s

theorem State.idleFrame_lands (s : State) (e : Engine) : s.Lands (s.idleFrame e) := by
  unfold State.idleFrame
  split
  · exact s.modLink_lands_of_inFlight e _ rfl
  iterate 3 exact s.heard_lands e
  all_goals exact .refl s

theorem startStacked_seq (ms : Nat) (q : Word16) (i : InFlight) : (startStacked ms q i).seq = i.seq := by
  unfold startStacked
  split <;> rfl

theorem startTaken_seq (ms : Nat) (q : Word16) (i : InFlight) : (startTaken ms q i).seq = i.seq := by
  unfold startTaken
  split <;> rfl

theorem takeSlot_lands (e : Engine) (q : Word16) (o : Occupied) : o.Lands (fun _ _ => true) (takeSlot e q o) := by
  unfold takeSlot
  split
  · next h =>
    obtain ⟨-, hp⟩ := h
    refine ⟨rfl, fun x => ?_, fun x k => nomatch k⟩
    rw [hp, and_iff_left rfl]
    rfl
  · exact ⟨rfl, fun x => (and_iff_left rfl).symm, fun x => id⟩

/-- R172: a sheet TAKEN stays in flight. -/
theorem State.sheetTaken_lands (s : State) (e : Engine) (q : Word16) : s.Lands (s.sheetTaken e q) := by
  have hlist : s.Lands (s.modLink e fun l =>
      { l with inFlight := l.inFlight.map (startStacked s.settings.stackedMs q) }) :=
    s.modLink_lands e _ (by simp [startStacked_seq, State.flights])
  exact hlist.trans (.of_slots (takeSlot e q) (takeSlot_lands e q) rfl fun _ => rfl)

theorem State.takenFrame_lands (s : State) (e : Engine) (q : Word16) : s.Lands (s.takenFrame e q) := by
  unfold State.takenFrame
  simp only
  split
  · exact .refl s
  · split
    · split
      · exact (s.heard_lands e).trans (State.sheetTaken_lands _ e q)
      · exact s.heard_lands e
    · exact (s.heard_lands e).trans (State.count_lands _ _ _)

theorem State.afterRelease_lands (s : State) (e : Engine) : s.Lands (s.afterRelease e) := by
  unfold State.afterRelease
  split
  · exact s.leaveWork_lands e id rfl
  · exact .refl s

theorem State.stackedFrame_lands {s : State} (hs : s.ringSound ∧ s.runSound) (e : Engine) (q : Word16) :
    s.Lands (s.stackedFrame e q) := by
  unfold State.stackedFrame
  simp only
  split
  · exact .refl s
  · split
    · exact (((s.heard_lands e).trans (State.foldl_release_lands e _ (State.heard_sound e hs))).trans
        (State.modLink_lands_of_inFlight _ e _ (Link.beginNext_inFlight _ _))).trans (State.afterRelease_lands _ e)
    · exact (s.heard_lands e).trans (State.count_lands _ _ _)

theorem State.stopFrame_lands (s : State) (e : Engine) (cause : StopCause) : s.Lands (s.stopFrame e cause) := by
  unfold State.stopFrame
  simp only
  split
  · exact ((s.heard_lands e).trans (State.returnAll_lands _ e)).trans (State.leaveWork_lands _ e _ rfl)
  · exact (s.heard_lands e).trans (State.modLink_lands_of_inFlight _ e _ rfl)
  · exact (s.heard_lands e).trans (State.modLink_lands_of_inFlight _ e _ rfl)
  all_goals exact .refl s

theorem State.jamFrame_lands {s : State} (hs : s.ringSound ∧ s.runSound) (e : Engine) (last : Option Word16) :
    s.Lands (s.jamFrame e last) := by
  unfold State.jamFrame
  simp only
  split
  · exact (((s.heard_lands e).trans (State.releaseCovered_lands (State.heard_sound e hs) e last)).trans
      (State.returnAll_lands _ e)).trans (State.leaveWork_lands _ e _ rfl)
  · exact (s.heard_lands e).trans (State.modLink_lands_of_inFlight _ e _ rfl)
  · exact (s.heard_lands e).trans (State.modLink_lands_of_inFlight _ e _ rfl)
  all_goals exact .refl s

theorem State.readyFrame_lands (s : State) (e : Engine) : s.Lands (s.readyFrame e) := by
  unfold State.readyFrame
  split
  · exact (s.modLink_lands_of_inFlight e (fun l => l.heard.enterReady s.settings) (Link.heard_inFlight _)).trans
      (.of_kept rfl fun _ => rfl)
  · exact s.heard_lands e
  · exact s.heard_lands e
  all_goals exact .refl s

theorem State.sendSheetEnd_lands (s : State) (e : Engine) : s.Lands (s.sendSheetEnd e) := by
  unfold State.sendSheetEnd
  split
  · exact .refl s
  · refine s.modLink_lands e _ ?_
    simp only
    split
    · simp [startTaken_seq, State.flights]
    · rfl

/-! ### The timers -/

theorem State.repeatOffer_lands (s : State) (e : Engine) : s.Lands (s.repeatOffer e) := by
  unfold State.repeatOffer
  split
  iterate 2 exact s.modLink_lands_of_inFlight e _ rfl
  all_goals exact .refl s

theorem State.plainDetection_lands (s : State) (e : Engine) : s.Lands (s.plainDetection e) := by
  unfold State.plainDetection
  split
  · exact s.modLink_lands_of_inFlight e _ (Link.enterSettling_inFlight _ _)
  · exact s.negotiationFault_lands e

theorem State.offerWindowEnds_lands (s : State) (e : Engine) : s.Lands (s.offerWindowEnds e) := by
  unfold State.offerWindowEnds
  simp only
  split
  · split
    · exact s.negotiationFault_lands e
    · split
      · exact s.plainDetection_lands e
      · exact s.modLink_lands_of_inFlight e (fun _ => _) rfl
  · exact .refl s

theorem State.ackWindowEnds_lands (s : State) (e : Engine) : s.Lands (s.ackWindowEnds e) := by
  unfold State.ackWindowEnds
  split
  · exact s.modLink_lands_of_inFlight e _ rfl
  · exact .refl s

theorem State.settleEnds_lands (s : State) (e : Engine) : s.Lands (s.settleEnds e) := by
  unfold State.settleEnds
  split
  · exact s.modLink_lands_of_inFlight e _ rfl
  · exact .refl s

theorem State.linkLost_lands (s : State) (e : Engine) : s.Lands (s.linkLost e) := by
  unfold State.linkLost
  simp only
  split
  · split <;> exact (s.returnAll_lands e).trans (State.modLink_lands_of_inFlight _ e _ rfl)
  · exact .refl s

theorem State.breakEnds_lands (s : State) (e : Engine) : s.Lands (s.breakEnds e) := by
  unfold State.breakEnds
  split
  · exact s.modLink_lands_of_inFlight e _ rfl
  · exact .refl s

/-- R173, R175: a timeout, when its timer runs. -/
theorem State.timeout_lands (s : State) (e : Engine) (runs : Bool) :
    s.Lands (if runs then (s.timedOut e).failover else s) := by
  split
  · exact ((s.returnAll_lands e).trans (State.leaveWork_lands _ e _ rfl)).trans (State.failover_lands _)
  · exact .refl s

theorem State.tick_lands (s : State) : s.Lands { s with linkA := s.linkA.tick, linkB := s.linkB.tick } := by
  have htick : ∀ l : Link, l.tick.inFlight = l.inFlight := fun l => by
    unfold Link.tick
    split <;> rfl
  exact .of_kept rfl fun e => by cases e <;> exact congrArg _ (htick _)

theorem State.windowShort_lands (s : State) (e : Engine) : s.Lands (s.windowShort e) := by
  unfold State.windowShort
  split
  · exact (s.modLink_lands_of_inFlight e _ rfl).trans (.of_kept rfl fun _ => rfl)
  · exact .refl s

theorem State.windowMet_lands (s : State) (e : Engine) : s.Lands (s.windowMet e) := by
  unfold State.windowMet
  split
  · exact (s.modLink_lands_of_inFlight e _ rfl).trans (.of_kept rfl fun _ => rfl)
  · exact .refl s

theorem State.windowsDue_lands (s : State) : s.Lands s.windowsDue :=
  (((s.windowShort_lands .a).trans (State.windowShort_lands _ .b)).trans (State.windowMet_lands _ .a)).trans
    (State.windowMet_lands _ .b)

/-! ### LINK SETTINGS (R163, R164) -/

theorem State.followArrangement_lands (s : State) (e : Engine) : s.Lands (s.followArrangement e) := by
  unfold State.followArrangement
  split
  · split
    · exact s.modLink_lands_of_inFlight e _ rfl
    · exact .refl s
  · split
    · exact s.modLink_lands_of_inFlight e _ rfl
    · exact .refl s

theorem State.followAdvertisedIf_lands (s : State) (old : LinkSettings) (e : Engine) :
    s.Lands (s.followAdvertisedIf old e) := by
  have hfollow : s.Lands (s.followAdvertised e) := by
    unfold State.followAdvertised
    split
    iterate 2 exact .refl s
    iterate 4 exact s.modLink_lands_of_inFlight e _ rfl
    · split <;> exact s.modLink_lands_of_inFlight e _ rfl
  unfold State.followAdvertisedIf
  split
  · exact .refl s
  · exact hfollow

theorem State.applySettings_lands (s : State) (c : LinkSettings) : s.Lands (s.applySettings c) := by
  have hset : s.Lands { s with settings := c } := .of_kept rfl fun _ => rfl
  have harrangement : ∀ u : State, u.Lands ((u.followArrangement .a).followArrangement .b).failover := fun u =>
    ((u.followArrangement_lands .a).trans (State.followArrangement_lands _ .b)).trans (State.failover_lands _)
  have hadvertised : ∀ (u : State) (old : LinkSettings),
      u.Lands ((u.followAdvertisedIf old .a).followAdvertisedIf old .b).failover := fun u old =>
    ((u.followAdvertisedIf_lands old .a).trans (State.followAdvertisedIf_lands _ old .b)).trans (State.failover_lands _)
  unfold State.applySettings
  simp only
  split <;> split
  · exact hset
  · exact hset.trans (harrangement _)
  · exact hset.trans (hadvertised _ _)
  · exact (hset.trans (harrangement _)).trans (hadvertised _ _)

end Sys2Proof.Machine
end

section
/-! PROOFS. Every step keeps the in-flight lists equal to the flights. -/

namespace Sys2Proof.Machine

/-! ### The due steps -/

/-- From `s` to `t`, with the ring in order, the in-flight lists stay equal to the flights, and stay ordered. -/
def State.KeepsFlights (s t : State) : Prop :=
  s.ringSound ∧ s.runSound → s.flightSound → t.flightSound ∧ (s.flightOrdered → t.flightOrdered)

theorem State.Lands.keepsFlights {s t : State} (h : s.Lands t) : s.KeepsFlights t :=
  fun _ hf => ⟨h.flightSound hf, h.flightOrdered⟩

/-- Work that follows a series of moves of the ring finds the ring in order. -/
theorem State.KeepsFlights.trans {s t u : State} (hm : s.RingMoves t) (h : s.KeepsFlights t) (k : t.KeepsFlights u) :
    s.KeepsFlights u := fun hs hf => by
  obtain ⟨hsound, hordered⟩ := h hs hf
  obtain ⟨ksound, kordered⟩ := k (hm.keeps State.RingMove.runSound hs) hsound
  exact ⟨ksound, fun ho => kordered (hordered ho)⟩

/-- R143: a grant is the one move by which a sheet takes off. -/
theorem State.grantOnce_keepsFlights (s : State) : s.KeepsFlights s.grantOnce := by
  cases h : s.grantDue with
  | false =>
    rw [s.grantOnce_of_not_due h]
    exact (State.Lands.refl s).keepsFlights
  | true =>
    obtain ⟨e, sh, hc, hr, hx⟩ := s.grantOnce_of_due h
    have he := s.eligible_of_chosen e hc
    rw [hx]
    exact fun hs hf => ⟨State.grantTo_flightSound hf he hr, State.grantTo_flightOrdered hs hf he hr⟩

theorem State.takeDue_keepsFlights (s : State) : s.KeepsFlights s.takeDue := by
  have hwindows : s.Lands s.takeOwed.windowsDue := s.takeOwed_lands.trans (State.windowsDue_lands _)
  have hmoves : s.RingMoves s.takeOwed.windowsDue :=
    (s.takeOwed_ringKept.trans (State.windowsDue_linksOnly _).ringKept).moves
  have hfirst := State.KeepsFlights.trans hmoves hwindows.keepsFlights (State.grantOnce_keepsFlights _)
  have hmoves := hmoves.trans (State.grantOnce_ringMoves _)
  have hsecond := State.KeepsFlights.trans hmoves hfirst (State.grantOnce_keepsFlights _)
  exact State.KeepsFlights.trans (hmoves.trans (State.grantOnce_ringMoves _)) hsecond
    s.takeDue_portOnly.lands.keepsFlights

/-! ### Every command -/

/-- A command after the due steps, whose effect lets sheets land at most. -/
theorem State.run_flights {s t : State} {f : State → State} (hx : s.run f = .next t)
    (hf : ∀ u : State, u.ringSound ∧ u.runSound → u.Lands (f u)) : s.KeepsFlights t := by
  cases hx
  exact State.KeepsFlights.trans s.takeDue_ringMoves s.takeDue_keepsFlights fun hs => (hf _ hs).keepsFlights hs

theorem State.runNoticed_flights {s t : State} {f : State → State} (hx : s.runNoticed f = .next t)
    (hf : ∀ u : State, u.ringSound ∧ u.runSound → u.Lands (f u)) : s.KeepsFlights t := by
  cases hx
  exact State.KeepsFlights.trans s.takeDue_ringMoves s.takeDue_keepsFlights fun hs =>
    ((hf _ hs).trans (.of_kept rfl fun _ => rfl)).keepsFlights hs

theorem exec_keepsFlights (c : Instr) (s t : State) (hx : exec c s = .next t) : s.KeepsFlights t := by
  cases c
  all_goals dsimp only [exec] at hx
  case orderByte a u d p => exact State.run_flights hx fun v _ => v.orderByteStrobed_lands a u d p
  case orderAccept =>
    cases hx
    exact (s.takeOwed_lands.trans (State.acceptWaiting_portOnly _).lands).keepsFlights
  case dataByte d p => exact State.run_flights hx fun v _ => v.dataByteStrobed_lands d p
  case unknownOrder => exact State.run_flights hx fun v _ => v.endRow_lands _ _ fun _ => .refl v
  case print => exact State.run_flights hx fun v _ => v.endRow_lands _ _ v.endPrint_lands
  case move => exact State.run_flights hx fun v _ => v.endRow_lands _ _ v.endMove_lands
  case sync => exact State.run_flights hx fun v _ => v.endRow_lands _ _ fun _ => .of_kept rfl fun _ => rfl
  case syncDone => cases hx; exact s.syncCompletes_portOnly.lands.keepsFlights
  case engineStopped => cases hx; exact s.syncFails_portOnly.lands.keepsFlights
  case tableCharacterMap =>
    exact State.run_flights hx fun v _ => v.frontRow_lands _ _ _ fun _ => .of_kept rfl fun _ => rfl
  case tableForms => exact State.run_flights hx fun v _ => v.frontRow_lands _ _ _ fun _ => v.loadForms_lands _
  case tableCollation => exact State.run_flights hx fun v _ => v.streamRow_lands _ _ _
  case tableFieldLayout => exact State.run_flights hx fun v _ => v.streamRow_lands _ _ _
  case tableKeyReset => exact State.run_flights hx fun v _ => v.streamRow_lands _ _ _
  case tableSheetPlan => exact State.run_flights hx fun v _ => v.streamRow_lands _ _ _
  case tableLinkSettings => exact State.run_flights hx fun v _ => v.frontRow_lands _ _ _ fun _ => v.applySettings_lands _
  case tableNoticeControl =>
    exact State.run_flights hx fun v _ => v.frontRow_lands _ _ _ fun _ => .of_kept rfl fun _ => rfl
  case tableNoticeClear =>
    exact State.run_flights hx fun v _ => v.frontRow_lands _ _ _ fun _ => .of_kept rfl fun _ => rfl
  case tableUnit => exact State.run_flights hx fun v _ => v.frontRow_lands _ _ _ fun _ => .of_kept rfl fun _ => rfl
  case tableCounterClear =>
    exact State.run_flights hx fun v _ => v.frontRow_lands _ _ _ fun _ => .of_kept rfl fun _ => rfl
  case tableReset =>
    exact State.run_flights hx fun v _ => v.tableRow_lands _ _ _ fun h _ =>
      State.Lands.trans (t := v.done h false) (.of_kept rfl fun _ => rfl) (State.softResetBlocks_lands _)
  case tableKindUnknown =>
    refine State.run_flights hx fun v _ => v.endRow_lands _ _ fun h => ?_
    unfold State.endTable
    split
    · exact v.refuse_lands _ _ _ _
    · exact .refl v
  case queryCondition => exact State.run_flights hx fun v _ => v.queryRow_lands _ _
  case queryCheck => exact State.run_flights hx fun v _ => v.queryRow_lands _ _
  case queryNotices =>
    exact State.run_flights hx fun v _ => v.endRow_lands _ _ fun h =>
      v.endQuery_lands h _ (v.noticesRead_lands.trans (.of_kept rfl fun _ => rfl))
  case queryCounters => exact State.run_flights hx fun v _ => v.queryRow_lands _ _
  case queryTable => exact State.run_flights hx fun v _ => v.queryRow_lands _ _
  case queryEngine => exact State.run_flights hx fun v _ => v.queryRow_lands _ _
  case queryRing => exact State.run_flights hx fun v _ => v.queryRow_lands _ _
  case selectorNamingNothing =>
    exact State.run_flights hx fun v _ => v.endRow_lands _ _ fun h => v.endQuery_lands h _ (.refl v)
  case replyTaken => exact State.run_flights hx fun v _ => v.replyTakenSignal_lands
  case clear => exact State.run_flights hx fun v _ => .of_kept rfl fun _ => rfl
  case lineReset =>
    exact State.run_flights hx fun v _ => v.softResetBlocks_lands.trans (.of_kept rfl fun _ => rfl)
  case hardwareReset straps => cases hx; exact (s.atReset_lands straps).keepsFlights
  case owedFormEnd => cases hx; exact s.takeOwed_lands.keepsFlights
  case placedLine =>
    exact State.runNoticed_flights hx fun v _ => v.atHead_of _ (.refl v) fun x => workPlacedLine_lands x v
  case overstrikeMerge =>
    exact State.runNoticed_flights hx fun v _ => v.atHead_of _ (.refl v) fun x => workMerge_lands x v
  case lineOfItsOwn =>
    exact State.runNoticed_flights hx fun v _ => v.atHead_of _ (.refl v) fun x => workOwnLine_lands x v
  case formEnd => exact State.runNoticed_flights hx fun v _ => v.atHead_of _ (.refl v) fun x => workFormEnd_lands x v
  case syncMarker =>
    exact State.runNoticed_flights hx fun v _ => v.atHead_of _ (.refl v) fun x => workSyncMarker_lands x v
  case sheetPlanEntry =>
    exact State.runNoticed_flights hx fun v _ => v.atHead_of _ (.refl v) fun x => workSheetPlan_lands x v
  case collationEntry => exact State.run_flights hx fun v _ => v.atHead_of _ (.refl v) fun x => workCollation_lands x v
  case fieldLayoutEntry =>
    exact State.run_flights hx fun v _ => v.atHead_of _ (.refl v) fun x => workFieldLayout_lands x v
  case keyResetEntry => exact State.run_flights hx fun v _ => v.atHead_of _ (.refl v) fun x => workKeyReset_lands x v
  case grant =>
    cases hx
    exact State.KeepsFlights.trans s.windowsDue_linksOnly.ringKept.moves s.windowsDue_lands.keepsFlights
      (State.grantOnce_keepsFlights _)
  case sheetEnd e => exact State.run_flights hx fun v _ => v.sendSheetEnd_lands e
  case offer e m a =>
    exact State.runNoticed_flights hx fun v _ => (v.offerFrame_lands e m a).trans (State.failover_lands _)
  case idle e => exact State.run_flights hx fun v _ => v.idleFrame_lands e
  case taken e q => exact State.run_flights hx fun v _ => v.takenFrame_lands e q
  case stacked e q =>
    exact State.runNoticed_flights hx fun v hs => (State.stackedFrame_lands hs e q).trans (State.failover_lands _)
  case stop e cause =>
    unfold execStop at hx
    split at hx
    · exact State.runNoticed_flights hx fun v _ => (v.stopFrame_lands e cause).trans (State.failover_lands _)
    · cases hx
  case jam e q =>
    exact State.runNoticed_flights hx fun v hs => (State.jamFrame_lands hs e q).trans (State.failover_lands _)
  case ready e => exact State.runNoticed_flights hx fun v _ => (v.readyFrame_lands e).trans (State.failover_lands _)
  case offerRepeat e => exact State.run_flights hx fun v _ => v.repeatOffer_lands e
  case offerWindow e =>
    exact State.runNoticed_flights hx fun v _ => (v.offerWindowEnds_lands e).trans (State.failover_lands _)
  case acknowledgementWindow e => exact State.runNoticed_flights hx fun v _ => v.ackWindowEnds_lands e
  case settleTimer e => exact State.runNoticed_flights hx fun v _ => (v.settleEnds_lands e).trans (State.failover_lands _)
  case silenceTimer e => exact State.runNoticed_flights hx fun v _ => (v.linkLost_lands e).trans (State.failover_lands _)
  case breakEnd e => exact State.runNoticed_flights hx fun v _ => v.breakEnds_lands e
  case takenTimeout e => exact State.runNoticed_flights hx fun v _ => v.timeout_lands e _
  case stackedTimeout e q => exact State.runNoticed_flights hx fun v _ => v.timeout_lands e _
  case tick => exact State.run_flights hx fun v _ => v.tick_lands
  case windowShort e => cases hx; exact (s.windowShort_lands e).keepsFlights
  case windowMet e => cases hx; exact (s.windowMet_lands e).keepsFlights
  case burstTimer => exact State.run_flights hx fun v _ => .of_kept rfl fun _ => rfl
  case callPattern => exact State.run_flights hx fun v _ => .of_kept rfl fun _ => rfl

/-- Settles O57: sheets land in every command but a grant, which lets a READY sheet take off to the end of the list of an
engine with room and none SENDING. -/
theorem inFlightListsMatchTheRing : Obligations.InFlightListsMatchTheRing := by
  unfold Obligations.InFlightListsMatchTheRing
  rintro s t ⟨hring, hrun, hf⟩ hx
  have hstep : s.KeepsFlights t := by
    unfold step at hx
    split at hx
    · cases hx
      exact s.takeDue_keepsFlights
    · next c rest _ =>
      have hqueue : s.RingKept { s with pending := rest } := ⟨rfl, rfl⟩
      have hkept : s.Lands { s with pending := rest } := .of_kept rfl fun _ => rfl
      exact State.KeepsFlights.trans hqueue.moves hkept.keepsFlights (exec_keepsFlights c _ t hx)
  exact hstep ⟨hring, hrun⟩ hf

end Sys2Proof.Machine
end

section
/-! PROOFS. STOP and the two timeouts: the sheets returned and the link as it leaves its work, and STOP in the other link
states. -/

namespace Sys2Proof.Machine

/-! ### The timers that run (R173, R175) -/

theorem State.takenTimerRuns_iff (s : State) (e : Engine) :
    s.takenTimerRuns e = true ↔ ∃ i ∈ (s.link e).inFlight, i.takenTimer.isSome = true ∧ s.isSending e i.seq = true := by
  simp only [State.takenTimerRuns, List.any_eq_true, Bool.and_eq_true]

theorem State.stackedTimerRuns_iff (s : State) (e : Engine) (q : Word16) :
    s.stackedTimerRuns e q = true ↔ ∃ i ∈ (s.link e).inFlight, i.seq = q ∧ i.stackedTimer.isSome = true := by
  simp only [State.stackedTimerRuns, List.any_eq_true, Bool.and_eq_true, beq_iff_eq]

/-! ### The arms of exec -/

theorem exec_stop (e : Engine) (cause : StopCause) (s : State) (h : cause.inStopFrame = true) :
    exec (.stop e cause) s = s.runNoticed fun q => (q.stopFrame e cause).failover := if_pos h

theorem exec_takenTimeout (e : Engine) (s : State) :
    exec (.takenTimeout e) s = s.runNoticed fun q => if q.takenTimerRuns e then (q.timedOut e).failover else q := rfl

theorem exec_stackedTimeout (e : Engine) (seq : Word16) (s : State) :
    exec (.stackedTimeout e seq) s =
      s.runNoticed fun q => if q.stackedTimerRuns e seq then (q.timedOut e).failover else q := rfl

/-! ### A READY link stops (R136, R177) -/

/-- The state after a READY link stops for a cause: `f` is what the frame, if there was one, changed of the link first. -/
def State.afterStop (s : State) (e : Engine) (f : Link → Link) (cause : StopCause) : State :=
  s.settleNotices (((s.modLink e f).returnAll e).leaveWork e (Link.enterStopped cause)).failover

theorem State.modLink_id (s : State) (e : Engine) : s.modLink e id = s := by cases e <;> rfl

theorem exec_stop_of_ready (e : Engine) (cause : StopCause) (s : State) (hq : s.quiet) (hr : (s.link e).state = .ready)
    (hc : cause.inStopFrame = true) : exec (.stop e cause) s = .next (s.afterStop e Link.heard cause) := by
  have hframe : s.stopFrame e cause = ((s.modLink e Link.heard).returnAll e).leaveWork e (Link.enterStopped cause) := by
    unfold State.stopFrame
    simp only [hr]
  rw [exec_stop e cause s hc, s.runNoticed_of_quiet _ hq, hframe]
  rfl

theorem State.settled_timedOut (s : State) (e : Engine) :
    s.settleNotices (s.timedOut e).failover = s.afterStop e id .timeout := by
  rw [State.afterStop, State.modLink_id]
  rfl

theorem exec_takenTimeout_of_runs (e : Engine) (s : State) (hq : s.quiet) (h : s.takenTimerRuns e = true) :
    exec (.takenTimeout e) s = .next (s.afterStop e id .timeout) := by
  rw [exec_takenTimeout, s.runNoticed_of_quiet _ hq, if_pos h, State.settled_timedOut]

theorem exec_stackedTimeout_of_runs (e : Engine) (seq : Word16) (s : State) (hq : s.quiet)
    (h : s.stackedTimerRuns e seq = true) : exec (.stackedTimeout e seq) s = .next (s.afterStop e id .timeout) := by
  rw [exec_stackedTimeout, s.runNoticed_of_quiet _ hq, if_pos h, State.settled_timedOut]

/-- What each of the three commands does on a READY link, with what it changed of the link first. -/
theorem exec_stops_of_ready (c : Instr) (s : State) (e : Engine) (cause : StopCause) (hq : s.quiet)
    (hr : (s.link e).state = .ready)
    (hc : c = .stop e cause ∧ cause.inStopFrame = true ∨
      c = .takenTimeout e ∧ s.takenTimerRuns e = true ∧ cause = .timeout ∨
      ∃ q, c = .stackedTimeout e q ∧ s.stackedTimerRuns e q = true ∧ cause = .timeout) :
    ∃ f : Link → Link, (∀ l, (f l).draining = l.draining ∧ (f l).mode = l.mode) ∧
      exec c s = .next (s.afterStop e f cause) := by
  rcases hc with ⟨rfl, hframe⟩ | ⟨rfl, hruns, rfl⟩ | ⟨q, rfl, hruns, rfl⟩
  · exact ⟨Link.heard, fun l => ⟨l.heard_draining, l.heard_mode⟩, exec_stop_of_ready e cause s hq hr hframe⟩
  · exact ⟨id, fun _ => ⟨rfl, rfl⟩, exec_takenTimeout_of_runs e s hq hruns⟩
  · exact ⟨id, fun _ => ⟨rfl, rfl⟩, exec_stackedTimeout_of_runs e q s hq hruns⟩

section
variable (s : State) (e : Engine) (f : Link → Link) (cause : StopCause)

theorem State.returned_to_afterStop : ((s.modLink e f).returnAll e).LinksOnly (s.afterStop e f cause) :=
  State.settleNotices_linksOnly s _ _ ((State.leaveWork_linksOnly _ e _).trans (State.failover_linksOnly _))

theorem State.afterStop_ring : (s.afterStop e f cause).ring = mapSlots (returnSlot e) s.ring := by
  rw [s.returned_to_afterStop e f cause, State.returnAll_eq, State.modLink_ring]

theorem State.afterStop_eq :
    s.afterStop e f cause = { s with
      ring := (s.afterStop e f cause).ring
      linkA := (s.afterStop e f cause).linkA
      linkB := (s.afterStop e f cause).linkB
      dispatcher := { s.dispatcher with active := (s.afterStop e f cause).dispatcher.active }
      notices := (s.afterStop e f cause).notices } := by
  have hafter := s.returned_to_afterStop e f cause
  rw [State.LinksOnly, State.returnAll_eq, s.modLink_linksOnly e f] at hafter
  rw [s.afterStop_ring e f cause]
  exact hafter

theorem State.afterStop_link (hf : (f (s.link e)).draining = (s.link e).draining) :
    (s.afterStop e f cause).link e =
      if s.uses e = false then Link.enterOff { f (s.link e) with inFlight := [], writing := [] }
      else if (s.link e).draining = true then
        Link.enterOffering s.settings { f (s.link e) with inFlight := [], writing := [] }
      else Link.enterStopped cause { f (s.link e) with inFlight := [], writing := [] } := by
  have hlink : ((s.modLink e f).returnAll e).link e = { f (s.link e) with inFlight := [], writing := [] } := by
    rw [State.returnAll_link, State.link_modLink_self]
  have hsettings : ((s.modLink e f).returnAll e).settings = s.settings := by
    rw [State.returnAll_eq, s.modLink_linksOnly e f]
  have huses : ((s.modLink e f).returnAll e).uses e = s.uses e := by
    rw [State.uses, hsettings]
    rfl
  rw [State.afterStop, State.settleNotices_link, State.failover_link, State.leaveWork_link, huses, hsettings, hlink, hf]

theorem State.afterStop_link_other : (s.afterStop e f cause).link (otherEngine e) = s.link (otherEngine e) := by
  rw [State.afterStop, State.settleNotices_link, State.failover_link, State.leaveWork_link_other,
    State.returnAll_link_other, State.link_modLink_other]

/-- R136, R171: nothing is in flight and nothing is written. -/
theorem State.afterStop_link_empty (hf : (f (s.link e)).draining = (s.link e).draining) :
    ((s.afterStop e f cause).link e).inFlight = [] ∧ ((s.afterStop e f cause).link e).writing = [] := by
  rw [s.afterStop_link e f cause hf]
  split
  · exact ⟨rfl, rfl⟩
  · split <;> exact ⟨rfl, rfl⟩
end

/-! ### STOP in the other link states (R157, R177) -/

theorem exec_stop_of_modLink (s : State) (e : Engine) (cause : StopCause) (f : Link → Link) (m : Link) (hq : s.quiet)
    (hc : cause.inStopFrame = true) (hf : s.stopFrame e cause = s.modLink e f) (hm : f (s.link e) = m) :
    ∃ t, exec (.stop e cause) s = .next t ∧ s.OnlyAtLink t e ∧ t.ring = s.ring ∧ t.link e = m := by
  obtain ⟨honly, hring, hlink⟩ := s.settled_modLink_onlyAtLink e f
  refine ⟨s.settleNotices (s.modLink e f).failover, ?_, honly, hring, hlink.trans hm⟩
  rw [exec_stop e cause s hc, s.runNoticed_of_quiet _ hq, hf]

theorem State.stopFrame_of_settling (s : State) (e : Engine) (cause : StopCause) (h : (s.link e).state = .settling) :
    s.stopFrame e cause = s.modLink e fun l => l.heard.enterStopped cause := by
  unfold State.stopFrame
  simp only [h]
  exact s.modLink_modLink e _ _

theorem State.stopFrame_of_stopped (s : State) (e : Engine) (cause : StopCause) (h : (s.link e).state = .stopped) :
    s.stopFrame e cause = s.modLink e fun l => { l.heard with stopCause := some cause } := by
  unfold State.stopFrame
  simp only [h]
  exact s.modLink_modLink e _ _

theorem State.stopFrame_of_ignored (s : State) (e : Engine) (cause : StopCause)
    (h : (s.link e).state = .offering ∨ (s.link e).state = .agreeing ∨ (s.link e).state = .broken ∨
      (s.link e).state = .off) : s.stopFrame e cause = s := by
  unfold State.stopFrame
  rcases h with h | h | h | h <;> simp only [h]

/-- Settles O45: on a READY link the three commands return every sheet and leave the work of the link alike; elsewhere a STOP
is one change of the link, or none, and a timer that does not run is none. -/
theorem stopsAndTimeoutsReturnEverySheet : Obligations.StopsAndTimeoutsReturnEverySheet := by
  unfold Obligations.StopsAndTimeoutsReturnEverySheet
  refine ⟨fun s e => ⟨s.takenTimerRuns_iff e, s.stackedTimerRuns_iff e⟩, fun c s e cause hq hr hc => ?_,
    fun s e hq hcall => ⟨fun h => ?_, fun q h => ?_⟩,
    fun s e cause hq hc => ⟨fun h => ?_, fun h => ?_, fun h hcall hsettled => ?_⟩⟩
  · obtain ⟨f, hf, hx⟩ := exec_stops_of_ready c s e cause hq hr hc
    obtain ⟨hdraining, hmode⟩ := hf (s.link e)
    obtain ⟨hin, hwriting⟩ := s.afterStop_link_empty e f cause hdraining
    refine ⟨s.afterStop e f cause, hx, s.afterStop_eq e f cause, ?_, s.afterStop_link_other e f cause, hin, hwriting,
      fun hu hd => ?_, fun hu hd => ?_, fun hu => ?_⟩
    · rw [s.afterStop_ring e f cause]
      exact ringReturned_mapSlots e _
    · rw [s.afterStop_link e f cause hdraining, hu, hd]
      exact ⟨rfl, rfl, hmode⟩
    · rw [s.afterStop_link e f cause hdraining, hu, hd]
      exact ⟨rfl, rfl, rfl⟩
    · rw [s.afterStop_link e f cause hdraining, hu]
      rfl
  · rw [exec_takenTimeout, s.runNoticed_of_quiet _ hq, h, if_neg Bool.false_ne_true,
      State.settleNotices_same s s rfl hcall]
  · rw [exec_stackedTimeout, s.runNoticed_of_quiet _ hq, h, if_neg Bool.false_ne_true,
      State.settleNotices_same s s rfl hcall]
  · exact exec_stop_of_modLink s e cause _ _ hq hc (s.stopFrame_of_settling e cause h)
      ((s.link e).heard_enterStopped cause h)
  · exact exec_stop_of_modLink s e cause _ _ hq hc (s.stopFrame_of_stopped e cause h) ((s.link e).heard_stopCause cause h)
  · rw [exec_stop e cause s hc, s.runNoticed_of_quiet _ hq, s.stopFrame_of_ignored e cause h,
      s.failover_of_settled hsettled, State.settleNotices_same s s rfl hcall]

end Sys2Proof.Machine
end

section
/-! PROOFS. The grant, the end of a transfer's writing, and the choice of the engine. -/

namespace Sys2Proof.Machine

/-! ### GRANT (R133, R137, R143) -/

theorem exec_grant (s : State) (ha : s.linkA.windowDue = false) (hb : s.linkB.windowDue = false) :
    exec .grant s = .next s.grantOnce := by
  have hdue : exec .grant s = .next s.windowsDue.grantOnce := rfl
  rw [hdue, s.windowsDue_of_not_due ha hb]

theorem State.grantOnce_of_chosen (s : State) (e : Engine) (sh : Sheet) (he : s.chosenEngine = some e)
    (hr : s.oldestReady = some sh) : s.grantOnce = s.grantTo e sh := by
  simp only [State.grantOnce, he, hr]

/-- R133: no READY sheet is older. -/
theorem State.oldestReady_spec (s : State) (sh : Sheet) (h : s.oldestReady = some sh) :
    some ⟨.ready, sh⟩ ∈ s.ring ∧ ∀ x, some ⟨.ready, x⟩ ∈ s.ring → s.age x.seq ≤ s.age sh.seq := by
  obtain ⟨o, ho, rfl⟩ := Option.map_eq_some_iff.mp h
  obtain ⟨hmem, hready, hold⟩ := oldestOf_spec _ _ _ o ho
  have hphase : o.phase = .ready := by simpa using hready
  refine ⟨?_, fun x hx => hold _ hx rfl⟩
  rw [← hphase]
  exact hmem

/-- R137: the grant of a sheet with no reissue counts nothing. -/
theorem State.countReissue_counters (s : State) (sh : Sheet) :
    (s.countReissue sh).counters = if sh.reissue = 0 then s.counters else (s.count .reissued 1).counters := by
  rw [State.countReissue]
  exact apply_ite State.counters _ _ _

/-- R143: the slots after a grant. -/
theorem mapSlots_sendSlot (e : Engine) (q : Word16) (r : Ring) :
    mapSlots (sendSlot e q) r = r.map fun o => match o with
      | none => none
      | some x => some (if x.sheet.seq = q ∧ x.phase = .ready then ⟨.sending e, x.sheet⟩ else x) :=
  List.map_congr_left fun o _ => by cases o <;> rfl

theorem State.grantTo_writes (s : State) (e : Engine) (sh : Sheet) :
    s.grantTo e sh = { s with
      ring := s.ring.map fun o => match o with
        | none => none
        | some x => some (if x.sheet.seq = sh.seq ∧ x.phase = .ready then ⟨.sending e, x.sheet⟩ else x)
      dispatcher := { s.dispatcher with lastGranted := e }
      linkA := (s.grantTo e sh).linkA
      linkB := (s.grantTo e sh).linkB
      counters := if sh.reissue = 0 then s.counters else (s.count .reissued 1).counters } := by
  rw [← mapSlots_sendSlot, ← State.countReissue_counters, s.grantTo_eq]

/-- R143, R167: SHEET BEGIN leaves at once when nothing is being written. -/
theorem Link.beginTransfer_eq (sh : Sheet) (l : Link) :
    l.beginTransfer sh = { l with
      inFlight := l.inFlight ++ [⟨sh.seq, none, none⟩]
      writing := l.writing ++ [transferOf (l.mode.getD .plain) sh]
      lastSent := if l.writing = [] then [sheetBeginFrame (l.mode.getD .plain) sh] else l.lastSent } := by
  unfold Link.beginTransfer
  cases l.writing <;> rfl

/-! ### SHEET_END (R167, R171, R173) -/

theorem exec_sheetEnd (s : State) (e : Engine) (hq : s.quiet) : exec (.sheetEnd e) s = .next (s.sendSheetEnd e) :=
  s.run_of_quiet (fun q => q.sendSheetEnd e) hq

theorem State.sendSheetEnd_of_idle (s : State) (e : Engine) (h : (s.link e).writing = []) : s.sendSheetEnd e = s := by
  unfold State.sendSheetEnd
  rw [h]

theorem State.sendSheetEnd_of_writing (s : State) (e : Engine) (w : Transfer) (more : List Transfer)
    (h : (s.link e).writing = w :: more) :
    s.sendSheetEnd e = s.setLink e { s.link e with
      writing := more
      lastSent := w.rest ++ (more.head?.map fun n => n.opening).toList
      inFlight :=
        if s.isSending e w.seq then
          (s.link e).inFlight.map fun i =>
            if i.seq = w.seq then ⟨i.seq, some s.settings.takenMs, i.stackedTimer⟩ else i
        else (s.link e).inFlight } := by
  unfold State.sendSheetEnd
  rw [h]
  rfl

/-- Settles O40: a grant by what it writes, when one is due, and a SHEET_END by the transfer at the head of those being
written. -/
theorem grantsAndTransfers : Obligations.GrantsAndTransfers := by
  unfold Obligations.GrantsAndTransfers
  refine ⟨fun s e sh ha hb he hr => ?_, fun s ha hb hd => ?_, fun s e hq => ⟨fun h => ?_, fun w more h => ?_⟩⟩
  · obtain ⟨hmem, hold⟩ := s.oldestReady_spec sh hr
    refine ⟨s.eligible_of_chosen e he, hmem, hold, s.grantTo e sh, ?_, s.grantTo_writes e sh, s.grantTo_link_other e sh, ?_⟩
    · rw [exec_grant s ha hb, s.grantOnce_of_chosen e sh he hr]
    · rw [s.grantTo_link_self, Link.beginTransfer_eq]
  · rw [exec_grant s ha hb, s.grantOnce_of_not_due hd]
  · rw [exec_sheetEnd s e hq, s.sendSheetEnd_of_idle e h]
  · rw [exec_sheetEnd s e hq, s.sendSheetEnd_of_writing e w more h]

end Sys2Proof.Machine
end

section
/-! PROOFS. Which engine takes sheets, which are eligible and able, and which one is granted. -/

namespace Sys2Proof.Machine

/-! ### Roles (R140, R160) -/

theorem Arrangement.uses_iff (a : Arrangement) (e : Engine) :
    a.uses e = true ↔ a = .tandem ∨ a = .standby ∨ a = .singleA ∧ e = .a ∨ a = .singleB ∧ e = .b := by
  cases a <;> cases e <;> decide

theorem State.uses_iff (s : State) (e : Engine) :
    s.uses e = true ↔ s.settings.arrangement = .tandem ∨ s.settings.arrangement = .standby ∨
      s.settings.arrangement = .singleA ∧ e = .a ∨ s.settings.arrangement = .singleB ∧ e = .b :=
  s.settings.arrangement.uses_iff e

theorem State.takesSheets_iff (s : State) (e : Engine) :
    s.takesSheets e = true ↔ s.settings.arrangement = .tandem ∨
      s.settings.arrangement = .standby ∧ s.dispatcher.active = e ∨
      s.settings.arrangement = .singleA ∧ e = .a ∨ s.settings.arrangement = .singleB ∧ e = .b := by
  unfold State.takesSheets
  cases s.settings.arrangement <;> simp

/-- R140: out of TANDEM one engine at most takes sheets. -/
theorem State.takesSheets_unique (s : State) (h : s.settings.arrangement ≠ .tandem) :
    s.takesSheets .a = false ∨ s.takesSheets .b = false := by
  unfold State.takesSheets
  cases ha : s.settings.arrangement with
  | singleA => exact .inr rfl
  | singleB => exact .inl rfl
  | standby => cases s.dispatcher.active <;> simp
  | tandem => exact absurd ha h

/-! ### Eligible, able, held (R142, R147) -/

theorem State.not_hasSending_iff (s : State) (e : Engine) :
    s.hasSending e = false ↔ ∀ x, some x ∈ s.ring → x.phase ≠ .sending e := by
  rw [← Bool.not_eq_true, State.hasSending_iff]
  simp only [not_exists, not_and, ne_eq]

theorem State.eligible_iff (s : State) (e : Engine) :
    s.eligible e = true ↔ (s.link e).state = .ready ∧ (s.link e).draining = false ∧ s.takesSheets e = true ∧
      (∀ x, some x ∈ s.ring → x.phase ≠ .sending e) ∧ (s.link e).inFlight.length < 2 := by
  have hlimit : Config.inFlightLimit = 2 := rfl
  rw [← State.not_hasSending_iff]
  simp only [State.eligible, Bool.and_eq_true, beq_iff_eq, Bool.not_eq_true', decide_eq_true_eq, and_assoc, hlimit]

theorem State.able_iff (s : State) (e : Engine) :
    s.able e = true ↔ (s.link e).state = .ready ∧ (s.eligible e = true ∨ (s.link e).inFlight ≠ []) := by
  simp [State.able]

theorem State.held_iff (s : State) : s.held = true ↔ ∀ e : Engine, s.able e = false := by
  rw [State.held, Bool.and_eq_true, Bool.not_eq_true', Bool.not_eq_true']
  exact ⟨fun ⟨ha, hb⟩ e => by cases e <;> assumption, fun h => ⟨h .a, h .b⟩⟩

/-- R140, R142: out of TANDEM one engine at most is eligible. -/
theorem State.eligible_unique (s : State) (h : s.settings.arrangement ≠ .tandem) :
    s.eligible .a = false ∨ s.eligible .b = false := by
  have hrole : ∀ e, s.takesSheets e = false → s.eligible e = false := fun e he => by simp [State.eligible, he]
  exact (s.takesSheets_unique h).imp (hrole .a) (hrole .b)

/-! ### The choice (R144) -/

section
variable {s : State}

theorem State.chosenEngine_of_both (ha : s.eligible .a = true) (hb : s.eligible .b = true) :
    (s.linkA.pace.degraded = false → s.linkB.pace.degraded = true → s.chosenEngine = some .a) ∧
      (s.linkA.pace.degraded = true → s.linkB.pace.degraded = false → s.chosenEngine = some .b) ∧
      (s.linkA.pace.degraded = s.linkB.pace.degraded →
        s.chosenEngine = some (otherEngine s.dispatcher.lastGranted)) := by
  simp only [State.chosenEngine, ha, hb]
  refine ⟨fun hda hdb => ?_, fun hda hdb => ?_, fun hd => ?_⟩
  · rw [hda, hdb]
  · rw [hda, hdb]
  · rw [hd]
    cases s.linkB.pace.degraded <;> rfl

theorem State.chosenEngine_of_not_both (h : s.eligible .a = false ∨ s.eligible .b = false) :
    s.chosenEngine = if s.eligible .a = true then some .a else if s.eligible .b = true then some .b else none := by
  unfold State.chosenEngine
  cases ha : s.eligible .a <;> cases hb : s.eligible .b
  · rfl
  · rfl
  · rfl
  · rw [ha, hb] at h
    simp at h
end

/-! ### After a reset (R139, R144) -/

theorem exec_hardwareReset_dispatcher (straps : Straps) (s t : State) (hx : exec (.hardwareReset straps) s = .next t) :
    t.dispatcher = ⟨.a, .b⟩ := by
  cases hx
  rfl

theorem exec_lineReset_dispatcher (s t : State) (hx : exec .lineReset s = .next t) : t.dispatcher = ⟨.a, .b⟩ := by
  cases hx
  rfl

/-- Settles O41: roles by the arrangement, eligible, able and held by their tests, and the choice by which engines are
eligible. -/
theorem dispatcherChoosesTheEngine : Obligations.DispatcherChoosesTheEngine := by
  unfold Obligations.DispatcherChoosesTheEngine
  refine ⟨fun s e => ⟨s.uses_iff e, s.takesSheets_iff e, s.eligible_iff e, s.able_iff e, s.held_iff⟩,
    fun s => ⟨State.chosenEngine_of_both, fun ha hb => ?_, fun ha hb => ?_, fun ha hb => ?_, s.eligible_unique⟩,
    fun s t straps hx => ?_, fun s t hx => ?_⟩
  · rw [State.chosenEngine_of_not_both (.inr hb), if_pos ha]
  · rw [State.chosenEngine_of_not_both (.inl ha), ha, hb]
    rfl
  · rw [State.chosenEngine_of_not_both (.inl ha), ha, hb]
    rfl
  · rw [exec_hardwareReset_dispatcher straps s t hx]
  · rw [exec_lineReset_dispatcher s t hx]

end Sys2Proof.Machine
end

section
/-! PROOFS. READY and IDLE frames; and, for every event at one link, what it leaves of the rest and what is settled after
it. -/

namespace Sys2Proof.Machine

/-! ### An event at one link -/

/-- From `s` to `t` one link was worked on: the rest of the state stands but for the active engine and what pends and calls
in the Notice Unit. -/
structure State.AtLink (s t : State) (e : Engine) : Prop where
  links : s.LinksOnly t
  other : t.link (otherEngine e) = s.link (otherEngine e)
  mask : t.notices.mask = s.notices.mask
  confirmed : t.notices.confirmed = s.notices.confirmed

theorem State.AtLink.refl (s : State) (e : Engine) : s.AtLink s e := ⟨.refl s, rfl, rfl, rfl⟩

theorem State.AtLink.trans {s t u : State} {e : Engine} (h : s.AtLink t e) (k : t.AtLink u e) : s.AtLink u e :=
  ⟨h.links.trans k.links, k.other.trans h.other, k.mask.trans h.mask, k.confirmed.trans h.confirmed⟩

theorem State.modLink_atLink (s : State) (e : Engine) (f : Link → Link) : s.AtLink (s.modLink e f) e :=
  ⟨s.modLink_linksOnly e f, s.link_modLink_other e f, by simp, by simp⟩

theorem State.setLink_atLink (s : State) (e : Engine) (l : Link) : s.AtLink (s.setLink e l) e :=
  s.modLink_atLink e fun _ => l

theorem State.post_atLink (s : State) (x : Source10) (e : Engine) : s.AtLink (s.post x) e :=
  ⟨s.post_linksOnly x, by cases e <;> rfl, rfl, rfl⟩

theorem State.failover_atLink (s : State) (e : Engine) : s.AtLink s.failover e := by
  refine ⟨s.failover_linksOnly, s.failover_link _, ?_, s.failover_apart.confirmed⟩
  unfold State.failover
  simp only
  split <;> rfl

theorem State.settleNotices_atLink (b s : State) (e : Engine) : s.AtLink (b.settleNotices s) e :=
  ⟨State.settleNotices_linksOnly b s s (.refl s), State.settleNotices_link b s _, rfl, rfl⟩

theorem State.AtLink.ring {s t : State} {e : Engine} (h : s.AtLink t e) : t.ring = s.ring := by rw [h.links]

theorem State.AtLink.onlyAtLink {s t : State} {e : Engine} (h : s.AtLink t e) : s.OnlyAtLink t e :=
  ⟨by rw [h.ring]; exact h.links, h.other, h.mask, h.confirmed⟩

theorem State.OnlyAtLink.trans {s t u : State} {e : Engine} (h : s.OnlyAtLink t e) (k : t.OnlyAtLink u e) :
    s.OnlyAtLink u e := by
  obtain ⟨hs, hother, hmask, hconfirmed⟩ := h
  obtain ⟨kt, kother, kmask, kconfirmed⟩ := k
  refine ⟨?_, kother.trans hother, kmask.trans hmask, kconfirmed.trans hconfirmed⟩
  rw [kt, hs]

/-- R181, R202: the failover check and the notices of an event at a link. -/
theorem State.settled_atLink (s u : State) (e : Engine) : u.AtLink (s.settleNotices u.failover) e :=
  (u.failover_atLink e).trans (State.settleNotices_atLink s _ e)

theorem State.post_link (s : State) (x : Source10) (e : Engine) : (s.post x).link e = s.link e := by cases e <;> rfl

theorem State.settled_link (s u : State) (e : Engine) : (s.settleNotices u.failover).link e = u.link e := by
  rw [State.settleNotices_link, State.failover_link]

/-- R202: an event source pends after the settling exactly when it pended before. -/
theorem State.settleNotices_pending_of_event (s t : State) (x : Source10) (hx : inSet conditionSources x = false) :
    inSet (s.settleNotices t).notices.pending x = inSet t.notices.pending x := by
  have hnone : ∀ u : State, inSet u.conditions x = false := fun u => Bool.eq_false_iff.mpr fun h => by
    rw [State.mem_conditionSources h] at hx
    cases hx
  rw [State.settleNotices_notices, edgesOn_pending, hnone, hnone]
  simp

/-- R202: what an event posts still pends when all is settled. -/
theorem State.settled_post_pending (s u : State) (x : Source10) (hx : inSet conditionSources x = false) :
    inSet (s.settleNotices (u.post x).failover).notices.pending x = true := by
  rw [s.settleNotices_pending_of_event _ x hx]
  refine (State.failover_apart _).keeps x ?_
  rw [State.post_notices, NoticeUnit.setPending_pending, inSet_or, inSet_bit]
  simp

/-- Work that reaches no condition and no notice, and after which no failover is due, has nothing settled after it. -/
theorem State.settled_of_unnoticed {s u : State} (hcall : s.notices.callSound) (hsettled : u.failoverSettled)
    (hc : u.conditions = s.conditions) (hn : u.notices = s.notices) : s.settleNotices u.failover = u := by
  rw [u.failover_of_settled hsettled, s.settleNotices_same u hc (hn ▸ hcall)]

theorem State.settled_of_ignored {s : State} (hcall : s.notices.callSound) (hsettled : s.failoverSettled) :
    s.settleNotices s.failover = s :=
  State.settled_of_unnoticed hcall hsettled rfl rfl

/-! ### Frames that a link hears (R157) -/

theorem Link.heard_of_listening (l : Link) (h : l.state = .settling ∨ l.state = .ready ∨ l.state = .stopped) :
    l.heard = { l with timers := { l.timers with silence := some 500 } } := by
  unfold Link.heard
  rcases h with h | h | h <;> rw [h] <;> rfl

/-- R181: hearing a frame brings no failover about. -/
theorem State.heard_failoverSettled {s : State} (e : Engine) (h : s.failoverSettled) :
    (s.modLink e Link.heard).failoverSettled := by
  have hstate : ∀ x, ((s.modLink e Link.heard).link x).state = (s.link x).state := fun x => by
    rcases eq_or_eq_otherEngine e x with rfl | rfl <;> simp
  rw [State.failoverSettled, hstate, hstate, State.modLink_settings, State.modLink_dispatcher]
  exact h

/-- A frame that is only heard restarts the silence timer. -/
theorem State.settled_heard {s : State} (e : Engine) (hcall : s.notices.callSound) (hsettled : s.failoverSettled) :
    s.settleNotices (s.modLink e Link.heard).failover = s.setLink e (s.link e).heard :=
  State.settled_of_unnoticed hcall (State.heard_failoverSettled e hsettled) (s.heard_calm e).conditions
    (s.modLink_notices e _)

/-! ### READY (R156, R179) -/

theorem exec_ready (e : Engine) (s : State) : exec (.ready e) s = s.runNoticed fun q => (q.readyFrame e).failover := rfl

/-- The link that a READY brings back. -/
def State.restored (s : State) (e : Engine) : State := s.modLink e fun l => l.heard.enterReady s.settings

theorem State.readyFrame_of_stopped (s : State) (e : Engine) (h : (s.link e).state = .stopped) :
    s.readyFrame e = (s.restored e).post .engineRestored := by
  unfold State.readyFrame
  rw [h]
  rfl

theorem State.readyFrame_of_heard (s : State) (e : Engine) (h : (s.link e).state = .settling ∨ (s.link e).state = .ready) :
    s.readyFrame e = s.modLink e Link.heard := by
  unfold State.readyFrame
  rcases h with h | h <;> rw [h]

theorem State.readyFrame_of_ignored (s : State) (e : Engine)
    (h : (s.link e).state = .off ∨ (s.link e).state = .offering ∨ (s.link e).state = .agreeing ∨
      (s.link e).state = .broken) : s.readyFrame e = s := by
  unfold State.readyFrame
  rcases h with h | h | h | h <;> rw [h]

/-- R157, R179, R183: the silence timer alone runs on, restarted, and the Pace Monitor is reloaded. -/
theorem Link.heard_enterReady (cfg : LinkSettings) (l : Link) (h : l.state = .stopped) :
    l.heard.enterReady cfg = { l with
      state := .ready
      hasBeenReady := true
      stopCause := none
      timers := ⟨none, none, none, none, some 500, none⟩
      pace := ⟨BitVec.ofNat 16 (65536 - cfg.paceWindow), BitVec.ofNat 8 (256 - cfg.paceTarget), l.pace.shortCount,
        l.pace.degraded, false, false⟩ } := by
  rw [l.heard_of_listening (.inr (.inr h))]
  rfl

/-! ### IDLE (R150, R154, R157) -/

theorem exec_idle (e : Engine) (s : State) (hq : s.quiet) : exec (.idle e) s = .next (s.idleFrame e) :=
  s.run_of_quiet (fun q => q.idleFrame e) hq

theorem State.idleFrame_of_offering (s : State) (e : Engine) (h : (s.link e).state = .offering) :
    s.idleFrame e = s.setLink e { s.link e with idleSeen := true } := by
  unfold State.idleFrame
  rw [h]
  rfl

theorem State.idleFrame_of_listening (s : State) (e : Engine)
    (h : (s.link e).state = .settling ∨ (s.link e).state = .ready ∨ (s.link e).state = .stopped) :
    s.idleFrame e = s.setLink e (s.link e).heard := by
  unfold State.idleFrame
  rcases h with h | h | h <;> rw [h] <;> rfl

theorem State.idleFrame_of_ignored (s : State) (e : Engine)
    (h : (s.link e).state = .off ∨ (s.link e).state = .agreeing ∨ (s.link e).state = .broken) : s.idleFrame e = s := by
  unfold State.idleFrame
  rcases h with h | h | h <;> rw [h]

/-- Settles O47: each frame by the group of link states it meets: brought back, heard, noted or ignored. -/
theorem readyAndIdleFrames : Obligations.ReadyAndIdleFrames := by
  unfold Obligations.ReadyAndIdleFrames
  intro s e hq
  refine ⟨fun h => ?_, fun h hcall hsettled => ?_, fun h hcall hsettled => ?_, fun h => ?_, fun h => ?_, fun h => ?_⟩
  · have hat : s.AtLink (s.settleNotices ((s.restored e).post .engineRestored).failover) e :=
      ((s.modLink_atLink e _).trans (State.post_atLink _ _ e)).trans (s.settled_atLink _ e)
    refine ⟨_, ?_, hat.links, hat.other, ?_, s.settled_post_pending _ .engineRestored rfl⟩
    · rw [exec_ready, s.runNoticed_of_quiet _ hq, s.readyFrame_of_stopped e h]
    · have hlink : ((s.restored e).post .engineRestored).link e = (s.link e).heard.enterReady s.settings := by
        rw [State.post_link, State.restored, State.link_modLink_self]
      rw [State.settled_link, hlink, (s.link e).heard_enterReady s.settings h]
  · rw [exec_ready, s.runNoticed_of_quiet _ hq, s.readyFrame_of_heard e h, State.settled_heard e hcall hsettled,
      (s.link e).heard_of_listening (h.imp_right .inl)]
  · rw [exec_ready, s.runNoticed_of_quiet _ hq, s.readyFrame_of_ignored e h, State.settled_of_ignored hcall hsettled]
  · rw [exec_idle e s hq, s.idleFrame_of_offering e h]
  · rw [exec_idle e s hq, s.idleFrame_of_listening e h, (s.link e).heard_of_listening h]
  · rw [exec_idle e s hq, s.idleFrame_of_ignored e h]

end Sys2Proof.Machine
end

section
/-! PROOFS. TAKEN by the sheet it names, and TAKEN and STACKED that name no sheet in flight. -/

namespace Sys2Proof.Machine

/-! ### The sheet named (R141, R172) -/

theorem State.holdsSeq_iff_exists (s : State) (e : Engine) (seq : Word16) :
    s.holdsSeq e seq = true ↔ ∃ i ∈ (s.link e).inFlight, i.seq = seq := by
  rw [State.holdsSeq_iff, List.mem_map]

theorem State.isSending_iff_exists (s : State) (e : Engine) (seq : Word16) :
    s.isSending e seq = true ↔ ∃ x, some x ∈ s.ring ∧ x.sheet.seq = seq ∧ x.phase = .sending e := by
  rw [State.isSending, List.any_eq_true]
  constructor
  · rintro ⟨_ | x, hx, h⟩
    · cases h
    · exact ⟨x, hx, by simpa using h⟩
  · rintro ⟨x, hx, h⟩
    exact ⟨some x, hx, by simpa using h⟩

/-- R172: the slots after a TAKEN. -/
theorem mapSlots_takeSlot (e : Engine) (seq : Word16) (r : Ring) :
    mapSlots (takeSlot e seq) r = r.map fun o => match o with
      | none => none
      | some x => some (if x.sheet.seq = seq ∧ x.phase = .sending e then ⟨.sent e, x.sheet⟩ else x) :=
  List.map_congr_left fun o _ => by cases o <;> rfl

/-! ### TAKEN (R172, R175, R176) -/

theorem exec_taken (e : Engine) (seq : Word16) (s : State) (hq : s.quiet) :
    exec (.taken e seq) s = .next (s.takenFrame e seq) :=
  s.run_of_quiet (fun q => q.takenFrame e seq) hq

theorem State.takenFrame_of_off (s : State) (e : Engine) (seq : Word16) (h : (s.link e).state = .off) :
    s.takenFrame e seq = s := if_pos h

/-- A TAKEN taken in is heard, and goes on by the sheet it names. -/
theorem State.takenFrame_of_on (s : State) (e : Engine) (seq : Word16) (h : (s.link e).state ≠ .off) :
    s.takenFrame e seq =
      if s.holdsSeq e seq then
        if s.isSending e seq then (s.modLink e Link.heard).sheetTaken e seq else s.modLink e Link.heard
      else (s.modLink e Link.heard).count .strays 1 := by
  have hsending : (s.modLink e Link.heard).isSending e seq = s.isSending e seq := by
    rw [State.isSending, State.modLink_ring, State.isSending]
  rw [State.takenFrame, if_neg h]
  simp only [State.heard_holdsSeq, hsending]

theorem State.sheetTaken_link (s : State) (e : Engine) (seq : Word16) :
    (s.sheetTaken e seq).link e = { s.link e with
      inFlight := (s.link e).inFlight.map (startStacked s.settings.stackedMs seq) } := by
  cases e <;> rfl

theorem State.sheetTaken_link_other (s : State) (e : Engine) (seq : Word16) :
    (s.sheetTaken e seq).link (otherEngine e) = s.link (otherEngine e) := by
  cases e <;> rfl

/-- R172: what a TAKEN heard writes, the links apart. -/
theorem State.heard_sheetTaken_writes (s : State) (e : Engine) (seq : Word16) :
    (s.modLink e Link.heard).sheetTaken e seq = { s with
      ring := s.ring.map fun o => match o with
        | none => none
        | some x => some (if x.sheet.seq = seq ∧ x.phase = .sending e then ⟨.sent e, x.sheet⟩ else x)
      linkA := ((s.modLink e Link.heard).sheetTaken e seq).linkA
      linkB := ((s.modLink e Link.heard).sheetTaken e seq).linkB } := by
  rw [← mapSlots_takeSlot]
  cases e <;> rfl

/-! ### STACKED that names no sheet in flight (R176) -/

theorem State.stackedFrame_of_off (s : State) (e : Engine) (seq : Word16) (h : (s.link e).state = .off) :
    s.stackedFrame e seq = s := if_pos h

theorem State.stackedFrame_of_stray (s : State) (e : Engine) (seq : Word16) (h : (s.link e).state ≠ .off)
    (hn : s.holdsSeq e seq = false) : s.stackedFrame e seq = (s.modLink e Link.heard).count .strays 1 := by
  rw [State.stackedFrame, if_neg h]
  simp only [State.heard_holdsSeq, hn, Bool.false_eq_true, if_false]

/-- R176: a stray is heard and counted, and nothing follows it. -/
theorem State.settled_stray {s : State} (e : Engine) (hcall : s.notices.callSound) (hsettled : s.failoverSettled) :
    s.settleNotices ((s.modLink e Link.heard).count .strays 1).failover = (s.modLink e Link.heard).count .strays 1 := by
  have hlinks : ∀ (u : State) (x : Engine), (u.count .strays 1).link x = u.link x := fun u x => by cases x <;> rfl
  refine State.settled_of_unnoticed hcall ?_ (s.heard_calm e).conditions (s.modLink_notices e _)
  rw [State.failoverSettled, hlinks, hlinks]
  exact State.heard_failoverSettled e hsettled

/-- Settles O43: TAKEN by whether the sheet it names is SENDING, in flight or neither; STACKED by its stray. -/
theorem takenAndStrays : Obligations.TakenAndStrays := by
  unfold Obligations.TakenAndStrays
  refine ⟨fun s e seq => ⟨s.holdsSeq_iff_exists e seq, s.isSending_iff_exists e seq⟩, fun s e seq hq =>
    ⟨fun hoff => ⟨?_, fun hcall hsettled => ?_⟩, fun hon => ⟨fun hh hx => ?_, fun hh hx => ?_, fun hn =>
      ⟨?_, fun hcall hsettled => ?_⟩⟩⟩⟩
  · rw [exec_taken e seq s hq, s.takenFrame_of_off e seq hoff]
  · rw [exec_stacked, s.runNoticed_of_quiet _ hq, s.stackedFrame_of_off e seq hoff,
      State.settled_of_ignored hcall hsettled]
  · refine ⟨(s.modLink e Link.heard).sheetTaken e seq, ?_, s.heard_sheetTaken_writes e seq, ?_, ?_⟩
    · rw [exec_taken e seq s hq, s.takenFrame_of_on e seq hon, if_pos hh, if_pos hx]
    · rw [State.sheetTaken_link_other, State.link_modLink_other]
    · rw [State.sheetTaken_link, State.link_modLink_self, Link.heard_inFlight, State.modLink_settings]
      rfl
  · rw [exec_taken e seq s hq, s.takenFrame_of_on e seq hon, if_pos hh, if_neg (by simp [hx])]
    rfl
  · rw [exec_taken e seq s hq, s.takenFrame_of_on e seq hon, if_neg (by simp [hn])]
    rfl
  · rw [exec_stacked, s.runNoticed_of_quiet _ hq, s.stackedFrame_of_stray e seq hon hn, State.settled_stray e hcall hsettled]
    rfl

end Sys2Proof.Machine
end

section
/-! PROOFS. An engine's OFFER in every link state, and a link that loses its sheets. -/

namespace Sys2Proof.Machine

/-! ### The mode resolved (R151) -/

/-- R151: the mode of highest priority that both sets hold is the first of four tests that passes. -/
theorem resolveMode_eq_some_iff (advertised modes : ModeSet) (m : Mode) :
    resolveMode advertised modes = some m ↔
      (advertised &&& modes).getLsbD (modeNumber (some m) - 1) = true ∧
        ∀ i, i < modeNumber (some m) - 1 → (advertised &&& modes).getLsbD i = false := by
  have hfirst : ∀ p q r t : Bool,
      (if p then some Mode.fine else if q then some .standard else if r then some .proof
        else if t then some .plain else none) = some m ↔
        match m with
        | .fine => p = true
        | .standard => q = true ∧ p = false
        | .proof => r = true ∧ p = false ∧ q = false
        | .plain => t = true ∧ p = false ∧ q = false ∧ r = false := by
    cases m <;> decide
  refine (hfirst _ _ _ _).trans ?_
  cases m <;>
    simp only [modeNumber, Nat.forall_lt_succ_right, Nat.not_lt_zero, false_imp_iff, forall_const, Nat.reduceSub,
      true_and, and_true, and_assoc]

/-! ### The links that an OFFER leaves (R152, R153, R155, R156) -/

/-- R153: an OFFER is counted with those before it of the same set, or as the first of its own. -/
theorem Link.noteOffer_eq (modes : ModeSet) (l : Link) :
    l.noteOffer modes = { l with
      offersSeen := true
      keptSet := some modes
      offerCount := if l.keptSet = some modes then l.offerCount + 1 else 1 } := by
  unfold Link.noteOffer
  split
  · next h => rw [← h]
  · rfl

/-- R152: an OFFER that restarts agreement is the first of three. -/
theorem Link.enterOffering_noteOffer (cfg : LinkSettings) (modes : ModeSet) (l : Link) :
    (l.enterOffering cfg).noteOffer modes =
      { l.enterOffering cfg with offersSeen := true, keptSet := some modes, offerCount := 1 } := by
  rw [Link.noteOffer_eq]
  rfl

/-- R156: with no settle delay the link is READY at once. -/
theorem Link.enterSettling_settlesTo (cfg : LinkSettings) (l : Link) : Link.SettlesTo cfg l (l.enterSettling cfg) := by
  unfold Link.enterSettling
  exact ⟨fun h => if_neg h, fun h => if_pos h⟩

/-! ### A link that loses its sheets (R136, R171) -/

/-- Every sheet in flight returns, and the link goes where `f` says. -/
def State.loseSheets (s : State) (e : Engine) (f : Link → Link) : State := (s.returnAll e).modLink e f

theorem State.returnAll_onlyAtLink (s : State) (e : Engine) : s.OnlyAtLink (s.returnAll e) e := by
  cases e <;> exact ⟨rfl, rfl, rfl, rfl⟩

theorem State.returnAll_uses (s : State) (e : Engine) : (s.returnAll e).uses e = s.uses e := by
  rw [State.returnAll_eq]
  rfl

theorem State.returnAll_settings (s : State) (e : Engine) : (s.returnAll e).settings = s.settings := by
  rw [State.returnAll_eq]

theorem State.loseSheets_onlyAtLink (s : State) (e : Engine) (f : Link → Link) : s.OnlyAtLink (s.loseSheets e f) e :=
  (s.returnAll_onlyAtLink e).trans (State.modLink_atLink _ e f).onlyAtLink

theorem State.loseSheets_ring (s : State) (e : Engine) (f : Link → Link) :
    (s.loseSheets e f).ring = mapSlots (returnSlot e) s.ring := by
  rw [State.loseSheets, State.modLink_ring, State.returnAll_eq]

theorem State.loseSheets_link (s : State) (e : Engine) (f : Link → Link) :
    (s.loseSheets e f).link e = f { s.link e with inFlight := [], writing := [] } := by
  rw [State.loseSheets, State.link_modLink_self, State.returnAll_link]

/-! ### OFFER in OFFERING (R153) -/

section
variable (s : State) (e : Engine) (modes : ModeSet)

/-- R153, R154: a failed agreement leaves the link in BREAK and posts NEGOTIATION FAULT. -/
theorem State.negotiationFault_atLink : s.AtLink (s.negotiationFault e) e :=
  (s.modLink_atLink e _).trans (State.post_atLink _ _ e)

theorem State.negotiationFault_link : (s.negotiationFault e).link e = (s.link e).enterBreak := by
  rw [State.negotiationFault, State.post_link, State.link_modLink_self]

theorem State.countOffer_of_few (h : ((s.link e).noteOffer modes).offerCount < 3) :
    s.countOffer e modes = s.setLink e ((s.link e).noteOffer modes) := if_pos h

theorem State.countOffer_of_resolved (h : 3 ≤ ((s.link e).noteOffer modes).offerCount) (m : Mode)
    (hm : resolveMode s.settings.advertised modes = some m) :
    s.countOffer e modes = s.setLink e
      (Link.enterAgreeing s.settings { (s.link e).noteOffer modes with agreedSet := some modes, mode := some m }) := by
  rw [State.countOffer]
  simp only [if_neg (Nat.not_lt.mpr h), hm]

theorem State.countOffer_of_unresolved (h : 3 ≤ ((s.link e).noteOffer modes).offerCount)
    (hm : resolveMode s.settings.advertised modes = none) :
    s.countOffer e modes = (s.setLink e ((s.link e).noteOffer modes)).negotiationFault e := by
  rw [State.countOffer]
  simp only [if_neg (Nat.not_lt.mpr h), hm]

theorem State.countOffer_atLink : s.AtLink (s.countOffer e modes) e := by
  by_cases h : ((s.link e).noteOffer modes).offerCount < 3
  · rw [s.countOffer_of_few e modes h]
    exact s.setLink_atLink e _
  · cases hm : resolveMode s.settings.advertised modes with
    | some m =>
      rw [s.countOffer_of_resolved e modes (Nat.not_lt.mp h) m hm]
      exact s.setLink_atLink e _
    | none =>
      rw [s.countOffer_of_unresolved e modes (Nat.not_lt.mp h) hm]
      exact (s.setLink_atLink e _).trans (State.negotiationFault_atLink _ e)

/-! ### OFFER by the state of its link (R150, R155, R156, R158) -/

variable (ack : Bool)

theorem exec_offer :
    exec (.offer e modes ack) s = s.runNoticed fun q => (q.offerFrame e modes ack).failover := rfl

theorem State.offerFrame_of_ignored (h : (s.link e).state = .off ∨ (s.link e).state = .broken) :
    s.offerFrame e modes ack = s := by
  unfold State.offerFrame
  rcases h with h | h <;> simp only [h]

theorem State.offerFrame_of_offering (h : (s.link e).state = .offering) :
    s.offerFrame e modes ack = s.countOffer e modes := by
  unfold State.offerFrame
  simp only [h]

/-- R155: an OFFER that repeats the set agreed on acknowledges it or says nothing new. -/
theorem State.offerFrame_of_agreeing (h : (s.link e).state = .agreeing) (hs : (s.link e).agreedSet = some modes) :
    s.offerFrame e modes ack = if ack = true then s.acknowledged e else s := by
  unfold State.offerFrame
  simp only [h, if_pos hs]

/-- R156: an acknowledgement repeated while SETTLING is heard. -/
theorem State.offerFrame_of_settling (h : (s.link e).state = .settling)
    (hs : (s.link e).agreedSet = some modes ∧ ack = true) : s.offerFrame e modes ack = s.modLink e Link.heard := by
  unfold State.offerFrame
  simp only [h, if_pos hs]

/-- R155, R156: any other OFFER in AGREEING or SETTLING restarts agreement. -/
theorem State.offerFrame_of_disagreeing
    (h : (s.link e).state = .agreeing ∧ (s.link e).agreedSet ≠ some modes ∨
      (s.link e).state = .settling ∧ ¬((s.link e).agreedSet = some modes ∧ ack = true)) :
    s.offerFrame e modes ack = s.restartOffering e modes := by
  unfold State.offerFrame
  rcases h with ⟨h, hs⟩ | ⟨h, hs⟩ <;> simp only [h, if_neg hs]

/-- R158: an engine that offers while its link works has restarted; its sheets return. -/
theorem State.offerFrame_of_working (h : (s.link e).state = .ready ∨ (s.link e).state = .stopped) :
    s.offerFrame e modes ack =
      if s.uses e = true then s.loseSheets e fun l => (l.enterOffering s.settings).noteOffer modes
      else s.loseSheets e Link.enterOff := by
  unfold State.offerFrame
  rcases h with h | h <;> simp only [h, s.returnAll_uses e, State.restartOffering, s.returnAll_settings e] <;> rfl

/-! ### What an OFFER leaves -/

theorem State.offerFrame_atLink (hr : (s.link e).state ≠ .ready) (hx : (s.link e).state ≠ .stopped) :
    s.AtLink (s.offerFrame e modes ack) e := by
  cases h : (s.link e).state with
  | off => rw [s.offerFrame_of_ignored e modes ack (.inl h)]; exact .refl s e
  | broken => rw [s.offerFrame_of_ignored e modes ack (.inr h)]; exact .refl s e
  | offering => rw [s.offerFrame_of_offering e modes ack h]; exact s.countOffer_atLink e modes
  | agreeing =>
    by_cases hs : (s.link e).agreedSet = some modes
    · rw [s.offerFrame_of_agreeing e modes ack h hs]
      split
      · exact s.modLink_atLink e _
      · exact .refl s e
    · rw [s.offerFrame_of_disagreeing e modes ack (.inl ⟨h, hs⟩)]
      exact s.modLink_atLink e _
  | settling =>
    by_cases hs : (s.link e).agreedSet = some modes ∧ ack = true
    · rw [s.offerFrame_of_settling e modes ack h hs]
      exact s.modLink_atLink e _
    · rw [s.offerFrame_of_disagreeing e modes ack (.inr ⟨h, hs⟩)]
      exact s.modLink_atLink e _
  | ready => exact absurd h hr
  | stopped => exact absurd h hx

theorem State.offerFrame_onlyAtLink : s.OnlyAtLink (s.offerFrame e modes ack) e := by
  by_cases h : (s.link e).state = .ready ∨ (s.link e).state = .stopped
  · rw [s.offerFrame_of_working e modes ack h]
    split <;> exact s.loseSheets_onlyAtLink e _
  · obtain ⟨hr, hx⟩ := not_or.mp h
    exact (s.offerFrame_atLink e modes ack hr hx).onlyAtLink

/-- Wherever an OFFER restarts agreement, the link enters OFFERING with this OFFER counted. -/
theorem State.offerFrame_restarts
    (h : ((s.link e).state = .agreeing ∧ (s.link e).agreedSet ≠ some modes) ∨
      ((s.link e).state = .settling ∧ ¬((s.link e).agreedSet = some modes ∧ ack = true)) ∨
      (((s.link e).state = .ready ∨ (s.link e).state = .stopped) ∧ s.uses e = true)) :
    ∃ l : Link, (s.offerFrame e modes ack).link e =
      { l.enterOffering s.settings with offersSeen := true, keptSet := some modes, offerCount := 1 } := by
  rcases or_assoc.mpr h with h | ⟨h, hu⟩
  · refine ⟨s.link e, ?_⟩
    rw [s.offerFrame_of_disagreeing e modes ack h, State.restartOffering, State.link_modLink_self,
      Link.enterOffering_noteOffer]
  · refine ⟨{ s.link e with inFlight := [], writing := [] }, ?_⟩
    rw [s.offerFrame_of_working e modes ack h, if_pos hu, State.loseSheets_link, Link.enterOffering_noteOffer]

/-- R136, R158: after an engine's restart nothing is in flight and nothing is written. -/
theorem State.offerFrame_of_working_link (h : (s.link e).state = .ready ∨ (s.link e).state = .stopped) :
    ((s.offerFrame e modes ack).link e).inFlight = [] ∧ ((s.offerFrame e modes ack).link e).writing = [] ∧
      (s.uses e = false → ((s.offerFrame e modes ack).link e).state = .off) := by
  rw [s.offerFrame_of_working e modes ack h]
  split
  · next hu =>
    rw [State.loseSheets_link, Link.enterOffering_noteOffer]
    exact ⟨rfl, rfl, fun hn => by rw [hu] at hn; cases hn⟩
  · rw [State.loseSheets_link]
    exact ⟨rfl, rfl, fun _ => rfl⟩

theorem State.offerFrame_of_working_ring (h : (s.link e).state = .ready ∨ (s.link e).state = .stopped) :
    (s.offerFrame e modes ack).ring = mapSlots (returnSlot e) s.ring := by
  rw [s.offerFrame_of_working e modes ack h]
  split <;> exact s.loseSheets_ring e _
end

/-- R153: the link, and the notice, by the count an OFFER in OFFERING reaches and the mode it resolves to. -/
theorem State.settled_countOffer (s : State) (e : Engine) (modes : ModeSet) (t : State)
    (ht : t = s.settleNotices (s.countOffer e modes).failover) (n : Nat)
    (hn : n = if (s.link e).keptSet = some modes then (s.link e).offerCount + 1 else 1) :
    (n < 3 → t.link e = { s.link e with offersSeen := true, keptSet := some modes, offerCount := n }) ∧
      (3 ≤ n → ∀ m, resolveMode s.settings.advertised modes = some m →
        (t.link e).state = .agreeing ∧ (t.link e).agreedSet = some modes ∧ (t.link e).mode = some m ∧
          (t.link e).lastSent = [.offer s.settings.advertised true] ∧
          (t.link e).timers = ⟨some 50, none, some 1000, none, none, none⟩) ∧
      (3 ≤ n → resolveMode s.settings.advertised modes = none →
        (t.link e).state = .broken ∧ (t.link e).timers = ⟨none, none, none, none, none, some 800⟩ ∧
          inSet t.notices.pending .negotiationFault = true) := by
  have hcount : ((s.link e).noteOffer modes).offerCount = n := by rw [Link.noteOffer_eq, hn]
  subst ht
  refine ⟨fun h => ?_, fun h m hm => ?_, fun h hm => ?_⟩
  · rw [State.settled_link, s.countOffer_of_few e modes (hcount ▸ h), State.link_setLink_self, Link.noteOffer_eq, ← hn]
  · rw [State.settled_link, s.countOffer_of_resolved e modes (hcount ▸ h) m hm, State.link_setLink_self]
    exact ⟨rfl, rfl, rfl, rfl, rfl⟩
  · rw [State.settled_link, s.countOffer_of_unresolved e modes (hcount ▸ h) hm, State.negotiationFault_link]
    exact ⟨rfl, rfl, State.settled_post_pending s _ .negotiationFault rfl⟩

/-- Settles O48: the frame by the group of link states it meets; the link, which no failover reaches, by what the OFFER
does there. -/
theorem offerFrames : Obligations.OfferFrames := by
  unfold Obligations.OfferFrames
  refine ⟨resolveMode_eq_some_iff, fun s e modes ack hq _ => ?_⟩
  have hwork := s.settled_atLink (s.offerFrame e modes ack) e
  have hlink := s.settled_link (s.offerFrame e modes ack) e
  obtain ⟨heq, hother, -, -⟩ := (s.offerFrame_onlyAtLink e modes ack).trans hwork.onlyAtLink
  refine ⟨s.settleNotices (s.offerFrame e modes ack).failover, ?_, heq, hother, fun hr hx => ?_, fun h => ?_,
    fun h n hn => ?_, fun h hs => ⟨fun hack => ?_, fun hack => ?_⟩, fun h hs hack => ?_, fun h => ?_, fun h => ⟨?_, ?_⟩⟩
  · rw [exec_offer, s.runNoticed_of_quiet _ hq]
  · rw [hwork.ring, (s.offerFrame_atLink e modes ack hr hx).ring]
  · rw [hlink, s.offerFrame_of_ignored e modes ack h]
  · exact s.settled_countOffer e modes _ (by rw [s.offerFrame_of_offering e modes ack h]) n hn
  · rw [hlink, s.offerFrame_of_agreeing e modes ack h hs, if_pos hack, State.acknowledged, State.link_modLink_self]
    exact Link.enterSettling_settlesTo _ _
  · rw [hlink, s.offerFrame_of_agreeing e modes ack h hs, hack, if_neg Bool.false_ne_true]
  · rw [hlink, s.offerFrame_of_settling e modes ack h ⟨hs, hack⟩, State.link_modLink_self,
      (s.link e).heard_of_listening (.inl h)]
  · obtain ⟨l, hl⟩ := s.offerFrame_restarts e modes ack h
    rw [hlink, hl]
    exact ⟨rfl, rfl, rfl, rfl, rfl, rfl, rfl, rfl⟩
  · rw [hwork.ring, s.offerFrame_of_working_ring e modes ack h]
    exact ringReturned_mapSlots e _
  · rw [hlink]
    exact s.offerFrame_of_working_link e modes ack h

end Sys2Proof.Machine
end

section
/-! PROOFS. The six timers of a link's agreement, when they run and when they do not. -/

namespace Sys2Proof.Machine

section
variable (s : State) (e : Engine)

/-! ### The arms of exec -/

theorem exec_offerRepeat (hq : s.quiet) : exec (.offerRepeat e) s = .next (s.repeatOffer e) :=
  s.run_of_quiet (fun q => q.repeatOffer e) hq

theorem exec_offerWindow (hq : s.quiet) :
    exec (.offerWindow e) s = .next (s.settleNotices (s.offerWindowEnds e).failover) :=
  s.runNoticed_of_quiet (fun q => (q.offerWindowEnds e).failover) hq

theorem exec_acknowledgementWindow (hq : s.quiet) :
    exec (.acknowledgementWindow e) s = .next (s.settleNotices (s.ackWindowEnds e)) :=
  s.runNoticed_of_quiet (fun q => q.ackWindowEnds e) hq

theorem exec_settleTimer (hq : s.quiet) :
    exec (.settleTimer e) s = .next (s.settleNotices (s.settleEnds e).failover) :=
  s.runNoticed_of_quiet (fun q => (q.settleEnds e).failover) hq

theorem exec_silenceTimer (hq : s.quiet) :
    exec (.silenceTimer e) s = .next (s.settleNotices (s.linkLost e).failover) :=
  s.runNoticed_of_quiet (fun q => (q.linkLost e).failover) hq

theorem exec_breakEnd (hq : s.quiet) : exec (.breakEnd e) s = .next (s.settleNotices (s.breakEnds e)) :=
  s.runNoticed_of_quiet (fun q => q.breakEnds e) hq

/-! ### The repetition of the OFFER (R152, R155) -/

theorem State.repeatOffer_of_offering (h : (s.link e).state = .offering) :
    s.repeatOffer e = s.setLink e { s.link e with lastSent := [.offer s.settings.advertised false] } := by
  unfold State.repeatOffer
  rw [h]
  rfl

theorem State.repeatOffer_of_agreeing (h : (s.link e).state = .agreeing) :
    s.repeatOffer e = s.setLink e { s.link e with lastSent := [.offer s.settings.advertised true] } := by
  unfold State.repeatOffer
  rw [h]
  rfl

theorem State.repeatOffer_of_idle (ho : (s.link e).state ≠ .offering) (ha : (s.link e).state ≠ .agreeing) :
    s.repeatOffer e = s := by
  unfold State.repeatOffer
  split
  case h_1 h => exact absurd h ho
  case h_2 h => exact absurd h ha
  all_goals rfl

/-! ### The offer window (R153, R154) -/

/-- A window in which OFFERs were seen, or IDLE alone with M4 not advertised, ends in a fault. -/
theorem State.offerWindowEnds_of_fault (h : (s.link e).state = .offering)
    (hseen : (s.link e).offersSeen = true ∨ (s.link e).idleSeen = true ∧ s.settings.advertised.getLsbD 3 = false) :
    s.offerWindowEnds e = s.negotiationFault e := by
  unfold State.offerWindowEnds
  simp only [if_pos h]
  split
  · rfl
  · next hn =>
    obtain ⟨hidle, hplain⟩ := hseen.resolve_left hn
    rw [if_pos hidle, State.plainDetection, if_neg (by rw [hplain]; exact Bool.false_ne_true)]

/-- R154: plain detection. -/
theorem State.offerWindowEnds_of_plain (h : (s.link e).state = .offering) (hoffers : (s.link e).offersSeen = false)
    (hidle : (s.link e).idleSeen = true) (hplain : s.settings.advertised.getLsbD 3 = true) :
    s.offerWindowEnds e = s.modLink e fun l =>
      Link.enterSettling s.settings { l with mode := some .plain, plain := true, agreedSet := none } := by
  unfold State.offerWindowEnds
  simp only [if_pos h, hoffers, Bool.false_eq_true, if_false, if_pos hidle, State.plainDetection, if_pos hplain]

/-- R154: a window in which nothing was seen runs again. -/
theorem State.offerWindowEnds_of_silence (h : (s.link e).state = .offering) (hoffers : (s.link e).offersSeen = false)
    (hidle : (s.link e).idleSeen = false) :
    s.offerWindowEnds e =
      s.setLink e { s.link e with timers := { (s.link e).timers with offerWindow := some 2000 } } := by
  unfold State.offerWindowEnds
  simp only [if_pos h, hoffers, hidle, Bool.false_eq_true, if_false]
  rfl

theorem State.offerWindowEnds_atLink : s.AtLink (s.offerWindowEnds e) e := by
  unfold State.offerWindowEnds State.plainDetection
  simp only
  split
  · split
    · exact s.negotiationFault_atLink e
    · split
      · split
        · exact s.modLink_atLink e _
        · exact s.negotiationFault_atLink e
      · exact s.setLink_atLink e _
  · exact .refl s e

/-! ### The silence timer (R157, R160) -/

theorem State.linkLost_of_running (h : (s.link e).timers.silence.isSome = true) :
    s.linkLost e = s.loseSheets e (if s.uses e = true then Link.enterBreak else Link.enterOff) := by
  unfold State.linkLost
  simp only [if_pos h, s.returnAll_uses e]
  split <;> rfl

end

/-! ### What an expiry leaves -/

/-- An expiry that changes one link, after which R181 has no failover check, is an event at that link. -/
theorem State.settled_modLink_atLink (s : State) (e : Engine) (f : Link → Link) :
    s.AtLink (s.settleNotices (s.modLink e f)) e ∧ (s.settleNotices (s.modLink e f)).link e = f (s.link e) ∧
      (s.settleNotices (s.modLink e f)).dispatcher = s.dispatcher :=
  ⟨(s.modLink_atLink e f).trans (State.settleNotices_atLink s _ e), by simp, s.modLink_dispatcher e f⟩

/-- Settles O49: each timer by what its expiry does to the link, and by the link state in which it does not run. -/
theorem linkTimersExpire : Obligations.LinkTimersExpire := by
  unfold Obligations.LinkTimersExpire
  intro s e hq
  refine ⟨fun h => ?_, fun h => ?_, fun ho ha => ?_, fun h => ?_, fun h => ?_, fun h => ?_, fun h => ?_, fun h => ?_,
    fun hcall hsettled => ⟨fun h => ?_, fun h => ?_, fun h => ?_, fun h => ?_, fun h => ?_⟩⟩
  · rw [exec_offerRepeat s e hq, s.repeatOffer_of_offering e h]
  · rw [exec_offerRepeat s e hq, s.repeatOffer_of_agreeing e h]
  · rw [exec_offerRepeat s e hq, s.repeatOffer_of_idle e ho ha]
  · have hat := (s.offerWindowEnds_atLink e).trans (s.settled_atLink _ e)
    refine ⟨_, exec_offerWindow s e hq, hat.onlyAtLink, hat.ring, fun hseen => ?_, fun hoffers hidle hplain => ?_,
      fun hoffers hidle => ?_⟩
    · rw [s.offerWindowEnds_of_fault e h hseen, State.settled_link, State.negotiationFault_link]
      exact ⟨rfl, s.settled_post_pending _ .negotiationFault rfl⟩
    · rw [State.settled_link, s.offerWindowEnds_of_plain e h hoffers hidle hplain, State.link_modLink_self]
      exact Link.enterSettling_settlesTo _ _
    · rw [State.settled_link, s.offerWindowEnds_of_silence e h hoffers hidle, State.link_setLink_self]
  · obtain ⟨hat, hlink, hdispatcher⟩ := s.settled_modLink_atLink e Link.enterBreak
    refine ⟨_, ?_, hat.onlyAtLink, hat.ring, hdispatcher, hlink, ?_⟩
    · rw [exec_acknowledgementWindow s e hq, State.ackWindowEnds, if_pos h]
    · rw [s.settleNotices_pending_of_event _ .negotiationFault rfl, State.modLink_notices]
  · have hat := (s.modLink_atLink e (Link.enterReady s.settings)).trans (s.settled_atLink _ e)
    refine ⟨_, ?_, hat.onlyAtLink, hat.ring, ?_⟩
    · rw [exec_settleTimer s e hq, State.settleEnds, if_pos h]
    · rw [State.settled_link, State.link_modLink_self]
      rfl
  · have hat := s.settled_atLink (s.linkLost e) e
    have hlost := s.linkLost_of_running e h
    refine ⟨_, exec_silenceTimer s e hq, ?_, ?_, fun hu => ?_, fun hu => ?_⟩
    · rw [hlost] at hat ⊢
      exact (s.loseSheets_onlyAtLink e _).trans hat.onlyAtLink
    · rw [hat.ring, hlost, State.loseSheets_ring]
      exact ringReturned_mapSlots e _
    · rw [State.settled_link, hlost, State.loseSheets_link, if_pos hu]
      rfl
    · rw [State.settled_link, hlost, State.loseSheets_link, if_neg (by simp [hu])]
      rfl
  · obtain ⟨hat, hlink, hdispatcher⟩ := s.settled_modLink_atLink e (Link.enterOffering s.settings)
    refine ⟨_, ?_, hat.onlyAtLink, hat.ring, hdispatcher, hlink⟩
    rw [exec_breakEnd s e hq, State.breakEnds, if_pos h]
  · rw [exec_offerWindow s e hq, State.offerWindowEnds]
    simp only [if_neg h, State.settled_of_ignored hcall hsettled]
  · rw [exec_acknowledgementWindow s e hq, State.ackWindowEnds, if_neg h, State.settleNotices_same s s rfl hcall]
  · rw [exec_settleTimer s e hq, State.settleEnds, if_neg h, State.settled_of_ignored hcall hsettled]
  · rw [exec_silenceTimer s e hq, State.linkLost, if_neg (by simp [h]), State.settled_of_ignored hcall hsettled]
  · rw [exec_breakEnd s e hq, State.breakEnds, if_neg h, State.settleNotices_same s s rfl hcall]

end Sys2Proof.Machine
end

section
/-! PROOFS. LINK SETTINGS: its fields, and how each link and the active engine follow a change of arrangement, of the
advertised set, or of both. -/

namespace Sys2Proof.Machine

/-! ### The fields (R160, R162) -/

theorem arrangementOf_mem (n : Nat) (h : n ≤ 3) :
    (n, arrangementOf n) ∈ ([(0, .singleA), (1, .singleB), (2, .standby), (3, .tandem)] : List (Nat × Arrangement)) := by
  interval_cases n <;> decide

/-- R160: each engine is left unused by one arrangement alone. -/
theorem Arrangement.eq_of_unused {a b : Arrangement} {e : Engine} (ha : a.uses e = false) (hb : b.uses e = false) :
    a = b := by
  revert ha hb
  cases a <;> cases b <;> cases e <;> decide

/-! ### A link that follows a change (R160, R163, R164) -/

/-- A link taken into use enters OFFERING, and one no longer used goes OFF when nothing is in flight. -/
def Link.followUse (cfg : LinkSettings) (used : Bool) (l : Link) : Link :=
  if used = true then if l.state = .off then l.enterOffering cfg else l
  else if l.inFlight = [] then l.enterOff else l

/-- A new advertised set is agreed on anew, by a READY link when the sheets it holds are worked out. -/
def Link.followSet (cfg : LinkSettings) (l : Link) : Link :=
  if l.state = .off ∨ l.state = .broken then l
  else if l.state = .ready ∧ l.inFlight ≠ [] then { l with draining := true }
  else l.enterOffering cfg

theorem State.modLink_congr (s : State) (e : Engine) {f g : Link → Link} (h : f (s.link e) = g (s.link e)) :
    s.modLink e f = s.modLink e g := congrArg (s.setLink e) h

theorem State.modLink_of_fixed (s : State) (e : Engine) {f : Link → Link} (h : f (s.link e) = s.link e) :
    s.modLink e f = s := (s.modLink_congr e h).trans (s.modLink_id e)

theorem State.followArrangement_eq (s : State) (e : Engine) :
    s.followArrangement e = s.modLink e (Link.followUse s.settings (s.uses e)) := by
  unfold State.followArrangement
  split
  · next hu =>
    split
    · next ho => exact s.modLink_congr e (by rw [Link.followUse, if_pos hu, if_pos ho])
    · next ho => exact (s.modLink_of_fixed e (by rw [Link.followUse, if_pos hu, if_neg ho])).symm
  · next hu =>
    split
    · next hi => exact s.modLink_congr e (by rw [Link.followUse, if_neg hu, if_pos (List.isEmpty_iff.mp hi)])
    · next hi => exact (s.modLink_of_fixed e (by rw [Link.followUse, if_neg hu, if_neg (by simpa using hi)])).symm

theorem Link.followSet_of_out (cfg : LinkSettings) (l : Link) (h : l.state = .off ∨ l.state = .broken) :
    l.followSet cfg = l := if_pos h

theorem Link.followSet_of_holding (cfg : LinkSettings) (l : Link) (hr : l.state = .ready) (hi : l.inFlight ≠ []) :
    l.followSet cfg = { l with draining := true } := by
  rw [Link.followSet, if_neg (by simp [hr]), if_pos ⟨hr, hi⟩]

theorem Link.followSet_of_free (cfg : LinkSettings) (l : Link) (hoff : l.state ≠ .off) (hbreak : l.state ≠ .broken)
    (hfree : l.state = .ready → l.inFlight = []) : l.followSet cfg = l.enterOffering cfg := by
  rw [Link.followSet, if_neg (not_or.mpr ⟨hoff, hbreak⟩), if_neg fun h => h.2 (hfree h.1)]

theorem State.followAdvertised_eq (s : State) (e : Engine) :
    s.followAdvertised e = s.modLink e (Link.followSet s.settings) := by
  have hfree : ∀ x, (s.link e).state = x → x ≠ .off → x ≠ .broken → x ≠ .ready →
      s.modLink e (Link.enterOffering s.settings) = s.modLink e (Link.followSet s.settings) := fun x hx ho hb hr =>
    s.modLink_congr e ((s.link e).followSet_of_free s.settings (hx ▸ ho) (hx ▸ hb) fun h => absurd h (hx ▸ hr)).symm
  unfold State.followAdvertised
  split
  case h_1 h => exact (s.modLink_of_fixed e ((s.link e).followSet_of_out _ (.inl h))).symm
  case h_2 h => exact (s.modLink_of_fixed e ((s.link e).followSet_of_out _ (.inr h))).symm
  case h_3 h | h_4 h | h_5 h | h_6 h => exact hfree _ h (by decide) (by decide) (by decide)
  case h_7 h =>
    split
    · next hi =>
      exact s.modLink_congr e ((s.link e).followSet_of_free s.settings (by simp [h]) (by simp [h])
        fun _ => List.isEmpty_iff.mp hi).symm
    · next hi => exact s.modLink_congr e ((s.link e).followSet_of_holding s.settings h (by simpa using hi)).symm

/-! ### Both links, and the failover check (R163, R181) -/

/-- What a change of arrangement does to the link of an engine. -/
def useChange (c : LinkSettings) (e : Engine) : Link → Link := Link.followUse c (c.arrangement.uses e)

/-- What a change of the advertised set does to the link of an engine; one that the record stops using is not drained. -/
def setChange (old c : LinkSettings) (e : Engine) : Link → Link :=
  if old.arrangement.uses e = true ∧ c.arrangement.uses e = false then id else Link.followSet c

/-- Each link changed in its own way, and then the failover check. -/
def State.eachLink (s : State) (f : Engine → Link → Link) : State := ((s.modLink .a (f .a)).modLink .b (f .b)).failover

theorem State.followAdvertisedIf_eq (s : State) (old : LinkSettings) (e : Engine) :
    s.followAdvertisedIf old e = s.modLink e (setChange old s.settings e) := by
  unfold State.followAdvertisedIf setChange
  by_cases h : old.arrangement.uses e = true ∧ s.settings.arrangement.uses e = false
  · rw [if_pos h, State.modLink_id, if_pos (by simpa [State.uses] using h)]
  · rw [if_neg h, if_neg (by simpa [State.uses] using h), s.followAdvertised_eq e]

theorem State.followArrangement_both (s : State) :
    ((s.followArrangement .a).followArrangement .b).failover = s.eachLink (useChange s.settings) := by
  rw [State.followArrangement_eq _ .b, State.followArrangement_eq s .a]
  rfl

theorem State.followAdvertised_both (s : State) (old : LinkSettings) :
    ((s.followAdvertisedIf old .a).followAdvertisedIf old .b).failover = s.eachLink (setChange old s.settings) := by
  rw [State.followAdvertisedIf_eq _ old .b, State.followAdvertisedIf_eq s old .a]
  rfl

theorem State.eachLink_link (s : State) (f : Engine → Link → Link) (e : Engine) :
    (s.eachLink f).link e = f e (s.link e) := by
  rw [State.eachLink, State.failover_link]
  cases e <;> rfl

theorem State.eachLink_settings (s : State) (f : Engine → Link → Link) : (s.eachLink f).settings = s.settings := by
  rw [State.eachLink, State.failover_settings, State.modLink_settings, State.modLink_settings]

/-- R181: out of STANDBY the dispatcher stands. -/
theorem State.eachLink_dispatcher (s : State) (f : Engine → Link → Link) (h : s.settings.arrangement ≠ .standby) :
    (s.eachLink f).dispatcher = s.dispatcher := by
  rw [State.eachLink, State.failover_of_settled]
  · rfl
  · exact fun hs => absurd hs h

theorem State.failover_active_of_due (s : State) (hs : s.settings.arrangement = .standby)
    (hn : (s.link s.dispatcher.active).state ≠ .ready) (ho : (s.link (otherEngine s.dispatcher.active)).state = .ready) :
    s.failover.dispatcher.active = otherEngine s.dispatcher.active := by
  have hdue : s.settings.arrangement = .standby ∧ (s.link s.dispatcher.active).state ≠ .ready ∧
      (s.link (otherEngine s.dispatcher.active)).state = .ready := ⟨hs, hn, ho⟩
  rw [State.failover]
  simp only [if_pos hdue]
  rfl

/-- R181: in STANDBY the active engine after each link was changed, by which links are then READY. -/
theorem State.eachLink_active (s : State) (f : Engine → Link → Link) (hs : s.settings.arrangement = .standby)
    (ready : Engine → Prop) (hready : ∀ x, ready x ↔ (f x (s.link x)).state = .ready) :
    (¬ready s.dispatcher.active ∧ ready (otherEngine s.dispatcher.active) →
      (s.eachLink f).dispatcher.active = otherEngine s.dispatcher.active) ∧
    (ready s.dispatcher.active ∨ ¬ready (otherEngine s.dispatcher.active) →
      (s.eachLink f).dispatcher.active = s.dispatcher.active) := by
  have hchanged : ∀ x, ready x ↔ (((s.modLink .a (f .a)).modLink .b (f .b)).link x).state = .ready := fun x => by
    rw [hready]
    cases x <;> rfl
  rw [State.eachLink]
  refine ⟨fun ⟨hidle, hother⟩ => ?_, fun h => ?_⟩
  · exact State.failover_active_of_due _ hs (fun hr => hidle ((hchanged _).mpr hr)) ((hchanged _).mp hother)
  · rw [State.failover_of_settled]
    · rfl
    · exact fun _ hn hr => h.elim (fun hactive => hn ((hchanged _).mp hactive)) fun hidle => hidle ((hchanged _).mpr hr)

/-! ### The record by what it changes (R163) -/

section
variable (s : State) (c : LinkSettings)

theorem State.applySettings_of_same (ha : c.arrangement = s.settings.arrangement)
    (hm : c.advertised = s.settings.advertised) : s.applySettings c = { s with settings := c } := by
  rw [State.applySettings]
  simp only [if_pos ha, if_pos hm]

theorem State.applySettings_of_set (ha : c.arrangement = s.settings.arrangement)
    (hm : c.advertised ≠ s.settings.advertised) :
    s.applySettings c = ({ s with settings := c } : State).eachLink (setChange s.settings c) := by
  rw [State.applySettings]
  simp only [if_pos ha, if_neg hm]
  exact State.followAdvertised_both _ _

theorem State.applySettings_of_arrangement (ha : c.arrangement ≠ s.settings.arrangement)
    (hm : c.advertised = s.settings.advertised) :
    s.applySettings c = ({ s with settings := c } : State).eachLink (useChange c) := by
  rw [State.applySettings]
  simp only [if_neg ha, if_pos hm]
  exact State.followArrangement_both _

theorem State.applySettings_of_both (ha : c.arrangement ≠ s.settings.arrangement)
    (hm : c.advertised ≠ s.settings.advertised) :
    s.applySettings c =
      (({ s with settings := c } : State).eachLink (useChange c)).eachLink (setChange s.settings c) := by
  have hsettings : (({ s with settings := c } : State).eachLink (useChange c)).settings = c := State.eachLink_settings _ _
  rw [State.applySettings]
  simp only [if_neg ha, if_neg hm]
  rw [State.followArrangement_both, State.followAdvertised_both, hsettings]

theorem State.applySettings_settings : (s.applySettings c).settings = c := by
  rw [s.applySettings_linksOnly c]

/-- R180: of the settings, the conditions read the arrangement alone. -/
theorem State.conditions_of_arrangement (h : c.arrangement = s.settings.arrangement) :
    ({ s with settings := c } : State).conditions = s.conditions := by
  unfold State.conditions degradedHolds engineStoppedHolds
  simp only [h]
end

/-! ### What a link comes to (R160, R163, R164) -/

section
variable (c : LinkSettings) (l : Link) (e : Engine)

theorem useChange_of_started (hu : c.arrangement.uses e = true) (h : l.state = .off) :
    useChange c e l = l.enterOffering c := by
  rw [useChange, Link.followUse, if_pos hu, if_pos h]

theorem useChange_of_used (hu : c.arrangement.uses e = true) (h : l.state ≠ .off) : useChange c e l = l := by
  rw [useChange, Link.followUse, if_pos hu, if_neg h]

theorem useChange_of_unused_empty (hu : c.arrangement.uses e = false) (h : l.inFlight = []) :
    useChange c e l = l.enterOff := by
  rw [useChange, Link.followUse, hu, if_neg Bool.false_ne_true, if_pos h]

theorem useChange_of_unused_holding (hu : c.arrangement.uses e = false) (h : l.inFlight ≠ []) : useChange c e l = l := by
  rw [useChange, Link.followUse, hu, if_neg Bool.false_ne_true, if_neg h]

theorem setChange_of_used (old : LinkSettings) (hu : c.arrangement.uses e = true) :
    setChange old c e l = l.followSet c := by
  rw [setChange, hu, if_neg fun h => Bool.noConfusion h.2]

theorem setChange_of_same_arrangement (old : LinkSettings) (h : c.arrangement = old.arrangement) :
    setChange old c e l = l.followSet c := by
  rw [setChange, h, if_neg fun hu => by rw [hu.1] at hu; exact Bool.noConfusion hu.2]

/-- R163: a link that the record stops using is not drained. -/
theorem setChange_of_unused (old : LinkSettings) (h : c.arrangement ≠ old.arrangement) (hu : c.arrangement.uses e = false) :
    setChange old c e l = l := by
  have hold : old.arrangement.uses e = true := Bool.eq_true_of_not_eq_false fun hn => h (Arrangement.eq_of_unused hu hn)
  rw [setChange, if_pos ⟨hold, hu⟩]
  rfl

/-- After both changes a link that holds no sheet agrees anew, whether it was just taken into use or worked already. -/
theorem bothChanges_of_free (old : LinkSettings) (hu : c.arrangement.uses e = true) (hb : l.state ≠ .broken)
    (hfree : l.state = .ready → l.inFlight = []) :
    ∃ m : Link, m.hasBeenReady = l.hasBeenReady ∧ setChange old c e (useChange c e l) = m.enterOffering c := by
  rw [setChange_of_used c _ e old hu]
  by_cases hoff : l.state = .off
  · refine ⟨l.enterOffering c, rfl, ?_⟩
    rw [useChange_of_started c l e hu hoff]
    exact Link.followSet_of_free c _ LinkState.noConfusion LinkState.noConfusion fun h => LinkState.noConfusion h
  · refine ⟨l, rfl, ?_⟩
    rw [useChange_of_used c l e hu hoff, l.followSet_of_free c hoff hb hfree]

/-- A link in use is READY after a change of arrangement exactly when it was: one taken into use is not READY at once. -/
theorem useChange_ready_iff (hu : c.arrangement.uses e = true) :
    (useChange c e l).state = .ready ↔ l.state = .ready := by
  by_cases hoff : l.state = .off
  · rw [useChange_of_started c l e hu hoff, hoff]
    exact ⟨fun h => LinkState.noConfusion h, fun h => LinkState.noConfusion h⟩
  · rw [useChange_of_used c l e hu hoff]

/-- R164: a link stays READY through a change of the set exactly when it has sheets to work out. -/
theorem Link.followSet_ready_iff : (l.followSet c).state = .ready ↔ l.state = .ready ∧ l.inFlight ≠ [] := by
  by_cases hout : l.state = .off ∨ l.state = .broken
  · rw [l.followSet_of_out c hout]
    rcases hout with h | h <;> simp [h]
  · obtain ⟨hoff, hbreak⟩ := not_or.mp hout
    by_cases hh : l.state = .ready ∧ l.inFlight ≠ []
    · rw [l.followSet_of_holding c hh.1 hh.2]
      exact ⟨fun _ => hh, fun h => h.1⟩
    · rw [l.followSet_of_free c hoff hbreak fun hr => not_not.mp fun hi => hh ⟨hr, hi⟩]
      exact ⟨fun h => LinkState.noConfusion h, fun h => absurd h hh⟩

theorem bothChanges_ready_iff (old : LinkSettings) (hu : c.arrangement.uses e = true) :
    (setChange old c e (useChange c e l)).state = .ready ↔ l.state = .ready ∧ l.inFlight ≠ [] := by
  rw [setChange_of_used c _ e old hu, Link.followSet_ready_iff, useChange_ready_iff c l e hu]
  by_cases hoff : l.state = .off
  · simp [hoff]
  · rw [useChange_of_used c l e hu hoff]
end

theorem State.link_of_settings (s : State) (c : LinkSettings) (e : Engine) :
    ({ s with settings := c } : State).link e = s.link e := by cases e <;> rfl

/-- R163, R181: in STANDBY the active engine once both changes have been acted on, each with its failover check: `first` is
the engine active after the first check. -/
theorem State.bothChanges_active (s : State) (c : LinkSettings) (ha : c.arrangement ≠ s.settings.arrangement)
    (hm : c.advertised ≠ s.settings.advertised) (hs : c.arrangement = .standby) (ready still : Engine → Prop)
    (first : Engine) (hready : ∀ x, ready x ↔ (s.link x).state = .ready)
    (hstill : ∀ x, still x ↔ (s.link x).state = .ready ∧ (s.link x).inFlight ≠ [])
    (hother : ¬ready s.dispatcher.active ∧ ready (otherEngine s.dispatcher.active) →
      first = otherEngine s.dispatcher.active)
    (hsame : ready s.dispatcher.active ∨ ¬ready (otherEngine s.dispatcher.active) → first = s.dispatcher.active) :
    (¬still first ∧ still (otherEngine first) → (s.applySettings c).dispatcher.active = otherEngine first) ∧
      (still first ∨ ¬still (otherEngine first) → (s.applySettings c).dispatcher.active = first) := by
  have huses : ∀ x, c.arrangement.uses x = true := fun x => by rw [hs]; cases x <;> rfl
  have hfirst : (({ s with settings := c } : State).eachLink (useChange c)).dispatcher.active = first := by
    obtain ⟨hswitch, hstand⟩ := State.eachLink_active { s with settings := c } (useChange c) hs ready fun x => by
      rw [State.link_of_settings, useChange_ready_iff c _ x (huses x), hready]
    by_cases h : ¬ready s.dispatcher.active ∧ ready (otherEngine s.dispatcher.active)
    · rw [hother h]
      exact hswitch h
    · have h := (not_and_or.mp h).imp_left not_not.mp
      rw [hsame h]
      exact hstand h
  have hsecond := State.eachLink_active (({ s with settings := c } : State).eachLink (useChange c))
    (setChange s.settings c) (by rw [State.eachLink_settings]; exact hs) still fun x => by
      rw [State.eachLink_link, State.link_of_settings, bothChanges_ready_iff c _ x _ (huses x), hstill]
  rw [hfirst] at hsecond
  rw [s.applySettings_of_both c ha hm]
  exact hsecond

/-! ### The record (R162, R163) -/

theorem exec_tableLinkSettings (s : State) :
    exec .tableLinkSettings s =
      s.run fun q => q.tableRow 7 settingsFault (applyFront fun body t => t.applySettings (settingsOf body)) := rfl

/-- What the record leaves: the settings settled, and DONE presented. -/
def State.afterSettings (s : State) (h : Hand) (c : LinkSettings) : State :=
  (s.settleNotices (s.applySettings c)).done h false

section
variable (s : State) (h : Hand) (c : LinkSettings)

theorem State.afterSettings_eq :
    s.afterSettings h c = { s with
      lp := { s.lp with port := .replying ⟨.done, false, (s.afterSettings h c).noticeFlag, h.clamped⟩ }
      settings := (s.afterSettings h c).settings
      linkA := (s.afterSettings h c).linkA
      linkB := (s.afterSettings h c).linkB
      dispatcher := { s.dispatcher with active := (s.afterSettings h c).dispatcher.active }
      notices := (s.afterSettings h c).notices } := by
  rw [State.afterSettings, s.applySettings_linksOnly c]
  rfl

theorem State.afterSettings_link (e : Engine) : (s.afterSettings h c).link e = (s.applySettings c).link e := by
  cases e <;> rfl

theorem State.afterSettings_dispatcher : (s.afterSettings h c).dispatcher = (s.applySettings c).dispatcher := rfl

/-- R163: a record that changes neither the arrangement nor the set has no effect beyond the settings. -/
theorem State.afterSettings_of_same (ha : c.arrangement = s.settings.arrangement)
    (hm : c.advertised = s.settings.advertised) :
    (s.afterSettings h c).linkA = s.linkA ∧ (s.afterSettings h c).linkB = s.linkB ∧
      (s.afterSettings h c).dispatcher = s.dispatcher ∧ (s.afterSettings h c).notices.pending = s.notices.pending := by
  rw [State.afterSettings, s.applySettings_of_same c ha hm]
  exact ⟨rfl, rfl, rfl, s.settleNotices_pending_same _ (s.conditions_of_arrangement c ha)⟩

section
variable (e : Engine)

theorem State.afterSettings_link_of_set (ha : c.arrangement = s.settings.arrangement)
    (hm : c.advertised ≠ s.settings.advertised) : (s.afterSettings h c).link e = (s.link e).followSet c := by
  rw [State.afterSettings_link, s.applySettings_of_set c ha hm, State.eachLink_link, State.link_of_settings,
    setChange_of_same_arrangement c _ e _ ha]

theorem State.afterSettings_link_of_arrangement (ha : c.arrangement ≠ s.settings.arrangement)
    (hm : c.advertised = s.settings.advertised) : (s.afterSettings h c).link e = useChange c e (s.link e) := by
  rw [State.afterSettings_link, s.applySettings_of_arrangement c ha hm, State.eachLink_link, State.link_of_settings]

theorem State.afterSettings_link_of_both (ha : c.arrangement ≠ s.settings.arrangement)
    (hm : c.advertised ≠ s.settings.advertised) :
    (s.afterSettings h c).link e = setChange s.settings c e (useChange c e (s.link e)) := by
  rw [State.afterSettings_link, s.applySettings_of_both c ha hm, State.eachLink_link, State.eachLink_link,
    State.link_of_settings]

/-- R163: a record that changes both leaves a link it stops using as the change of arrangement leaves it. -/
theorem State.afterSettings_link_of_both_unused (ha : c.arrangement ≠ s.settings.arrangement)
    (hm : c.advertised ≠ s.settings.advertised) (hu : c.arrangement.uses e = false) :
    (s.afterSettings h c).link e = useChange c e (s.link e) := by
  rw [s.afterSettings_link_of_both h c e ha hm, setChange_of_unused c _ e _ ha hu]

/-- A link in use that was not OFF meets the change of the set alone. -/
theorem State.afterSettings_link_of_both_used (ha : c.arrangement ≠ s.settings.arrangement)
    (hm : c.advertised ≠ s.settings.advertised) (hu : c.arrangement.uses e = true) (hon : (s.link e).state ≠ .off) :
    (s.afterSettings h c).link e = (s.link e).followSet c := by
  rw [s.afterSettings_link_of_both h c e ha hm, setChange_of_used c _ e _ hu, useChange_of_used c _ e hu hon]
end

theorem State.afterSettings_dispatcher_of_both (ha : c.arrangement ≠ s.settings.arrangement)
    (hm : c.advertised ≠ s.settings.advertised) (hs : c.arrangement ≠ .standby) :
    (s.afterSettings h c).dispatcher = s.dispatcher := by
  rw [State.afterSettings_dispatcher, s.applySettings_of_both c ha hm, State.eachLink_dispatcher,
    State.eachLink_dispatcher]
  · exact hs
  · rw [State.eachLink_settings]
    exact hs
end

/-- Settles O26: the four cases of what the record changes, and in each the link by its state and what it holds. -/
theorem linkSettingsActOnTheLinks : Obligations.LinkSettingsActOnTheLinks := by
  unfold Obligations.LinkSettingsActOnTheLinks
  refine ⟨fun body => ⟨rfl, arrangementOf_mem _⟩, ?_⟩
  rintro s h c hq hp hend he hf hr rfl
  generalize hc : settingsOf (h.kept.drop 3) = c
  refine ⟨s.afterSettings h c, ?_, s.applySettings_settings c, s.afterSettings_eq h c, s.afterSettings_of_same h c,
    fun ha hm e => ⟨fun hout => ?_, fun hready hi => ?_, fun hfree => ?_⟩,
    fun ha hm e => ⟨fun hu hoff => ?_, fun hu hon => ?_, fun hu hi => ?_, fun hu hi => ?_⟩,
    fun ha hm => ⟨fun e => ⟨fun hu hi => ?_, fun hu hi => ?_, fun hu => ⟨fun hbreak => ?_, fun hready hi => ?_,
      fun hbreak hfree => ?_⟩⟩, s.afterSettings_dispatcher_of_both h c ha hm,
      s.bothChanges_active c ha hm⟩⟩
  · rw [exec_tableLinkSettings, s.run_applyFront h 7 settingsFault _ hq hp hend he hf hr, hc]
    rfl
  · rw [s.afterSettings_link_of_set h c e ha hm, Link.followSet_of_out c _ hout]
  · rw [s.afterSettings_link_of_set h c e ha hm, Link.followSet_of_holding c _ hready hi]
  · obtain ⟨hoff, hbreak, hempty⟩ : (s.link e).state ≠ .off ∧ (s.link e).state ≠ .broken ∧
        ((s.link e).state = .ready → (s.link e).inFlight = []) := by
      rcases hfree with ⟨hx, hi⟩ | hx | hx | hx | hx <;> simp [*]
    rw [s.afterSettings_link_of_set h c e ha hm, Link.followSet_of_free c _ hoff hbreak hempty]
    exact ⟨rfl, rfl, rfl, rfl, rfl, rfl, rfl⟩
  · rw [s.afterSettings_link_of_arrangement h c e ha hm, useChange_of_started c _ e hu hoff]
    exact ⟨rfl, rfl⟩
  · rw [s.afterSettings_link_of_arrangement h c e ha hm, useChange_of_used c _ e hu hon]
  · rw [s.afterSettings_link_of_arrangement h c e ha hm, useChange_of_unused_empty c _ e hu hi]
    exact ⟨rfl, rfl, rfl⟩
  · rw [s.afterSettings_link_of_arrangement h c e ha hm, useChange_of_unused_holding c _ e hu hi]
  · rw [s.afterSettings_link_of_both_unused h c e ha hm hu, useChange_of_unused_empty c _ e hu hi]
    exact ⟨rfl, rfl, rfl⟩
  · rw [s.afterSettings_link_of_both_unused h c e ha hm hu, useChange_of_unused_holding c _ e hu hi]
  · rw [s.afterSettings_link_of_both_used h c e ha hm hu (by simp [hbreak]), Link.followSet_of_out c _ (.inr hbreak)]
  · rw [s.afterSettings_link_of_both_used h c e ha hm hu (by simp [hready]), Link.followSet_of_holding c _ hready hi]
  · obtain ⟨m, hbeen, hm'⟩ := bothChanges_of_free c (s.link e) e s.settings hu hbreak hfree
    rw [s.afterSettings_link_of_both h c e ha hm, hm']
    exact ⟨rfl, rfl, rfl, rfl, rfl, rfl, hbeen⟩

end Sys2Proof.Machine
end

section
/-! PROOFS. The OPERATOR CALL output by the class shown, and its timers from one state of the Notice Unit to the next. -/

namespace Sys2Proof.Machine

/-! ### The classes (R206) -/

/-- The unit has a live source of a class exactly when one of the class is both enabled and pending. -/
theorem NoticeSet.and_ne_zero_iff (j k : NoticeSet) : j &&& k ≠ 0 ↔ ∃ x, inSet k x = true ∧ inSet j x = true := by
  constructor
  · intro h
    by_contra hn
    refine h (inSet_ext _ _ fun x => ?_)
    rw [show (0 : NoticeSet) = 0#10 from rfl, inSet_empty, inSet_and, Bool.and_eq_false_iff]
    by_contra hx
    simp only [not_or, Bool.not_eq_false] at hx
    exact hn ⟨x, hx.2, hx.1⟩
  · rintro ⟨x, hk, hj⟩ h
    have hbit := congrArg (fun m => inSet m x) h
    rw [show (0 : NoticeSet) = 0#10 from rfl] at hbit
    simp [hj, hk] at hbit

theorem inSet_classSources_one (x : Source10) :
    inSet (classSources 1) x = true ↔ x = .engineStoppedA ∨ x = .engineStoppedB := by cases x <;> decide

theorem inSet_classSources_two (x : Source10) : inSet (classSources 2) x = true ↔ x = .ringFull := by
  cases x <;> decide

theorem inSet_classSources_three (x : Source10) :
    inSet (classSources 3) x = true ↔ x = .degraded ∨ x = .negotiationFault ∨ x = .tableRefused := by
  cases x <;> decide

theorem inSet_classSources_four (x : Source10) :
    inSet (classSources 4) x = true ↔ x = .listingOrder ∨ x = .folioLimit ∨ x = .engineRestored ∨ x = .failover := by
  cases x <;> decide

/-- R206: a source of the class is both enabled and pending. -/
abbrev NoticeUnit.LiveClass (n : NoticeUnit) (k : Nat) : Prop := n.live &&& classSources k ≠ 0

section
variable (n : NoticeUnit)

theorem NoticeUnit.liveClass_one_iff :
    n.LiveClass 1 ↔ inSet n.live .engineStoppedA = true ∨ inSet n.live .engineStoppedB = true :=
  (NoticeSet.and_ne_zero_iff _ _).trans (by simp [inSet_classSources_one, or_and_right, exists_or])

theorem NoticeUnit.liveClass_two_iff : n.LiveClass 2 ↔ inSet n.live .ringFull = true :=
  (NoticeSet.and_ne_zero_iff _ _).trans (by simp [inSet_classSources_two])

theorem NoticeUnit.liveClass_three_iff :
    n.LiveClass 3 ↔ inSet n.live .degraded = true ∨ inSet n.live .negotiationFault = true ∨
      inSet n.live .tableRefused = true :=
  (NoticeSet.and_ne_zero_iff _ _).trans (by simp [inSet_classSources_three, or_and_right, exists_or])

theorem NoticeUnit.liveClass_four_iff :
    n.LiveClass 4 ↔ inSet n.live .listingOrder = true ∨ inSet n.live .folioLimit = true ∨
      inSet n.live .engineRestored = true ∨ inSet n.live .failover = true :=
  (NoticeSet.and_ne_zero_iff _ _).trans (by simp [inSet_classSources_four, or_and_right, exists_or])

/-- The class shown is the lowest-numbered one with a live source. -/
theorem NoticeUnit.shownClass_eq :
    n.shownClass =
      if n.LiveClass 1 then 1 else if n.LiveClass 2 then 2 else if n.LiveClass 3 then 3 else if n.LiveClass 4 then 4
      else 0 := rfl

theorem NoticeUnit.callLine_of_stopped (h : n.shownClass = 1) : n.callLine = true := by
  simp only [NoticeUnit.callLine, h]

/-- While a pattern is shown, the output follows its period. -/
theorem NoticeUnit.callLine_of_pattern (h : n.shownClass = 2 ∨ n.shownClass = 3) (on : Bool)
    (hp : n.pattern = some on) : n.callLine = on := by
  rcases h with h | h <;> simp only [NoticeUnit.callLine, h, hp, Option.getD_some]

theorem NoticeUnit.callLine_of_burst (h : n.shownClass = 4) : n.callLine = n.burst.isSome := by
  simp only [NoticeUnit.callLine, h]

theorem NoticeUnit.callLine_of_none (h : n.shownClass = 0) : n.callLine = false := by
  simp only [NoticeUnit.callLine, h]
end

/-! ### The timers (R206) -/

/-- The unit `m` shows and times its call after `n` did: no burst runs on past its class, every class-4 source newly live
starts it anew, and a pattern runs on or starts at its on period. -/
structure NoticeUnit.Drives (n m : NoticeUnit) : Prop where
  callSound : n.callSound → m.callSound
  burst : m.burst = some 1000 ∨
    (∀ x, inSet (classSources 4) x = true → inSet m.live x = true → m.burst = n.burst ∧ inSet n.live x = true)
  pattern : m.shownClass = 2 ∨ m.shownClass = 3 →
    m.pattern = some true ∨ m.shownClass = n.shownClass ∧ m.pattern = n.pattern

theorem NoticeUnit.Drives.refl (n : NoticeUnit) : n.Drives n :=
  ⟨id, .inr fun _ _ hx => ⟨rfl, hx⟩, fun _ => .inr ⟨rfl, rfl⟩⟩

theorem NoticeUnit.Drives.trans {n m k : NoticeUnit} (h : n.Drives m) (g : m.Drives k) : n.Drives k where
  callSound := fun hn => g.callSound (h.callSound hn)
  burst := by
    rcases g.burst with hk | hk
    · exact .inl hk
    · rcases h.burst with hm | hm
      · by_cases hlive : ∃ x, inSet (classSources 4) x = true ∧ inSet k.live x = true
        · obtain ⟨x, hx, hkx⟩ := hlive
          exact .inl ((hk x hx hkx).1.trans hm)
        · exact .inr fun x hx hkx => absurd ⟨x, hx, hkx⟩ hlive
      · refine .inr fun x hx hkx => ?_
        obtain ⟨hkm, hmx⟩ := hk x hx hkx
        obtain ⟨hmn, hnx⟩ := hm x hx hmx
        exact ⟨hkm.trans hmn, hnx⟩
  pattern := fun hk => by
    rcases g.pattern hk with hp | ⟨hclass, hp⟩
    · exact .inl hp
    · rw [hclass] at hk ⊢
      rw [hp]
      exact h.pattern hk

/-- Driving the call line starts and stops its timers. -/
theorem NoticeUnit.driveCall_drives (n m : NoticeUnit) (hb : m.burst = n.burst) (hp : m.pattern = n.pattern) :
    n.Drives (n.driveCall m) where
  callSound := fun hn => NoticeUnit.driveCall_callSound n m fun he hc => by
    rw [hp]
    exact hn.2.mpr (he ▸ hc)
  burst := by
    have hburst : (n.driveCall m).burst =
        if m.live &&& ~~~n.live &&& classSources 4 ≠ 0 then some 1000
        else if m.live &&& classSources 4 = 0 then none else m.burst := rfl
    by_cases hnew : m.live &&& ~~~n.live &&& classSources 4 ≠ 0
    · exact .inl (hburst.trans (if_pos hnew))
    · refine .inr fun x hx (hmx : inSet m.live x = true) => ?_
      have hsome : m.live &&& classSources 4 ≠ 0 := (NoticeSet.and_ne_zero_iff _ _).mpr ⟨x, hx, hmx⟩
      refine ⟨by rw [hburst, if_neg hnew, if_neg hsome, hb], ?_⟩
      by_contra hnx
      exact hnew ((NoticeSet.and_ne_zero_iff _ _).mpr ⟨x, hx, by simp [hmx, hnx]⟩)
  pattern := fun (hc : m.shownClass = 2 ∨ m.shownClass = 3) => by
    have hpattern : (n.driveCall m).pattern = if n.shownClass = m.shownClass then m.pattern else some true := if_pos hc
    by_cases he : n.shownClass = m.shownClass
    · exact .inr ⟨he.symm, by rw [hpattern, if_pos he, hp]⟩
    · exact .inl (by rw [hpattern, if_neg he])

theorem NoticeUnit.setPending_drives (n : NoticeUnit) (p : NoticeSet) : n.Drives (n.setPending p) :=
  n.driveCall_drives _ rfl rfl

theorem edgesOn_drives (n : NoticeUnit) (before after : NoticeSet) : n.Drives (edgesOn n before after) :=
  n.setPending_drives _

/-- From `n` to `m` a class-4 source that became live started the burst, and a class 2 or 3 newly shown its pattern. -/
structure NoticeUnit.Starts (n m : NoticeUnit) : Prop where
  burst : ∀ x, inSet (classSources 4) x = true → inSet m.live x = true → inSet n.live x = false → m.burst = some 1000
  pattern : m.shownClass = 2 ∨ m.shownClass = 3 → n.shownClass ≠ m.shownClass → m.pattern = some true

theorem NoticeUnit.Drives.starts {n m : NoticeUnit} (h : n.Drives m) : n.Starts m where
  burst := fun x hx hm hn => h.burst.resolve_right fun hk => by
    rw [(hk x hx hm).2] at hn
    cases hn
  pattern := fun hm hn => (h.pattern hm).resolve_right fun hk => hn hk.1.symm

/-- Nothing starts while the same sources are live. -/
theorem NoticeUnit.Starts.of_live {n m : NoticeUnit} (h : m.live = n.live) : n.Starts m where
  burst := fun x _ hm hn => by
    rw [h, hn] at hm
    cases hm
  pattern := fun _ hn => absurd (by rw [NoticeUnit.shownClass, NoticeUnit.shownClass, h]) hn

end Sys2Proof.Machine
end

section
/-! PROOFS. Work that leaves the commands that wait and the active engine as they are, and work that leaves the arrangement
and the READY links too: the due steps, the signals, END and the composer. -/

namespace Sys2Proof.Machine

/-! ### Work that switches no engine -/

/-- From `s` to `t` the commands that wait and the active engine stand, and the call line was driven. -/
structure State.SameActive (s t : State) : Prop where
  pending : t.pending = s.pending
  active : t.dispatcher.active = s.dispatcher.active
  call : s.notices.Drives t.notices

/-- And so do the arrangement and which links are READY: no failover comes due. -/
structure State.SameReady (s t : State) : Prop extends s.SameActive t where
  arrangement : t.settings.arrangement = s.settings.arrangement
  ready : ∀ e, (t.link e).state = .ready ↔ (s.link e).state = .ready

theorem State.SameActive.refl (s : State) : s.SameActive s := ⟨rfl, rfl, .refl _⟩

theorem State.SameActive.trans {s t u : State} (h : s.SameActive t) (k : t.SameActive u) : s.SameActive u :=
  ⟨k.pending.trans h.pending, k.active.trans h.active, h.call.trans k.call⟩

theorem State.SameReady.refl (s : State) : s.SameReady s := ⟨.refl s, rfl, fun _ => .rfl⟩

theorem State.SameReady.trans {s t u : State} (h : s.SameReady t) (k : t.SameReady u) : s.SameReady u :=
  ⟨h.toSameActive.trans k.toSameActive, k.arrangement.trans h.arrangement, fun e => (k.ready e).trans (h.ready e)⟩

/-- Work away from the active engine, the notices and the commands that wait. -/
theorem State.SameActive.of_eq {s t : State} (h : t = { s with
    lp := t.lp
    map := t.map
    forms := t.forms
    queue := t.queue
    keys := t.keys
    composer := t.composer
    ring := t.ring
    settings := t.settings
    dispatcher := { s.dispatcher with lastGranted := t.dispatcher.lastGranted }
    linkA := t.linkA
    linkB := t.linkB
    counters := t.counters }) : s.SameActive t := by
  rw [h]
  exact ⟨rfl, rfl, .refl _⟩

/-- And away from the links and their settings. -/
theorem State.SameReady.of_eq {s t : State} (h : t = { s with
    lp := t.lp
    map := t.map
    forms := t.forms
    queue := t.queue
    keys := t.keys
    composer := t.composer
    ring := t.ring
    counters := t.counters }) : s.SameReady t := by
  rw [h]
  exact ⟨⟨rfl, rfl, .refl _⟩, rfl, fun _ => .rfl⟩

/-- The Notice Unit driven on. -/
theorem State.SameReady.of_notices (s : State) {n : NoticeUnit} (h : s.notices.Drives n) :
    s.SameReady { s with notices := n } := ⟨⟨rfl, rfl, h⟩, rfl, fun _ => .rfl⟩

theorem State.setLink_sameActive (s : State) (e : Engine) (l : Link) : s.SameActive (s.setLink e l) := by
  cases e <;> exact .of_eq rfl

theorem State.modLink_sameActive (s : State) (e : Engine) (f : Link → Link) : s.SameActive (s.modLink e f) :=
  s.setLink_sameActive e _

/-- A change of a link that is READY after it exactly when it was. -/
theorem State.modLink_sameReady (s : State) (e : Engine) (f : Link → Link)
    (hf : (f (s.link e)).state = .ready ↔ (s.link e).state = .ready) : s.SameReady (s.modLink e f) := by
  refine ⟨s.modLink_sameActive e f, by rw [State.modLink_settings], fun x => ?_⟩
  rcases eq_or_eq_otherEngine e x with rfl | rfl
  · rw [State.link_modLink_self]
    exact hf
  · rw [State.link_modLink_other]

/-- A change that leaves the link in its state. -/
theorem State.modLink_sameReady_of_state (s : State) (e : Engine) (f : Link → Link)
    (hf : (f (s.link e)).state = (s.link e).state) : s.SameReady (s.modLink e f) :=
  s.modLink_sameReady e f (by rw [hf])

theorem State.heard_sameReady (s : State) (e : Engine) : s.SameReady (s.modLink e Link.heard) :=
  s.modLink_sameReady_of_state e _ (Link.heard_state _)

theorem State.post_sameReady (s : State) (x : Source10) : s.SameReady (s.post x) :=
  .of_notices s (s.notices.setPending_drives _)

theorem State.settleNotices_sameReady (b s : State) : s.SameReady (b.settleNotices s) :=
  .of_notices s (edgesOn_drives _ _ _)

theorem State.count_sameReady (s : State) (c : Counter) (n : Nat) : s.SameReady (s.count c n) := .of_eq rfl

theorem State.removeHead_sameReady (s : State) : s.SameReady s.removeHead := .of_eq rfl

/-- R14, R190: a refusal posts TABLE REFUSED at most. -/
theorem State.refuse_sameReady (s : State) (h : Hand) (kind : CheckKind) (position : Option Nat) (detail : Nat) :
    s.SameReady (s.refuse h kind position detail) := by
  unfold State.refuse
  simp only
  split
  · exact (State.SameReady.of_eq rfl).trans ((State.post_sameReady _ .tableRefused).trans (.of_eq rfl))
  · exact .of_eq rfl

/-! ### The due steps -/

theorem State.PortOnly.sameReady {s t : State} (h : s.PortOnly t) : s.SameReady t := .of_eq (by rw [h])

theorem State.takeOwed_sameReady (s : State) : s.SameReady s.takeOwed := by
  unfold State.takeOwed
  split
  · exact .refl s
  · split <;> exact .of_eq rfl

theorem State.windowShort_sameReady (s : State) (e : Engine) : s.SameReady (s.windowShort e) := by
  unfold State.windowShort
  split
  · exact (s.modLink_sameReady_of_state e _ rfl).trans (State.settleNotices_sameReady s _)
  · exact .refl s

theorem State.windowMet_sameReady (s : State) (e : Engine) : s.SameReady (s.windowMet e) := by
  unfold State.windowMet
  split
  · exact (s.modLink_sameReady_of_state e _ rfl).trans (State.settleNotices_sameReady s _)
  · exact .refl s

theorem State.windowsDue_sameReady (s : State) : s.SameReady s.windowsDue :=
  (((s.windowShort_sameReady .a).trans (State.windowShort_sameReady _ .b)).trans (State.windowMet_sameReady _ .a)).trans
    (State.windowMet_sameReady _ .b)

/-- R143: a grant leaves the active engine, and its link in its state. -/
theorem State.grantOnce_sameReady (s : State) : s.SameReady s.grantOnce := by
  cases h : s.grantDue with
  | false => rw [s.grantOnce_of_not_due h]; exact .refl s
  | true =>
    obtain ⟨e, sh, -, -, hx⟩ := s.grantOnce_of_due h
    rw [hx]
    have hready : ∀ x, ((s.grantTo e sh).link x).state = .ready ↔ (s.link x).state = .ready := fun x => by
      rcases eq_or_eq_otherEngine e x with rfl | rfl
      · rw [s.grantTo_link_self]
        rfl
      · rw [s.grantTo_link_other]
    refine ⟨.of_eq ?_, ?_, hready⟩ <;> rw [s.grantTo_eq]

theorem State.takeDue_sameReady (s : State) : s.SameReady s.takeDue :=
  ((s.takeOwed_sameReady.trans (State.windowsDue_sameReady _)).trans
    ((State.grantOnce_sameReady _).trans (State.grantOnce_sameReady _))).trans s.takeDue_portOnly.sameReady

/-! ### The signals and END -/

theorem State.orderByteStrobed_sameReady (s : State) (select : Bool) (unit : BitVec 4) (d : Byte) (p : Bool) :
    s.SameReady (s.orderByteStrobed select unit d p) := by
  have htake : s.SameReady (s.takeOrderByte d p) := by
    unfold State.takeOrderByte
    split
    · exact .of_eq rfl
    · split
      · exact .of_eq rfl
      · split
        · exact .of_eq rfl
        · split <;> exact .of_eq rfl
  unfold State.orderByteStrobed
  split
  · split
    · exact htake
    all_goals exact .refl s
  · exact .refl s

theorem State.dataByteStrobed_sameReady (s : State) (d : Byte) (p : Bool) : s.SameReady (s.dataByteStrobed d p) := by
  unfold State.dataByteStrobed
  split
  · split <;> exact .of_eq rfl
  all_goals exact .refl s

theorem State.replyTakenSignal_sameReady (s : State) : s.SameReady s.replyTakenSignal := by
  unfold State.replyTakenSignal
  split <;> exact .of_eq rfl

theorem State.endRow_sameReady (s : State) (mine : Hand → Bool) (own : Hand → State → State)
    (ho : ∀ h, s.SameReady (own h s)) : s.SameReady (s.atEnd mine fun h t => t.judge h (own h)) :=
  s.endRow_of mine own (.refl s) s.refuse_sameReady ho

theorem State.endPrint_sameReady (s : State) (h : Hand) : s.SameReady (s.endPrint h) := by
  unfold State.endPrint
  split
  · exact s.refuse_sameReady _ _ _ _
  · split
    · exact s.refuse_sameReady _ _ _ _
    · exact .of_eq rfl

theorem State.endMove_sameReady (s : State) (h : Hand) : s.SameReady (s.endMove h) := by
  unfold State.endMove
  split
  · exact s.refuse_sameReady _ _ _ _
  · exact .of_eq rfl

theorem State.tableRow_sameReady (s : State) (kind : Nat) (fault : List Byte → Option (Nat × Nat))
    (carry : Hand → List Byte → State → State) (hc : ∀ h body, s.SameReady (carry h body s)) :
    s.SameReady (s.tableRow kind fault carry) :=
  s.tableRow_of kind fault carry (.refl s) s.refuse_sameReady hc

/-- R190: END of a front record that switches no engine. -/
theorem State.frontRow_sameReady (s : State) (kind : Nat) (fault : List Byte → Option (Nat × Nat))
    (apply : List Byte → State → State) (ha : ∀ body, s.SameReady (apply body s)) :
    s.SameReady (s.tableRow kind fault (applyFront apply)) :=
  s.tableRow_sameReady kind fault _ fun _ body =>
    ((ha body).trans (State.settleNotices_sameReady s _)).trans (.of_eq rfl)

theorem State.streamRow_sameReady (s : State) (kind : Nat) (fault : List Byte → Option (Nat × Nat))
    (read : List Byte → StreamTable) : s.SameReady (s.tableRow kind fault (queueStream read)) :=
  s.tableRow_sameReady kind fault _ fun _ _ => .of_eq rfl

theorem State.endQuery_sameReady (s : State) (h : Hand) (answer : State → State) (ha : s.SameReady (answer s)) :
    s.SameReady (s.endQuery h answer) := by
  unfold State.endQuery
  split
  · exact s.refuse_sameReady _ _ _ _
  · exact ha

theorem State.queryRow_sameReady (s : State) (sel : Nat) (read : State → State) (bytes : Hand → State → List Byte)
    (hr : s.SameReady (read s)) : s.SameReady (s.queryRow sel fun h t => (read t).respond h (bytes h t)) :=
  s.endRow_sameReady _ _ fun h => s.endQuery_sameReady h _ (hr.trans (.of_eq rfl))

theorem State.noticesRead_sameReady (s : State) : s.SameReady s.noticesRead := by
  unfold State.noticesRead
  split
  · exact .refl s
  · exact .of_notices s (s.notices.setPending_drives 0)

theorem State.applyNoticeControl_sameReady (s : State) (mask : NoticeSet) (confirmed : Bool) :
    s.SameReady (s.applyNoticeControl mask confirmed) :=
  .of_notices s (s.notices.driveCall_drives _ rfl rfl)

theorem State.applyNoticeClear_sameReady (s : State) (named : NoticeSet) : s.SameReady (s.applyNoticeClear named) :=
  .of_notices s (s.notices.setPending_drives _)

/-! ### The composer -/

theorem State.modColumn_sameReady (s : State) (f : Column → Column) : s.SameReady (s.modColumn f) := .of_eq rfl

theorem State.withSheet_sameReady (s : State) (work : State → State) (hw : ∀ u : State, u.SameReady (work u)) :
    s.SameReady (s.withSheet work) := by
  unfold State.withSheet
  split
  · exact hw s
  · split
    · exact State.SameReady.trans (t := s.openSheet) (.of_eq rfl) (hw _)
    · exact .of_eq rfl

/-- R84: OUT OF ORDER posts LISTING ORDER. -/
theorem State.judgeLine_sameReady (s : State) (text : Text) : s.SameReady (s.judgeLine text) := by
  unfold State.judgeLine
  cases s.keys.verdict text with
  | outOfOrder => exact (State.SameReady.of_eq rfl).trans (State.post_sameReady _ .listingOrder)
  | _ => exact .of_eq rfl

theorem State.addOrClip_sameReady (s : State) (p : PlacedEntry) (v : Verdict) : s.SameReady (s.addOrClip p v) := by
  unfold State.addOrClip
  split
  · exact .refl s
  · split <;> exact .of_eq rfl

theorem State.flush_sameReady (s : State) : s.SameReady s.flush := by
  rw [s.flush_eq]
  exact .of_eq rfl

theorem State.closeColumn_sameReady (s : State) : s.SameReady s.closeColumn := by
  unfold State.closeColumn
  split
  · exact .refl s
  · exact .of_eq rfl

theorem State.afterColumn_sameReady (s : State) : s.SameReady s.afterColumn := by
  unfold State.afterColumn
  split
  · exact .refl s
  · split <;> exact .of_eq rfl

theorem State.markerTaken_sameReady (s : State) : s.SameReady s.markerTaken := by
  rw [s.markerTaken_eq]
  exact .of_eq rfl

theorem workPlacedLine_sameReady (x : Entry) (s : State) : s.SameReady (workPlacedLine x s) := by
  unfold workPlacedLine
  split
  · split
    · exact s.withSheet_sameReady _ fun u =>
        ((((u.modColumn_sameReady _).trans (State.judgeLine_sameReady _ _)).trans
          (State.addOrClip_sameReady _ _ _)).trans (State.count_sameReady _ _ _)).trans (State.removeHead_sameReady _)
    · exact .refl s
  all_goals exact .refl s

theorem workMerge_sameReady (x : Entry) (s : State) : s.SameReady (workMerge x s) := by
  unfold workMerge
  split
  · split
    · exact .of_eq rfl
    · exact .refl s
  all_goals exact .refl s

theorem workOwnLine_sameReady (x : Entry) (s : State) : s.SameReady (workOwnLine x s) := by
  unfold workOwnLine
  split
  · split
    · exact s.withSheet_sameReady _ fun u =>
        (((u.modColumn_sameReady _).trans (State.addOrClip_sameReady _ _ _)).trans (State.count_sameReady _ _ _)).trans
          (State.removeHead_sameReady _)
    · exact .refl s
  all_goals exact .refl s

theorem workFormEnd_sameReady (x : Entry) (s : State) : s.SameReady (workFormEnd x s) := by
  unfold workFormEnd
  split
  · exact s.withSheet_sameReady _ fun u =>
      (((u.modColumn_sameReady _).trans (State.closeColumn_sameReady _)).trans (State.afterColumn_sameReady _)).trans
        (State.removeHead_sameReady _)
  all_goals exact .refl s

theorem workSyncMarker_sameReady (x : Entry) (s : State) : s.SameReady (workSyncMarker x s) := by
  unfold workSyncMarker
  split
  · exact (s.flush_sameReady.trans (State.removeHead_sameReady _)).trans (State.markerTaken_sameReady _)
  all_goals exact .refl s

theorem workSheetPlan_sameReady (x : Entry) (s : State) : s.SameReady (workSheetPlan x s) := by
  unfold workSheetPlan
  split
  · exact s.flush_sameReady.trans (.of_eq rfl)
  all_goals exact .refl s

theorem workCollation_sameReady (x : Entry) (s : State) : s.SameReady (workCollation x s) := by
  unfold workCollation
  split <;> exact .of_eq rfl

theorem workFieldLayout_sameReady (x : Entry) (s : State) : s.SameReady (workFieldLayout x s) := by
  unfold workFieldLayout
  split <;> exact .of_eq rfl

theorem workKeyReset_sameReady (x : Entry) (s : State) : s.SameReady (workKeyReset x s) := by
  unfold workKeyReset
  split <;> exact .of_eq rfl

theorem State.atHead_sameReady (s : State) (work : Entry → State → State) (hw : ∀ x, s.SameReady (work x s)) :
    s.SameReady (s.atHead work) := s.atHead_of work (.refl s) hw

end Sys2Proof.Machine
end

section
/-! PROOFS. The engines' frames and the timers: which leave the READY links as they are, and which leave the active engine
to the failover check that follows them. -/

namespace Sys2Proof.Machine

/-! ### Work that leaves the READY links -/

theorem State.idleFrame_sameReady (s : State) (e : Engine) : s.SameReady (s.idleFrame e) := by
  unfold State.idleFrame
  split
  · exact s.modLink_sameReady_of_state e _ rfl
  iterate 3 exact s.heard_sameReady e
  all_goals exact .refl s

theorem State.takenFrame_sameReady (s : State) (e : Engine) (seq : Word16) : s.SameReady (s.takenFrame e seq) := by
  have hheard := s.heard_sameReady e
  have htaken : ∀ u : State, u.SameReady (u.sheetTaken e seq) := fun u =>
    (u.modLink_sameReady_of_state e (fun l => { l with inFlight := l.inFlight.map (startStacked u.settings.stackedMs seq) })
      rfl).trans (.of_eq rfl)
  unfold State.takenFrame
  simp only
  split
  · exact .refl s
  · split
    · split
      · exact hheard.trans (htaken _)
      · exact hheard
    · exact hheard.trans (State.count_sameReady _ _ _)

theorem State.sendSheetEnd_sameReady (s : State) (e : Engine) : s.SameReady (s.sendSheetEnd e) := by
  unfold State.sendSheetEnd
  split
  · exact .refl s
  · exact s.modLink_sameReady_of_state e _ rfl

theorem State.repeatOffer_sameReady (s : State) (e : Engine) : s.SameReady (s.repeatOffer e) := by
  unfold State.repeatOffer
  split
  iterate 2 exact s.modLink_sameReady_of_state e _ rfl
  all_goals exact .refl s

/-- A change of a link from one state that is not READY to another. -/
theorem State.modLink_sameReady_of_not (s : State) (e : Engine) (f : Link → Link) (h : (s.link e).state ≠ .ready)
    (hf : (f (s.link e)).state ≠ .ready) : s.SameReady (s.modLink e f) :=
  s.modLink_sameReady e f (iff_of_false hf h)

/-- R155: from AGREEING to BREAK. -/
theorem State.ackWindowEnds_sameReady (s : State) (e : Engine) : s.SameReady (s.ackWindowEnds e) := by
  unfold State.ackWindowEnds
  split
  · next h => exact s.modLink_sameReady_of_not e _ (by rw [h]; exact LinkState.noConfusion) LinkState.noConfusion
  · exact .refl s

/-- R159: from BREAK to OFFERING. -/
theorem State.breakEnds_sameReady (s : State) (e : Engine) : s.SameReady (s.breakEnds e) := by
  unfold State.breakEnds
  split
  · next h => exact s.modLink_sameReady_of_not e _ (by rw [h]; exact LinkState.noConfusion) LinkState.noConfusion
  · exact .refl s

/-- R184: a tick reaches the Pace Monitors alone. -/
theorem State.tick_sameReady (s : State) : s.SameReady { s with linkA := s.linkA.tick, linkB := s.linkB.tick } := by
  refine ⟨.of_eq rfl, rfl, fun e => ?_⟩
  cases e with
  | a => exact iff_of_eq (congrArg (· = _) s.linkA.tick_alike.state)
  | b => exact iff_of_eq (congrArg (· = _) s.linkB.tick_alike.state)

/-! ### Work that a failover check follows -/

theorem State.returnAll_sameActive (s : State) (e : Engine) : s.SameActive (s.returnAll e) := by
  rw [s.returnAll_eq e]
  exact .of_eq rfl

theorem State.leaveWork_sameActive (s : State) (e : Engine) (target : Link → Link) :
    s.SameActive (s.leaveWork e target) := by
  unfold State.leaveWork
  split
  · exact s.modLink_sameActive e _
  · split <;> exact s.modLink_sameActive e _

theorem State.negotiationFault_sameActive (s : State) (e : Engine) : s.SameActive (s.negotiationFault e) :=
  (s.modLink_sameActive e _).trans (State.post_sameReady _ _).toSameActive

theorem State.countOffer_sameActive (s : State) (e : Engine) (modes : ModeSet) : s.SameActive (s.countOffer e modes) := by
  unfold State.countOffer
  simp only
  split
  · exact s.setLink_sameActive e _
  · split
    · exact s.setLink_sameActive e _
    · exact (s.setLink_sameActive e _).trans (State.negotiationFault_sameActive _ e)

/-- R158: an engine's restart returns its sheets first. -/
theorem State.offerFrame_sameActive (s : State) (e : Engine) (modes : ModeSet) (ack : Bool) :
    s.SameActive (s.offerFrame e modes ack) := by
  have hlost : s.SameActive (if (s.returnAll e).uses e then (s.returnAll e).restartOffering e modes
      else (s.returnAll e).modLink e Link.enterOff) := by
    split <;> exact (s.returnAll_sameActive e).trans (State.modLink_sameActive _ e _)
  unfold State.offerFrame
  simp only
  split
  · exact .refl s
  · exact s.countOffer_sameActive e modes
  · split
    · split
      · exact s.modLink_sameActive e _
      · exact .refl s
    · exact s.modLink_sameActive e _
  · split <;> exact s.modLink_sameActive e _
  · exact hlost
  · exact hlost
  · exact .refl s

theorem State.foldl_release_sameActive (e : Engine) : ∀ (qs : List Word16) (s : State),
    s.SameActive (qs.foldl (fun t q => t.release e q) s)
  | [], s => .refl s
  | q :: qs, s => by
    have hrelease : s.SameActive (s.release e q) := by
      rw [s.release_eq e q]
      exact .of_eq rfl
    exact hrelease.trans (State.foldl_release_sameActive e qs _)

theorem State.releaseThrough_sameActive (s : State) (e : Engine) (seq : Word16) :
    s.SameActive (s.releaseThrough e seq) := State.foldl_release_sameActive e _ s

theorem State.releaseCovered_sameActive (s : State) (e : Engine) (last : Option Word16) :
    s.SameActive (s.releaseCovered e last) := by
  unfold State.releaseCovered
  split
  · exact .refl s
  · split
    · exact s.releaseThrough_sameActive e _
    · exact .refl s

theorem State.stackedFrame_sameActive (s : State) (e : Engine) (seq : Word16) : s.SameActive (s.stackedFrame e seq) := by
  have hheard := (s.heard_sameReady e).toSameActive
  have hafter : ∀ u : State, u.SameActive (u.afterRelease e) := fun u => by
    unfold State.afterRelease
    split
    · exact u.leaveWork_sameActive e _
    · exact .refl u
  unfold State.stackedFrame
  simp only
  split
  · exact .refl s
  · split
    · exact ((hheard.trans (State.releaseThrough_sameActive _ e seq)).trans (State.modLink_sameActive _ e _)).trans
        (hafter _)
    · exact hheard.trans (State.count_sameReady _ _ _).toSameActive

theorem State.stopFrame_sameActive (s : State) (e : Engine) (cause : StopCause) :
    s.SameActive (s.stopFrame e cause) := by
  have hheard := (s.heard_sameReady e).toSameActive
  unfold State.stopFrame
  simp only
  split
  · exact (hheard.trans (State.returnAll_sameActive _ e)).trans (State.leaveWork_sameActive _ e _)
  · exact hheard.trans (State.modLink_sameActive _ e _)
  · exact hheard.trans (State.modLink_sameActive _ e _)
  all_goals exact .refl s

theorem State.jamFrame_sameActive (s : State) (e : Engine) (last : Option Word16) :
    s.SameActive (s.jamFrame e last) := by
  have hheard := (s.heard_sameReady e).toSameActive
  unfold State.jamFrame
  simp only
  split
  · exact ((hheard.trans (State.releaseCovered_sameActive _ e last)).trans (State.returnAll_sameActive _ e)).trans
      (State.leaveWork_sameActive _ e _)
  · exact hheard.trans (State.modLink_sameActive _ e _)
  · exact hheard.trans (State.modLink_sameActive _ e _)
  all_goals exact .refl s

theorem State.readyFrame_sameActive (s : State) (e : Engine) : s.SameActive (s.readyFrame e) := by
  unfold State.readyFrame
  split
  · exact (s.modLink_sameActive e _).trans (State.post_sameReady _ .engineRestored).toSameActive
  · exact s.modLink_sameActive e _
  · exact s.modLink_sameActive e _
  all_goals exact .refl s

theorem State.offerWindowEnds_sameActive (s : State) (e : Engine) : s.SameActive (s.offerWindowEnds e) := by
  unfold State.offerWindowEnds State.plainDetection
  simp only
  split
  · split
    · exact s.negotiationFault_sameActive e
    · split
      · split
        · exact s.modLink_sameActive e _
        · exact s.negotiationFault_sameActive e
      · exact s.setLink_sameActive e _
  · exact .refl s

theorem State.settleEnds_sameActive (s : State) (e : Engine) : s.SameActive (s.settleEnds e) := by
  unfold State.settleEnds
  split
  · exact s.modLink_sameActive e _
  · exact .refl s

theorem State.linkLost_sameActive (s : State) (e : Engine) : s.SameActive (s.linkLost e) := by
  unfold State.linkLost
  simp only
  split
  · split <;> exact (s.returnAll_sameActive e).trans (State.modLink_sameActive _ e _)
  · exact .refl s

theorem State.timedOut_sameActive (s : State) (e : Engine) : s.SameActive (s.timedOut e) :=
  (s.returnAll_sameActive e).trans (State.leaveWork_sameActive _ e _)

end Sys2Proof.Machine
end

section
/-! PROOFS. What a command answers: the commands that wait, the call line, and the active engine of STANDBY. -/

namespace Sys2Proof.Machine

/-! ### The failover check (R181) -/

/-- The active engine of `s` gave way to the other by the time of `t`, and FAILOVER pends. -/
structure State.FailedOver (s t : State) : Prop where
  arrangement : t.settings.arrangement = .standby
  idle : (t.link s.dispatcher.active).state ≠ .ready
  posted : inSet t.notices.pending .failover = true

/-- From `s` to `t` the commands that wait stand, the call line was driven, and the active engine changed, if at all, by a
failover, with none left due that was not due before. -/
structure State.Switches (s t : State) : Prop where
  pending : t.pending = s.pending
  call : s.notices.Drives t.notices
  settled : s.failoverSettled → t.failoverSettled
  failedOver : t.dispatcher.active ≠ s.dispatcher.active → s.FailedOver t

theorem State.SameReady.failoverSettled {s t : State} (h : s.SameReady t) (hs : s.failoverSettled) :
    t.failoverSettled := by
  rw [State.failoverSettled, h.arrangement, h.active]
  exact fun ha hn hr => hs ha (fun hk => hn ((h.ready _).mpr hk)) ((h.ready _).mp hr)

theorem State.SameReady.switches {s t : State} (h : s.SameReady t) : s.Switches t :=
  ⟨h.pending, h.call, h.failoverSettled, fun hn => absurd h.active hn⟩

theorem State.failover_drives (s : State) : s.notices.Drives s.failover.notices := by
  unfold State.failover
  simp only
  split
  · exact s.notices.setPending_drives _
  · exact .refl _

theorem State.failover_pending (s : State) : s.failover.pending = s.pending := by rw [s.failover_linksOnly]

/-- A check that changed the active engine found it not READY and the other READY, and posted FAILOVER. -/
theorem State.failover_of_switched (s : State) (h : s.failover.dispatcher.active ≠ s.dispatcher.active) :
    s.FailedOver s.failover ∧ (s.failover.link s.failover.dispatcher.active).state = .ready := by
  by_cases hdue : s.settings.arrangement = .standby ∧ (s.link s.dispatcher.active).state ≠ .ready ∧
      (s.link (otherEngine s.dispatcher.active)).state = .ready
  · obtain ⟨hs, hn, hr⟩ := hdue
    refine ⟨⟨by rw [State.failover_settings, hs], by rwa [State.failover_link], ?_⟩, ?_⟩
    · rw [State.failover]
      simp only [if_pos (And.intro hs (And.intro hn hr))]
      rw [State.post_notices, NoticeUnit.setPending_pending, inSet_or, inSet_bit]
      simp
    · rw [s.failover_active_of_due hs hn hr, State.failover_link, hr]
  · rw [s.failover_of_settled fun hs hn hr => hdue ⟨hs, hn, hr⟩] at h
    exact absurd rfl h

/-- Work that leaves the active engine, and then the failover check. -/
theorem State.SameActive.failover {s u : State} (h : s.SameActive u) : s.Switches u.failover where
  pending := u.failover_pending.trans h.pending
  call := h.call.trans u.failover_drives
  settled := fun _ => u.failover_settled
  failedOver := fun hn => by
    obtain ⟨hfail, -⟩ := u.failover_of_switched (by rwa [h.active])
    exact ⟨hfail.arrangement, h.active ▸ hfail.idle, hfail.posted⟩

/-- Settling the notices clears no FAILOVER. -/
theorem State.Switches.noticed {s t : State} (h : s.Switches t) (b : State) : s.Switches (b.settleNotices t) where
  pending := h.pending
  call := h.call.trans (edgesOn_drives _ _ _)
  settled := fun hs => (State.settleNotices_sameReady b t).failoverSettled (h.settled hs)
  failedOver := fun hn => by
    obtain ⟨ha, hi, hp⟩ := h.failedOver hn
    exact ⟨ha, by rwa [State.settleNotices_link], by rwa [State.settleNotices_pending_of_event b t .failover rfl]⟩

/-! ### LINK SETTINGS (R163, R181) -/

/-- Each link changed in its own way, before the failover check. -/
theorem State.eachLink_switches {s u : State} (h : s.SameActive u) (f : Engine → Link → Link) :
    s.Switches (u.eachLink f) :=
  ((h.trans (u.modLink_sameActive .a _)).trans (State.modLink_sameActive _ .b _)).failover

/-- R164: no change of the advertised set makes a link READY. -/
theorem setChange_ready (old c : LinkSettings) (e : Engine) (l : Link) (h : (setChange old c e l).state = .ready) :
    l.state = .ready := by
  unfold setChange at h
  split at h
  · exact h
  · exact ((l.followSet_ready_iff c).mp h).1

/-- What pends as an event before the links change pends after the failover check. -/
theorem State.eachLink_keeps (s : State) (f : Engine → Link → Link) (x : Source10)
    (h : inSet s.notices.pending x = true) : inSet (s.eachLink f).notices.pending x = true := by
  refine (State.failover_apart _).keeps x ?_
  rwa [State.modLink_notices, State.modLink_notices]

/-- A failover over the change of arrangement stands through the change of the set, which makes no link READY. -/
theorem State.FailedOver.eachLink {s u : State} (h : s.FailedOver u) (f : Engine → Link → Link)
    (hf : ∀ e l, (f e l).state = .ready → l.state = .ready) : s.FailedOver (u.eachLink f) where
  arrangement := by rw [State.eachLink_settings, h.arrangement]
  idle := fun hr => h.idle (hf _ _ (by rwa [State.eachLink_link] at hr))
  posted := u.eachLink_keeps f .failover h.posted

theorem State.applySettings_switches (s : State) (c : LinkSettings) : s.Switches (s.applySettings c) := by
  have hset : s.SameActive { s with settings := c } := .of_eq rfl
  by_cases ha : c.arrangement = s.settings.arrangement
  · by_cases hm : c.advertised = s.settings.advertised
    · rw [s.applySettings_of_same c ha hm]
      exact State.SameReady.switches ⟨hset, ha, fun e => by rw [State.link_of_settings]⟩
    · rw [s.applySettings_of_set c ha hm]
      exact State.eachLink_switches hset _
  · by_cases hm : c.advertised = s.settings.advertised
    · rw [s.applySettings_of_arrangement c ha hm]
      exact State.eachLink_switches hset _
    · rw [s.applySettings_of_both c ha hm]
      have hfirst := State.eachLink_switches hset (useChange c)
      have hsecond := State.eachLink_switches (.refl (({ s with settings := c } : State).eachLink (useChange c)))
        (setChange s.settings c)
      refine ⟨hsecond.pending.trans hfirst.pending, hfirst.call.trans hsecond.call,
        fun hs => hsecond.settled (hfirst.settled hs), fun hn => ?_⟩
      by_cases hsame : (({ s with settings := c } : State).eachLink (useChange c)).dispatcher.active = s.dispatcher.active
      · obtain ⟨hstandby, hidle, hposted⟩ := hsecond.failedOver (by rwa [hsame])
        exact ⟨hstandby, hsame ▸ hidle, hposted⟩
      · exact (hfirst.failedOver hsame).eachLink _ (setChange_ready s.settings c)

/-! ### What a command answers -/

/-- The two soft resets and hardware reset. -/
def isReset : Instr → Bool
  | .hardwareReset _ => true
  | .lineReset => true
  | .tableReset => true
  | _ => false

theorem isReset_eq_false (c : Instr) (hh : ∀ straps, c ≠ .hardwareReset straps) (hl : c ≠ .lineReset)
    (hr : c ≠ .tableReset) : isReset c = false := by
  cases c with
  | hardwareReset straps => exact absurd rfl (hh straps)
  | lineReset => exact absurd rfl hl
  | tableReset => exact absurd rfl hr
  | _ => rfl

/-- What the command `c` does, from `s` to `t`, to the commands that wait, the call line and the active engine. -/
structure State.Answers (c : Instr) (s t : State) : Prop where
  pending : t.pending = s.pending
  callSound : s.notices.callSound → t.notices.callSound
  starts : s.notices.Starts t.notices
  settled : s.failoverSettled → t.failoverSettled
  failedOver : isReset c = false → t.dispatcher.active ≠ s.dispatcher.active →
    s.FailedOver t ∧ (c ≠ .tableLinkSettings → (t.link t.dispatcher.active).state = .ready)

theorem State.SameReady.answers {s t : State} (h : s.SameReady t) (c : Instr) : s.Answers c t :=
  ⟨h.pending, h.call.callSound, h.call.starts, h.failoverSettled, fun _ hn => absurd h.active hn⟩

/-- An event at a link, its failover check and its notices. -/
theorem State.SameActive.answers {s u : State} (h : s.SameActive u) (b : State) (c : Instr) :
    s.Answers c (b.settleNotices u.failover) := by
  have hswitches := h.failover.noticed b
  refine ⟨hswitches.pending, hswitches.call.callSound, hswitches.call.starts, hswitches.settled,
    fun _ hn => ⟨hswitches.failedOver hn, fun _ => ?_⟩⟩
  rw [← h.active] at hn
  rw [State.settleNotices_link]
  exact (u.failover_of_switched hn).2

theorem State.afterSettings_answers (s : State) (h : Hand) (c : LinkSettings) :
    s.Answers .tableLinkSettings (s.afterSettings h c) := by
  obtain ⟨hpending, hcall, hsettled, hfailed⟩ := (s.applySettings_switches c).noticed s
  refine ⟨hpending, hcall.callSound, hcall.starts, hsettled, fun _ hn => ⟨?_, fun hc => absurd rfl hc⟩⟩
  obtain ⟨harrangement, hidle, hposted⟩ := hfailed hn
  exact ⟨harrangement, hidle, hposted⟩

theorem exec_tableLinkSettings_answers (s : State) :
    s.Answers .tableLinkSettings
      (s.tableRow 7 settingsFault (applyFront fun body t => t.applySettings (settingsOf body))) :=
  s.tableRow_of _ _ _ ((State.SameReady.refl s).answers _) (fun h _ _ _ => (s.refuse_sameReady h _ _ _).answers _)
    fun h body => s.afterSettings_answers h (settingsOf body)

/-- R206: the expiries of the call line's own timers make nothing live. -/
theorem State.callTimer_answers (s : State) (c : Instr) {n : NoticeUnit} (hl : n.live = s.notices.live)
    (hs : s.notices.callSound → n.callSound) : s.Answers c { s with notices := n } :=
  ⟨rfl, hs, .of_live hl, id, fun _ hn => absurd rfl hn⟩

theorem NoticeUnit.burstEnds_callSound {n : NoticeUnit} (h : n.callSound) : n.burstEnds.callSound :=
  ⟨Bool.noConfusion, h.2⟩

theorem NoticeUnit.patternTurns_callSound {n : NoticeUnit} (h : n.callSound) : n.patternTurns.callSound := by
  refine ⟨h.1, ?_⟩
  rw [NoticeUnit.patternTurns, Option.isSome_map]
  exact h.2

/-- R165, R181: no link is READY after a soft reset. -/
theorem State.softResetBlocks_failoverSettled (s : State) : s.softResetBlocks.failoverSettled := by
  obtain ⟨-, ha, hb, -⟩ := s.softResetBlocks_softResetTo
  have hstate : ∀ e, (s.softResetBlocks.link e).state ≠ .ready := fun e => by
    cases e with
    | a =>
      rw [State.link_a, ha]
      show (if _ then LinkState.broken else LinkState.off) ≠ .ready
      split <;> exact LinkState.noConfusion
    | b =>
      rw [State.link_b, hb]
      show (if _ then LinkState.broken else LinkState.off) ≠ .ready
      split <;> exact LinkState.noConfusion
  exact fun _ _ => hstate _

/-- R20: the soft reset, whatever is left on the Line Port. -/
theorem State.softReset_answers (s : State) {c : Instr} (hc : isReset c = true) (lp : LinePort) :
    s.Answers c { s.softResetBlocks with lp := lp } := by
  have hcall : s.notices.Drives s.softResetBlocks.notices := (s.notices.setPending_drives 0).trans (edgesOn_drives _ _ _)
  exact ⟨rfl, hcall.callSound, hcall.starts, fun _ => s.softResetBlocks_failoverSettled,
    fun hn => absurd hc (by rw [hn]; exact Bool.false_ne_true)⟩

theorem State.tableReset_answers (s : State) :
    s.Answers .tableReset (s.tableRow 12 noFault fun h _ t => t.resetRecord h) :=
  s.tableRow_of _ _ _ ((State.SameReady.refl s).answers _) (fun h _ _ _ => (s.refuse_sameReady h _ _ _).answers _)
    fun _ _ => s.softReset_answers rfl _

/-- R207: nothing is live and no class shown after hardware reset. -/
theorem noticesAtReset_starts (n : NoticeUnit) : n.Starts noticesAtReset where
  burst := fun x _ hx => by
    rw [show noticesAtReset.live = 0#10 by decide, inSet_empty] at hx
    cases hx
  pattern := fun h => absurd h (by decide)

theorem State.atReset_answers (s : State) (straps : Straps) :
    s.Answers (.hardwareReset straps) { State.atReset straps with pending := s.pending } where
  pending := rfl
  callSound := fun _ => noticesAtReset_callSound
  starts := noticesAtReset_starts _
  settled := fun _ => State.atReset_failoverSettled straps
  failedOver := fun h => nomatch h

end Sys2Proof.Machine
end

section
/-! PROOFS. Every command answers: which command is refused, and what each of the others does to the commands that wait, the
call line and the active engine. -/

namespace Sys2Proof.Machine

/-! ### The due steps before a command -/

/-- What the command does once the due steps are taken, which change nothing in a quiet state. -/
def State.AnswersInTurn (c : Instr) (s t : State) : Prop :=
  ∃ q, s.SameReady q ∧ (s.quiet → q = s) ∧ q.Answers c t

theorem State.Answers.inTurn {c : Instr} {s t : State} (h : s.Answers c t) : s.AnswersInTurn c t :=
  ⟨s, .refl s, fun _ => rfl, h⟩

/-- A due step by itself. -/
theorem State.SameReady.inTurn {c : Instr} {s t : State} (h : s.SameReady t) : s.AnswersInTurn c t := (h.answers c).inTurn

theorem State.run_answers {c : Instr} {s t : State} {f : State → State} (hx : s.run f = .next t)
    (hf : ∀ u : State, u.Answers c (f u)) : s.AnswersInTurn c t := by
  cases hx
  exact ⟨s.takeDue, s.takeDue_sameReady, s.takeDue_of_quiet, hf _⟩

theorem State.run_sameReady {c : Instr} {s t : State} {f : State → State} (hx : s.run f = .next t)
    (hf : ∀ u : State, u.SameReady (f u)) : s.AnswersInTurn c t :=
  State.run_answers hx fun u => (hf u).answers c

theorem State.runNoticed_answers {c : Instr} {s t : State} {f : State → State} (hx : s.runNoticed f = .next t)
    (hf : ∀ u : State, u.Answers c (u.settleNotices (f u))) : s.AnswersInTurn c t := by
  cases hx
  exact ⟨s.takeDue, s.takeDue_sameReady, s.takeDue_of_quiet, hf _⟩

theorem State.runNoticed_sameReady {c : Instr} {s t : State} {f : State → State} (hx : s.runNoticed f = .next t)
    (hf : ∀ u : State, u.SameReady (f u)) : s.AnswersInTurn c t :=
  State.runNoticed_answers hx fun u => ((hf u).trans (State.settleNotices_sameReady u _)).answers c

/-- An event at a link with its failover check. -/
theorem State.runNoticed_failover {c : Instr} {s t : State} {f : State → State}
    (hx : (s.runNoticed fun q => (f q).failover) = .next t) (hf : ∀ u : State, u.SameActive (f u)) :
    s.AnswersInTurn c t :=
  State.runNoticed_answers hx fun u => (hf u).answers u c

/-- R173, R175: a timeout, when its timer runs. -/
theorem State.timeout_answers (s : State) (e : Engine) (runs : Bool) (c : Instr) :
    s.Answers c (s.settleNotices (if runs then (s.timedOut e).failover else s)) := by
  cases runs with
  | true => exact (s.timedOut_sameActive e).answers s c
  | false => exact (State.settleNotices_sameReady s s).answers c

/-! ### Every command -/

theorem exec_answers (c : Instr) (s t : State) (hx : exec c s = .next t) : s.AnswersInTurn c t := by
  cases c
  all_goals dsimp only [exec] at hx
  case orderByte a u d p => exact State.run_sameReady hx fun v => v.orderByteStrobed_sameReady a u d p
  case orderAccept =>
    cases hx
    exact (s.takeOwed_sameReady.trans (State.acceptWaiting_portOnly _).sameReady).inTurn
  case dataByte d p => exact State.run_sameReady hx fun v => v.dataByteStrobed_sameReady d p
  case unknownOrder => exact State.run_sameReady hx fun v => v.endRow_sameReady _ _ fun _ => .refl v
  case print => exact State.run_sameReady hx fun v => v.endRow_sameReady _ _ v.endPrint_sameReady
  case move => exact State.run_sameReady hx fun v => v.endRow_sameReady _ _ v.endMove_sameReady
  case sync => exact State.run_sameReady hx fun v => v.endRow_sameReady _ _ fun _ => .of_eq rfl
  case syncDone => cases hx; exact s.syncCompletes_portOnly.sameReady.inTurn
  case engineStopped => cases hx; exact s.syncFails_portOnly.sameReady.inTurn
  case tableCharacterMap => exact State.run_sameReady hx fun v => v.frontRow_sameReady _ _ _ fun _ => .of_eq rfl
  case tableForms =>
    exact State.run_sameReady hx fun v => v.frontRow_sameReady _ _ _ fun _ => .of_eq (by rw [State.loadForms_eq])
  case tableCollation => exact State.run_sameReady hx fun v => v.streamRow_sameReady _ _ _
  case tableFieldLayout => exact State.run_sameReady hx fun v => v.streamRow_sameReady _ _ _
  case tableKeyReset => exact State.run_sameReady hx fun v => v.streamRow_sameReady _ _ _
  case tableSheetPlan => exact State.run_sameReady hx fun v => v.streamRow_sameReady _ _ _
  case tableLinkSettings => exact State.run_answers hx exec_tableLinkSettings_answers
  case tableNoticeControl =>
    exact State.run_sameReady hx fun v => v.frontRow_sameReady _ _ _ fun _ => v.applyNoticeControl_sameReady _ _
  case tableNoticeClear =>
    exact State.run_sameReady hx fun v => v.frontRow_sameReady _ _ _ fun _ => v.applyNoticeClear_sameReady _
  case tableUnit => exact State.run_sameReady hx fun v => v.frontRow_sameReady _ _ _ fun _ => .of_eq rfl
  case tableCounterClear => exact State.run_sameReady hx fun v => v.frontRow_sameReady _ _ _ fun _ => .of_eq rfl
  case tableReset => exact State.run_answers hx State.tableReset_answers
  case tableKindUnknown =>
    refine State.run_sameReady hx fun v => v.endRow_sameReady _ _ fun h => ?_
    unfold State.endTable
    split
    · exact v.refuse_sameReady _ _ _ _
    · exact .refl v
  case queryCondition => exact State.run_sameReady hx fun v => v.queryRow_sameReady _ id _ (.refl v)
  case queryCheck => exact State.run_sameReady hx fun v => v.queryRow_sameReady _ id _ (.refl v)
  case queryNotices =>
    exact State.run_sameReady hx fun v => v.queryRow_sameReady _ State.noticesRead _ v.noticesRead_sameReady
  case queryCounters => exact State.run_sameReady hx fun v => v.queryRow_sameReady _ id _ (.refl v)
  case queryTable => exact State.run_sameReady hx fun v => v.queryRow_sameReady _ id _ (.refl v)
  case queryEngine => exact State.run_sameReady hx fun v => v.queryRow_sameReady _ id _ (.refl v)
  case queryRing => exact State.run_sameReady hx fun v => v.queryRow_sameReady _ id _ (.refl v)
  case selectorNamingNothing =>
    exact State.run_sameReady hx fun v => v.endRow_sameReady _ _ fun h => v.endQuery_sameReady h _ (.refl v)
  case replyTaken => exact State.run_sameReady hx fun v => v.replyTakenSignal_sameReady
  case clear => exact State.run_sameReady hx fun v => .of_eq rfl
  case lineReset => exact State.run_answers hx fun v => v.softReset_answers rfl _
  case hardwareReset straps => cases hx; exact (s.atReset_answers straps).inTurn
  case owedFormEnd => cases hx; exact s.takeOwed_sameReady.inTurn
  case placedLine =>
    exact State.runNoticed_sameReady hx fun v => v.atHead_sameReady _ fun x => workPlacedLine_sameReady x v
  case overstrikeMerge => exact State.runNoticed_sameReady hx fun v => v.atHead_sameReady _ fun x => workMerge_sameReady x v
  case lineOfItsOwn => exact State.runNoticed_sameReady hx fun v => v.atHead_sameReady _ fun x => workOwnLine_sameReady x v
  case formEnd => exact State.runNoticed_sameReady hx fun v => v.atHead_sameReady _ fun x => workFormEnd_sameReady x v
  case syncMarker =>
    exact State.runNoticed_sameReady hx fun v => v.atHead_sameReady _ fun x => workSyncMarker_sameReady x v
  case sheetPlanEntry =>
    exact State.runNoticed_sameReady hx fun v => v.atHead_sameReady _ fun x => workSheetPlan_sameReady x v
  case collationEntry => exact State.run_sameReady hx fun v => v.atHead_sameReady _ fun x => workCollation_sameReady x v
  case fieldLayoutEntry =>
    exact State.run_sameReady hx fun v => v.atHead_sameReady _ fun x => workFieldLayout_sameReady x v
  case keyResetEntry => exact State.run_sameReady hx fun v => v.atHead_sameReady _ fun x => workKeyReset_sameReady x v
  case grant => cases hx; exact (s.windowsDue_sameReady.trans (State.grantOnce_sameReady _)).inTurn
  case sheetEnd e => exact State.run_sameReady hx fun v => v.sendSheetEnd_sameReady e
  case offer e m a => exact State.runNoticed_failover hx fun v => v.offerFrame_sameActive e m a
  case idle e => exact State.run_sameReady hx fun v => v.idleFrame_sameReady e
  case taken e q => exact State.run_sameReady hx fun v => v.takenFrame_sameReady e q
  case stacked e q => exact State.runNoticed_failover hx fun v => v.stackedFrame_sameActive e q
  case stop e cause =>
    unfold execStop at hx
    split at hx
    · exact State.runNoticed_failover hx fun v => v.stopFrame_sameActive e cause
    · cases hx
  case jam e last => exact State.runNoticed_failover hx fun v => v.jamFrame_sameActive e last
  case ready e => exact State.runNoticed_failover hx fun v => v.readyFrame_sameActive e
  case offerRepeat e => exact State.run_sameReady hx fun v => v.repeatOffer_sameReady e
  case offerWindow e => exact State.runNoticed_failover hx fun v => v.offerWindowEnds_sameActive e
  case acknowledgementWindow e => exact State.runNoticed_sameReady hx fun v => v.ackWindowEnds_sameReady e
  case settleTimer e => exact State.runNoticed_failover hx fun v => v.settleEnds_sameActive e
  case silenceTimer e => exact State.runNoticed_failover hx fun v => v.linkLost_sameActive e
  case breakEnd e => exact State.runNoticed_sameReady hx fun v => v.breakEnds_sameReady e
  case takenTimeout e => exact State.runNoticed_answers hx fun v => v.timeout_answers e _ _
  case stackedTimeout e q => exact State.runNoticed_answers hx fun v => v.timeout_answers e _ _
  case tick => exact State.run_sameReady hx fun v => v.tick_sameReady
  case windowShort e => cases hx; exact (s.windowShort_sameReady e).inTurn
  case windowMet e => cases hx; exact (s.windowMet_sameReady e).inTurn
  case burstTimer => exact State.run_answers hx fun v => v.callTimer_answers _ rfl NoticeUnit.burstEnds_callSound
  case callPattern => exact State.run_answers hx fun v => v.callTimer_answers _ rfl NoticeUnit.patternTurns_callSound

/-- Every command keeps the commands that wait. -/
theorem exec_pending (c : Instr) (s t : State) (hx : exec c s = .next t) : t.pending = s.pending := by
  obtain ⟨q, hq, -, h⟩ := exec_answers c s t hx
  exact h.pending.trans hq.pending

/-! ### The commands that are refused (R177) -/

/-- A command that brings an event the spec knows answers a next state. -/
theorem exec_next_of_wellFormed (c : Instr) (s : State) (h : c.wellFormed = true) : ∃ t, exec c s = .next t := by
  cases c with
  | stop e cause => exact ⟨_, exec_stop e cause s h⟩
  | _ => exact ⟨_, rfl⟩

/-- R177: a STOP whose cause no STOP frame carries. -/
theorem exec_refused_of_not_wellFormed (c : Instr) (s : State) (h : c.wellFormed = false) :
    exec c s = .refused .noSuchFrame := by
  cases c with
  | stop e cause =>
    have hframe : ¬cause.inStopFrame = true := by
      rw [show cause.inStopFrame = false from h]
      exact Bool.false_ne_true
    exact if_neg hframe
  | _ => cases h

/-- Settles O3: a well-formed command has a next state by its meaning, with the commands that wait as the due steps and its
own work leave them; STOP refuses a cause that no frame carries. -/
theorem wellFormedCommandsAnswerNext : Obligations.WellFormedCommandsAnswerNext := by
  unfold Obligations.WellFormedCommandsAnswerNext
  refine fun c s => ⟨fun h => ?_, exec_refused_of_not_wellFormed c s⟩
  obtain ⟨t, hx⟩ := exec_next_of_wellFormed c s h
  exact ⟨t, hx, exec_pending c s t hx⟩

end Sys2Proof.Machine
end

section
/-! PROOFS. Ticks, the ends of pace windows, and the timers of the OPERATOR CALL output. -/

namespace Sys2Proof.Machine

/-! ### The Pace Monitors (R183 to R186) -/

/-- R184: a count past 65535 wraps and makes the window's end due. -/
theorem PaceMonitor.countTick_eq (p : PaceMonitor) (h : p.tOver = false) :
    p.countTick = { p with t := p.t + 1, tOver := decide (p.t = 65535) } := by
  unfold PaceMonitor.countTick
  by_cases ht : p.t = 65535
  · rw [if_pos ht, ht]
    rfl
  · rw [if_neg ht, decide_eq_false ht, ← h]

theorem Link.tick_of_working (l : Link) (hr : l.state = .ready) (hi : l.inFlight ≠ []) (hd : l.windowDue = false) :
    l.tick = { l with pace := { l.pace with t := l.pace.t + 1, tOver := decide (l.pace.t = 65535) } } := by
  rw [Link.tick, if_pos ⟨hr, hi⟩, l.pace.countTick_eq (Bool.or_eq_false_iff.mp hd).1]

theorem Link.tick_of_idle (l : Link) (h : l.state ≠ .ready ∨ l.inFlight = []) : l.tick = l :=
  if_neg fun ⟨hr, hi⟩ => h.elim (absurd hr) hi

theorem PaceMonitor.endShort_eq (cfg : LinkSettings) (p : PaceMonitor) :
    p.endShort cfg =
      ⟨BitVec.ofNat 16 (65536 - cfg.paceWindow), BitVec.ofNat 8 (256 - cfg.paceTarget), min 7 (p.shortCount + 1),
        p.degraded || decide (cfg.degradeThreshold ≤ min 7 (p.shortCount + 1)), false, false⟩ := rfl

theorem PaceMonitor.endMet_eq (cfg : LinkSettings) (p : PaceMonitor) :
    p.endMet cfg =
      ⟨BitVec.ofNat 16 (65536 - cfg.paceWindow), BitVec.ofNat 8 (256 - cfg.paceTarget), 0, false, false, false⟩ := rfl

/-! ### The arms of exec -/

section
variable (s : State)

theorem exec_tick (hq : s.quiet) : exec .tick s = .next { s with linkA := s.linkA.tick, linkB := s.linkB.tick } :=
  s.run_of_quiet (fun q => { q with linkA := q.linkA.tick, linkB := q.linkB.tick }) hq

theorem exec_burstTimer (hq : s.quiet) : exec .burstTimer s = .next { s with notices := s.notices.burstEnds } :=
  s.run_of_quiet (fun q => { q with notices := q.notices.burstEnds }) hq

theorem exec_callPattern (hq : s.quiet) : exec .callPattern s = .next { s with notices := s.notices.patternTurns } :=
  s.run_of_quiet (fun q => { q with notices := q.notices.patternTurns }) hq

theorem exec_windowShort (e : Engine) : exec (.windowShort e) s = .next (s.windowShort e) := rfl

theorem exec_windowMet (e : Engine) : exec (.windowMet e) s = .next (s.windowMet e) := rfl

/-- R184: what a tick leaves of each link. -/
theorem State.tick_link (e : Engine) :
    ({ s with linkA := s.linkA.tick, linkB := s.linkB.tick } : State).link e = (s.link e).tick := by
  cases e <;> rfl

theorem State.windowDue_of_quiet (hq : s.quiet) (e : Engine) : (s.link e).windowDue = false := by
  obtain ⟨-, ha, hb, -⟩ := hq
  cases e
  · exact ha
  · exact hb

/-! ### The ends of a window (R186, R187) -/

/-- A window's end changes one Pace Monitor, and DEGRADED follows the flag. -/
theorem State.windowEnd_frame (e : Engine) (f : Link → Link) :
    s.settleNotices (s.modLink e f) = { s with
      linkA := (s.settleNotices (s.modLink e f)).linkA
      linkB := (s.settleNotices (s.modLink e f)).linkB
      notices := edgesOn s.notices s.conditions (s.settleNotices (s.modLink e f)).conditions } := by
  cases e <;> rfl

theorem State.windowShort_of_over (e : Engine) (h : (s.link e).pace.tOver = true) :
    s.windowShort e = s.settleNotices (s.modLink e fun l => { l with pace := l.pace.endShort s.settings }) := if_pos h

theorem State.windowMet_of_over (e : Engine) (h : (s.link e).pace.sOver = true) :
    s.windowMet e = s.settleNotices (s.modLink e fun l => { l with pace := l.pace.endMet s.settings }) := if_pos h
end

/-! ### The call line's timers (R206) -/

theorem NoticeUnit.inSet_live_iff (n : NoticeUnit) (x : Source10) :
    inSet n.live x = true ↔ inSet n.mask x = true ∧ inSet n.pending x = true := by
  rw [NoticeUnit.live, inSet_and, Bool.and_eq_true]

theorem mem_classFour_iff (x : Source10) :
    x ∈ [Source10.listingOrder, .folioLimit, .engineRestored, .failover] ↔ inSet (classSources 4) x = true := by
  rw [inSet_classSources_four]
  simp only [List.mem_cons, List.not_mem_nil, or_false]

/-- The output by the class shown, which is the lowest-numbered one live. -/
theorem NoticeUnit.callLine_by_class (n : NoticeUnit) :
    (n.LiveClass 1 → n.shownClass = 1 ∧ n.callLine = true) ∧
    (¬n.LiveClass 1 → n.LiveClass 2 → n.shownClass = 2 ∧ ∀ on, n.pattern = some on → n.callLine = on) ∧
    (¬n.LiveClass 1 → ¬n.LiveClass 2 → n.LiveClass 3 → n.shownClass = 3 ∧ ∀ on, n.pattern = some on → n.callLine = on) ∧
    (¬n.LiveClass 1 → ¬n.LiveClass 2 → ¬n.LiveClass 3 → n.LiveClass 4 →
      n.shownClass = 4 ∧ (n.callLine = true ↔ n.burst.isSome = true)) ∧
    (¬n.LiveClass 1 → ¬n.LiveClass 2 → ¬n.LiveClass 3 → ¬n.LiveClass 4 → n.shownClass = 0 ∧ n.callLine = false) := by
  refine ⟨fun h1 => ?_, fun h1 h2 => ?_, fun h1 h2 h3 => ?_, fun h1 h2 h3 h4 => ?_, fun h1 h2 h3 h4 => ?_⟩
  · have hclass : n.shownClass = 1 := by rw [n.shownClass_eq, if_pos h1]
    exact ⟨hclass, n.callLine_of_stopped hclass⟩
  · have hclass : n.shownClass = 2 := by rw [n.shownClass_eq, if_neg h1, if_pos h2]
    exact ⟨hclass, n.callLine_of_pattern (.inl hclass)⟩
  · have hclass : n.shownClass = 3 := by rw [n.shownClass_eq, if_neg h1, if_neg h2, if_pos h3]
    exact ⟨hclass, n.callLine_of_pattern (.inr hclass)⟩
  · have hclass : n.shownClass = 4 := by rw [n.shownClass_eq, if_neg h1, if_neg h2, if_neg h3, if_pos h4]
    exact ⟨hclass, by rw [n.callLine_of_burst hclass]⟩
  · have hclass : n.shownClass = 0 := by rw [n.shownClass_eq, if_neg h1, if_neg h2, if_neg h3, if_neg h4]
    exact ⟨hclass, n.callLine_of_none hclass⟩

/-- R206: every command keeps the timers of the call line to the class they belong to. -/
theorem exec_callSound (c : Instr) (s t : State) (hx : exec c s = .next t) (h : s.notices.callSound) :
    t.notices.callSound := by
  obtain ⟨q, hq, -, ha⟩ := exec_answers c s t hx
  exact ha.callSound (hq.call.callSound h)

/-- R206: and in a quiet state starts them by what becomes live and what is shown. -/
theorem exec_starts (c : Instr) (s t : State) (hx : exec c s = .next t) (hquiet : s.quiet) :
    s.notices.Starts t.notices := by
  obtain ⟨q, -, hq, ha⟩ := exec_answers c s t hx
  rw [hq hquiet] at ha
  exact ha.starts

/-- Settles O50: a tick and a window's end by what they do to one Pace Monitor, the output by the class shown, and its timers
by what every command answers. -/
theorem ticksWindowsAndCallTimers : Obligations.TicksWindowsAndCallTimers := by
  unfold Obligations.TicksWindowsAndCallTimers
  refine ⟨fun s hq => ⟨_, exec_tick s hq, rfl, fun e => ⟨fun hr hi => ?_, fun hidle => ?_⟩⟩,
    fun s e => ⟨fun h => ?_, fun h => ?_, fun h => ?_, fun h => ?_⟩, fun s hq => ⟨exec_burstTimer s hq, ?_⟩,
    fun n live hlive one two three four hone htwo hthree hfour => ?_,
    fun c s t hcall hx => ⟨exec_callSound c s t hx hcall, fun hq => ?_⟩⟩
  · rw [s.tick_link, (s.link e).tick_of_working hr hi (s.windowDue_of_quiet hq e)]
  · rw [s.tick_link, (s.link e).tick_of_idle hidle]
  · refine ⟨s.windowShort e, _, rfl, exec_windowShort s e, ?_, s.windowShort_link_other e, ?_⟩
    · rw [s.windowShort_of_over e h]
      exact s.windowEnd_frame e _
    · rw [s.windowShort_of_over e h, State.settleNotices_link, State.link_modLink_self, PaceMonitor.endShort_eq]
  · rw [exec_windowShort, s.windowShort_of_not_over e h]
  · refine ⟨s.windowMet e, exec_windowMet s e, ?_, s.windowMet_link_other e, ?_⟩
    · rw [s.windowMet_of_over e h]
      exact s.windowEnd_frame e _
    · rw [s.windowMet_of_over e h, State.settleNotices_link, State.link_modLink_self, PaceMonitor.endMet_eq]
  · rw [exec_windowMet, s.windowMet_of_not_over e h]
  · rw [exec_callPattern s hq, NoticeUnit.patternTurns]
    cases s.notices.pattern <;> rfl
  · have hlive' : ∀ x, live x ↔ inSet n.live x = true := fun x => (hlive x).trans (n.inSet_live_iff x).symm
    simp only [hlive', ← n.liveClass_one_iff, ← n.liveClass_two_iff, ← n.liveClass_three_iff,
      ← n.liveClass_four_iff] at hone htwo hthree hfour
    rw [hone, htwo, hthree, hfour]
    exact n.callLine_by_class
  · obtain ⟨hburst, hpattern⟩ := exec_starts c s t hx hq
    exact ⟨fun x hx => hburst x ((mem_classFour_iff x).mp hx), hpattern⟩

end Sys2Proof.Machine
end

section
/-! PROOFS. STANDBY: the failover at the STOP of the active engine, at the READY of the other, and at any other command. -/

namespace Sys2Proof.Machine

/-- R181: an event that leaves the active engine's link not READY and the other READY switches engines and posts FAILOVER. -/
theorem State.SameActive.settled_failover {s u : State} (h : s.SameActive u) (b : State)
    (hs : u.settings.arrangement = .standby) (hn : (u.link s.dispatcher.active).state ≠ .ready)
    (ho : (u.link (otherEngine s.dispatcher.active)).state = .ready) :
    (b.settleNotices u.failover).dispatcher.active = otherEngine s.dispatcher.active ∧
      inSet (b.settleNotices u.failover).notices.pending .failover = true := by
  rw [← h.active] at hn ho ⊢
  have hactive := u.failover_active_of_due hs hn ho
  have hswitched : u.failover.dispatcher.active ≠ u.dispatcher.active := by
    rw [hactive]
    exact otherEngine_ne _
  refine ⟨hactive, ?_⟩
  rw [State.settleNotices_pending_of_event b _ .failover rfl]
  exact (u.failover_of_switched hswitched).1.posted

/-! ### STOP of the active engine (R177, R181) -/

theorem Arrangement.uses_of_standby {a : Arrangement} (h : a = .standby) (e : Engine) : a.uses e = true := by
  rw [h]
  cases e <;> rfl

/-- R177: a link that stops in use is STOPPED, or OFFERING when it was draining. -/
theorem State.afterStop_not_ready (s : State) (e : Engine) (cause : StopCause) (hu : s.uses e = true) :
    ((s.afterStop e Link.heard cause).link e).state ≠ .ready := by
  rw [s.afterStop_link e Link.heard cause (Link.heard_draining _), hu, if_neg Bool.noConfusion]
  split <;> exact LinkState.noConfusion

/-- The STOP frame's work, and what settles after it, on a READY link. -/
theorem State.settled_stopFrame_of_ready (s : State) (e : Engine) (cause : StopCause) (hr : (s.link e).state = .ready) :
    s.settleNotices (s.stopFrame e cause).failover = s.afterStop e Link.heard cause := by
  unfold State.stopFrame
  simp only [hr]
  rfl

theorem State.afterStop_failsOver (s : State) (e : Engine) (cause : StopCause) (hs : s.settings.arrangement = .standby)
    (hr : (s.link e).state = .ready) (ha : s.dispatcher.active = e) (ho : (s.link (otherEngine e)).state = .ready) :
    (s.afterStop e Link.heard cause).dispatcher = { s.dispatcher with active := otherEngine e } ∧
      inSet (s.afterStop e Link.heard cause).notices.pending .failover = true := by
  have hwork := s.settled_stopFrame_of_ready e cause hr
  have hlink : ∀ x, (s.stopFrame e cause).link x = (s.afterStop e Link.heard cause).link x := fun x => by
    rw [← hwork, s.settled_link]
  have hstandby : (s.stopFrame e cause).settings.arrangement = .standby := by
    rw [(s.stopFrame_backOnly e cause).settings, hs]
  obtain ⟨hactive, hposted⟩ := (s.stopFrame_sameActive e cause).settled_failover s hstandby
    (by rw [ha, hlink]; exact s.afterStop_not_ready e cause (Arrangement.uses_of_standby hs e))
    (by rw [ha, hlink, s.afterStop_link_other, ho])
  rw [hwork] at hactive hposted
  rw [ha] at hactive
  have hdispatcher : (s.afterStop e Link.heard cause).dispatcher =
      { s.dispatcher with active := (s.afterStop e Link.heard cause).dispatcher.active } :=
    congrArg State.dispatcher (s.afterStop_eq e Link.heard cause)
  exact ⟨hdispatcher.trans (by rw [hactive]), hposted⟩

/-! ### READY of the other engine (R179, R181) -/

theorem State.readyFrame_failsOver (s : State) (e : Engine) (hs : s.settings.arrangement = .standby)
    (ha : s.dispatcher.active = otherEngine e) (hn : (s.link (otherEngine e)).state ≠ .ready)
    (h : (s.link e).state = .stopped) :
    (s.settleNotices (s.readyFrame e).failover).dispatcher = { s.dispatcher with active := e } ∧
      inSet (s.settleNotices (s.readyFrame e).failover).notices.pending .failover = true := by
  have hwork := s.readyFrame_sameActive e
  have hat : s.AtLink (s.readyFrame e) e := by
    rw [s.readyFrame_of_stopped e h]
    exact (s.modLink_atLink e _).trans (State.post_atLink _ _ e)
  have hready : ((s.readyFrame e).link e).state = .ready := by
    rw [s.readyFrame_of_stopped e h, State.post_link, State.restored, State.link_modLink_self]
    rfl
  obtain ⟨hactive, hposted⟩ := hwork.settled_failover s (by rw [hat.links, hs]) (by rwa [ha, hat.other])
    (by rw [ha, otherEngine_otherEngine, hready])
  refine ⟨?_, hposted⟩
  rw [ha, otherEngine_otherEngine] at hactive
  rw [(hat.trans (s.settled_atLink _ e)).links, hactive]

/-- Settles O51: the STOP and the READY by the check that follows their work, and the rest by what every command answers. -/
theorem standbyFailsOver : Obligations.StandbyFailsOver := by
  unfold Obligations.StandbyFailsOver
  refine ⟨fun s t e cause hq hs ha hr ho hx => ?_, fun s t e hq hs ha hn h hx => ?_,
    fun c s t hx hh hl hr hn => ?_, fun c s t hs hx => ?_⟩
  · cases hc : cause.inStopFrame with
    | false =>
      rw [exec_refused_of_not_wellFormed (.stop e cause) s hc] at hx
      cases hx
    | true =>
      rw [exec_stop_of_ready e cause s hq hr hc] at hx
      cases hx
      exact s.afterStop_failsOver e cause hs hr ha ho
  · rw [exec_ready, s.runNoticed_of_quiet _ hq] at hx
    cases hx
    exact s.readyFrame_failsOver e hs ha hn h
  · obtain ⟨q, hq, -, hanswers⟩ := exec_answers c s t hx
    obtain ⟨⟨hstandby, hidle, hposted⟩, hready⟩ :=
      hanswers.failedOver (isReset_eq_false c hh hl hr) (by rwa [hq.active])
    rw [hq.active] at hidle
    exact ⟨hstandby, hposted, (eq_or_eq_otherEngine _ _).resolve_left hn, hidle, hready⟩
  · obtain ⟨q, hq, -, hanswers⟩ := exec_answers c s t hx
    exact hanswers.settled (hq.failoverSettled hs)

end Sys2Proof.Machine
end

section
/-! PROOFS. The counters: what each operation counts, and that no command but HARDWARE_RESET and COUNTER CLEAR lowers one. -/

namespace Sys2Proof.Machine

/-! ### A count (R200) -/

/-- R200: a counter holds at its last value. -/
theorem countUp_toNat (v : Word32) (n : Nat) : (countUp v n).toNat = min 4294967295 (v.toNat + n) := by
  simp only [countUp, BitVec.toNat_ofNat]
  omega

/-- From `s` to `t` no counter decreased. -/
def State.CountsOn (s t : State) : Prop := ∀ k : Fin 16, (s.counters.get k).toNat ≤ (t.counters.get k).toNat

/-- Work that writes no counter. -/
theorem State.CountsOn.of_counters {s t : State} (h : t.counters = s.counters) : s.CountsOn t := fun k => by rw [h]

theorem State.CountsOn.refl (s : State) : s.CountsOn s := .of_counters rfl

theorem State.CountsOn.trans {s t u : State} (h : s.CountsOn t) (k : t.CountsOn u) : s.CountsOn u :=
  fun i => (h i).trans (k i)

/-- Only the counters are looked at. -/
theorem State.CountsOn.of_eq {s t u : State} (h : s.CountsOn t) (hu : u.counters = t.counters) : s.CountsOn u :=
  h.trans (.of_counters hu)

theorem State.count_countsOn (s : State) (c : Counter) (n : Nat) : s.CountsOn (s.count c n) := fun k => by
  obtain ⟨d, rfl⟩ := Counter.exists_index k
  show (s.counter d).toNat ≤ ((s.count c n).counter d).toNat
  rw [s.counter_count c d n]
  split
  · exact le_countUp _ n
  · exact le_rfl

theorem State.LinksOnly.countsOn {s t : State} (h : s.LinksOnly t) : s.CountsOn t := .of_counters (by rw [h])

theorem State.AtLink.countsOn {s t : State} {e : Engine} (h : s.AtLink t e) : s.CountsOn t := h.links.countsOn

theorem State.OnlyAtLink.countsOn {s t : State} {e : Engine} (h : s.OnlyAtLink t e) : s.CountsOn t := by
  obtain ⟨ht, -⟩ := h
  exact .of_counters (by rw [ht])

/-- R14: a refusal counts the order refused. -/
theorem State.refuse_countsOn (s : State) (h : Hand) (kind : CheckKind) (position : Option Nat) (detail : Nat) :
    s.CountsOn (s.refuse h kind position detail) := by
  have hcounters : (s.refuse h kind position detail).counters = (s.count .ordersRefused 1).counters := by
    rw [s.refuse_refusedAs h kind position detail]
    rfl
  exact (s.count_countsOn .ordersRefused 1).of_eq hcounters

/-! ### The due steps -/

theorem State.takeOwed_countsOn (s : State) : s.CountsOn s.takeOwed := by
  unfold State.takeOwed
  split
  · exact .refl s
  · split <;> exact .of_counters rfl

/-- R137: a grant counts a sheet reissued. -/
theorem State.grantOnce_countsOn (s : State) : s.CountsOn s.grantOnce := by
  cases h : s.grantDue with
  | false =>
    rw [s.grantOnce_of_not_due h]
    exact .refl s
  | true =>
    obtain ⟨e, sh, -, -, hx⟩ := s.grantOnce_of_due h
    have hcount : s.CountsOn (s.countReissue sh) := by
      unfold State.countReissue
      split
      · exact .refl s
      · exact s.count_countsOn .reissued 1
    rw [hx]
    exact hcount.of_eq (by rw [s.grantTo_eq])

theorem State.syncCompletes_countsOn (s : State) : s.CountsOn s.syncCompletes := by
  cases h : s.syncDoneDue with
  | false =>
    rw [s.syncCompletes_of_not_due h]
    exact .refl s
  | true =>
    obtain ⟨clamped, hx⟩ := s.syncCompletes_of_due h
    rw [hx]
    exact .of_counters rfl

theorem State.syncFails_countsOn (s : State) : s.CountsOn s.syncFails := by
  cases h : s.syncFailDue with
  | false =>
    rw [s.syncFails_of_not_due h]
    exact .refl s
  | true =>
    obtain ⟨clamped, hx⟩ := s.syncFails_of_due h
    rw [hx]
    exact s.refuse_countsOn _ _ _ _

theorem State.acceptWaiting_countsOn (s : State) : s.CountsOn s.acceptWaiting := by
  cases h : s.acceptDue with
  | false =>
    rw [s.acceptWaiting_of_not_due h]
    exact .refl s
  | true =>
    obtain ⟨hand, hx⟩ := s.acceptWaiting_of_due h
    rw [hx]
    exact .of_counters rfl

theorem State.takeDue_countsOn (s : State) : s.CountsOn s.takeDue := by
  have hwindows : s.CountsOn s.takeOwed.windowsDue := s.takeOwed_countsOn.trans (State.windowsDue_linksOnly _).countsOn
  have hgrants := (hwindows.trans (State.grantOnce_countsOn _)).trans (State.grantOnce_countsOn _)
  exact ((hgrants.trans (State.syncCompletes_countsOn _)).trans (State.syncFails_countsOn _)).trans
    (State.acceptWaiting_countsOn _)

/-! ### The signals and END -/

theorem State.orderByteStrobed_countsOn (s : State) (select : Bool) (unit : BitVec 4) (d : Byte) (p : Bool) :
    s.CountsOn (s.orderByteStrobed select unit d p) := by
  have htake : s.CountsOn (s.takeOrderByte d p) := by
    unfold State.takeOrderByte
    split
    · exact .of_counters rfl
    · split
      · exact .of_counters rfl
      · split
        · exact .of_counters rfl
        · split <;> exact .of_counters rfl
  unfold State.orderByteStrobed
  split
  · split
    · exact htake
    all_goals exact .refl s
  · exact .refl s

theorem State.dataByteStrobed_countsOn (s : State) (d : Byte) (p : Bool) : s.CountsOn (s.dataByteStrobed d p) := by
  unfold State.dataByteStrobed
  split
  · split <;> exact .of_counters rfl
  all_goals exact .refl s

theorem State.replyTakenSignal_countsOn (s : State) : s.CountsOn s.replyTakenSignal := by
  unfold State.replyTakenSignal
  split <;> exact .of_counters rfl

/-- END of an order counts what its row's own work counts. -/
theorem State.endRow_countsOn (s : State) (mine : Hand → Bool) (own : Hand → State → State)
    (ho : ∀ h, s.CountsOn (own h s)) : s.CountsOn (s.atEnd mine fun h t => t.judge h (own h)) :=
  s.endRow_of mine own (.refl s) s.refuse_countsOn ho

/-- R10, R52: a PRINT counts its replaced codes and the line accepted. -/
theorem State.endPrint_countsOn (s : State) (h : Hand) : s.CountsOn (s.endPrint h) := by
  unfold State.endPrint
  split
  · exact s.refuse_countsOn _ _ _ _
  · split
    · exact s.refuse_countsOn _ _ _ _
    · rw [s.printText_eq]
      exact ((s.count_countsOn _ _).trans (State.count_countsOn _ _ _)).of_eq rfl

theorem State.endMove_countsOn (s : State) (h : Hand) : s.CountsOn (s.endMove h) := by
  unfold State.endMove
  split
  · exact s.refuse_countsOn _ _ _ _
  · exact .of_counters rfl

theorem State.tableRow_countsOn (s : State) (kind : Nat) (fault : List Byte → Option (Nat × Nat))
    (carry : Hand → List Byte → State → State) (hc : ∀ h body, (carry h body s).counters = s.counters) :
    s.CountsOn (s.tableRow kind fault carry) :=
  s.tableRow_of kind fault carry (.refl s) s.refuse_countsOn fun h body => .of_counters (hc h body)

/-- R190: END of a front record whose effect writes no counter. -/
theorem State.frontRow_countsOn (s : State) (kind : Nat) (fault : List Byte → Option (Nat × Nat))
    (apply : List Byte → State → State) (ha : ∀ body, (apply body s).counters = s.counters) :
    s.CountsOn (s.tableRow kind fault (applyFront apply)) :=
  s.tableRow_countsOn kind fault _ fun _ body => ha body

theorem State.streamRow_countsOn (s : State) (kind : Nat) (fault : List Byte → Option (Nat × Nat))
    (read : List Byte → StreamTable) : s.CountsOn (s.tableRow kind fault (queueStream read)) :=
  s.tableRow_countsOn kind fault _ fun _ _ => rfl

/-- R11: END of a record of no kind. -/
theorem State.endTable_countsOn (s : State) (h : Hand) : s.CountsOn (s.endTable h noFault fun _ v => v) := by
  unfold State.endTable
  split
  · exact s.refuse_countsOn _ _ _ _
  · exact .refl s

theorem State.endQuery_countsOn (s : State) (h : Hand) (answer : State → State)
    (ha : (answer s).counters = s.counters) : s.CountsOn (s.endQuery h answer) := by
  unfold State.endQuery
  split
  · exact s.refuse_countsOn _ _ _ _
  · exact .of_counters ha

/-- R12: END of a QUERY. -/
theorem State.queryRow_countsOn (s : State) (sel : Nat) (answer : Hand → State → State)
    (ha : ∀ h, (answer h s).counters = s.counters) : s.CountsOn (s.queryRow sel answer) :=
  s.endRow_countsOn _ _ fun h => s.endQuery_countsOn h _ (ha h)

theorem State.noticesRead_counters (s : State) : s.noticesRead.counters = s.counters := by
  unfold State.noticesRead
  split <;> rfl

/-! ### The composer -/

theorem State.withSheet_countsOn (s : State) (work : State → State) (hw : ∀ u : State, u.CountsOn (work u)) :
    s.CountsOn (s.withSheet work) := by
  unfold State.withSheet
  split
  · exact hw s
  · split
    · exact (State.CountsOn.of_counters s.openSheet_counters).trans (hw _)
    · exact .of_counters rfl

/-- R82, R84: a judgement counts its verdict. -/
theorem State.judgeLine_countsOn (s : State) (text : Text) : s.CountsOn (s.judgeLine text) := by
  have hkeys : s.CountsOn { s with keys := s.keys.afterLine text } := .of_counters rfl
  unfold State.judgeLine
  cases s.keys.verdict text with
  | unkeyed => exact hkeys
  | first => exact hkeys.trans (State.count_countsOn _ _ _)
  | inOrder => exact hkeys.trans (State.count_countsOn _ _ _)
  | duplicate => exact (hkeys.trans (State.count_countsOn _ _ _)).trans (State.count_countsOn _ _ _)
  | outOfOrder => exact ((hkeys.trans (State.count_countsOn _ _ _)).trans (State.count_countsOn _ _ _)).of_eq rfl

/-- R95: a line clipped counts. -/
theorem State.addOrClip_countsOn (s : State) (p : PlacedEntry) (v : Verdict) : s.CountsOn (s.addOrClip p v) := by
  unfold State.addOrClip
  split
  · exact .refl s
  · split
    · exact s.count_countsOn _ _
    · exact .of_counters rfl

/-- R106: the lines counted at a closing. -/
theorem State.countFits_countsOn (s : State) (ls : List Line) : s.CountsOn (s.countFits ls) :=
  (s.count_countsOn _ _).trans (State.count_countsOn _ _ _)

/-- R121: a commitment counts its lines and the sheet. -/
theorem State.closeSheet_countsOn (s : State) (sh : Sheet) : s.CountsOn (s.closeSheet sh) :=
  ((s.countFits_countsOn _).trans (State.count_countsOn _ _ _)).of_eq (s.closeSheet_counters sh)

theorem State.flush_countsOn (s : State) : s.CountsOn s.flush := by
  unfold State.flush
  split
  · exact .refl s
  · exact s.closeSheet_countsOn _

theorem State.closeColumn_countsOn (s : State) : s.CountsOn s.closeColumn := by
  unfold State.closeColumn
  split
  · exact .refl s
  · exact (s.countFits_countsOn _).of_eq rfl

theorem State.afterColumn_countsOn (s : State) : s.CountsOn s.afterColumn := by
  unfold State.afterColumn
  split
  · exact .refl s
  · split
    · exact s.closeSheet_countsOn _
    · exact .of_counters rfl

/-- R116: a layer-1 line counts its verdict, a clipping, and the line placed. -/
theorem State.placeJudged_countsOn (s : State) (p : PlacedEntry) : s.CountsOn (s.placeJudged p) :=
  s.withSheet_countsOn _ fun u => by
    have hbound : u.CountsOn (u.bind p.form p.length p.pitch) := .of_counters (u.bind_counters _ _ _)
    exact (((hbound.trans (State.judgeLine_countsOn _ _)).trans (State.addOrClip_countsOn _ _ _)).trans
      (State.count_countsOn _ _ _)).of_eq rfl

theorem State.placeUnjudged_countsOn (s : State) (p : PlacedEntry) : s.CountsOn (s.placeUnjudged p) :=
  s.withSheet_countsOn _ fun u => by
    have hbound : u.CountsOn (u.bind p.form p.length p.pitch) := .of_counters (u.bind_counters _ _ _)
    exact ((hbound.trans (State.addOrClip_countsOn _ _ _)).trans (State.count_countsOn _ _ _)).of_eq rfl

/-- R118: a merge counts itself and the line placed. -/
theorem State.merge_countsOn (s : State) (p : PlacedEntry) : s.CountsOn (s.merge p) :=
  ((s.count_countsOn .overstrikeMerges 1).trans (State.count_countsOn _ .placedLines 1)).of_eq rfl

theorem State.closeForm_countsOn (s : State) (f : FormEndMark) : s.CountsOn (s.closeForm f) :=
  s.withSheet_countsOn _ fun u => by
    have hbound : u.CountsOn (u.bind f.form f.length f.pitch) := .of_counters (u.bind_counters _ _ _)
    exact ((hbound.trans (State.closeColumn_countsOn _)).trans (State.afterColumn_countsOn _)).of_eq rfl

theorem workPlacedLine_countsOn (x : Entry) (s : State) : s.CountsOn (workPlacedLine x s) := by
  unfold workPlacedLine
  split
  · split
    · exact s.placeJudged_countsOn _
    · exact .refl s
  all_goals exact .refl s

theorem workMerge_countsOn (x : Entry) (s : State) : s.CountsOn (workMerge x s) := by
  unfold workMerge
  split
  · split
    · exact s.merge_countsOn _
    · exact .refl s
  all_goals exact .refl s

theorem workOwnLine_countsOn (x : Entry) (s : State) : s.CountsOn (workOwnLine x s) := by
  unfold workOwnLine
  split
  · split
    · exact s.placeUnjudged_countsOn _
    · exact .refl s
  all_goals exact .refl s

theorem workFormEnd_countsOn (x : Entry) (s : State) : s.CountsOn (workFormEnd x s) := by
  unfold workFormEnd
  split
  · exact s.closeForm_countsOn _
  all_goals exact .refl s

theorem workSyncMarker_countsOn (x : Entry) (s : State) : s.CountsOn (workSyncMarker x s) := by
  unfold workSyncMarker
  split
  · exact s.flush_countsOn.of_eq (State.markerTaken_counters _)
  all_goals exact .refl s

theorem workSheetPlan_countsOn (x : Entry) (s : State) : s.CountsOn (workSheetPlan x s) := by
  unfold workSheetPlan
  split
  · exact s.flush_countsOn.of_eq rfl
  all_goals exact .refl s

theorem workCollation_countsOn (x : Entry) (s : State) : s.CountsOn (workCollation x s) := by
  unfold workCollation
  split <;> exact .of_counters rfl

theorem workFieldLayout_countsOn (x : Entry) (s : State) : s.CountsOn (workFieldLayout x s) := by
  unfold workFieldLayout
  split <;> exact .of_counters rfl

theorem workKeyReset_countsOn (x : Entry) (s : State) : s.CountsOn (workKeyReset x s) := by
  unfold workKeyReset
  split <;> exact .of_counters rfl

theorem State.atHead_countsOn (s : State) (work : Entry → State → State) (hw : ∀ x, s.CountsOn (work x s)) :
    s.CountsOn (s.atHead work) := s.atHead_of work (.refl s) hw

/-! ### The engines' frames and the timers -/

theorem State.modLink_countsOn (s : State) (e : Engine) (f : Link → Link) : s.CountsOn (s.modLink e f) :=
  (s.modLink_linksOnly e f).countsOn

theorem State.returnAll_countsOn (s : State) (e : Engine) : s.CountsOn (s.returnAll e) :=
  (s.returnAll_onlyAtLink e).countsOn

theorem State.leaveWork_countsOn (s : State) (e : Engine) (target : Link → Link) : s.CountsOn (s.leaveWork e target) :=
  (s.leaveWork_linksOnly e target).countsOn

theorem State.idleFrame_countsOn (s : State) (e : Engine) : s.CountsOn (s.idleFrame e) := by
  unfold State.idleFrame
  split
  iterate 4 exact s.modLink_countsOn e _
  all_goals exact .refl s

/-- R176: a stray TAKEN counts. -/
theorem State.takenFrame_countsOn (s : State) (e : Engine) (seq : Word16) : s.CountsOn (s.takenFrame e seq) := by
  have hheard := s.modLink_countsOn e Link.heard
  unfold State.takenFrame
  simp only
  split
  · exact .refl s
  · split
    · split
      · exact hheard.trans (State.modLink_countsOn _ e _)
      · exact hheard
    · exact hheard.trans (State.count_countsOn _ _ _)

/-- R134, R174: the releases count the sheets stacked. -/
theorem State.releaseThrough_countsOn (s : State) (e : Engine) (seq : Word16) : s.CountsOn (s.releaseThrough e seq) :=
  (s.count_countsOn (stackedCounter e) _).of_eq (State.foldl_release_counters e _ s)

theorem State.releaseCovered_countsOn (s : State) (e : Engine) (last : Option Word16) :
    s.CountsOn (s.releaseCovered e last) := by
  unfold State.releaseCovered
  split
  · exact .refl s
  · split
    · exact s.releaseThrough_countsOn e _
    · exact .refl s

theorem State.afterRelease_countsOn (s : State) (e : Engine) : s.CountsOn (s.afterRelease e) := by
  unfold State.afterRelease
  split
  · exact s.leaveWork_countsOn e _
  · exact .refl s

theorem State.stackedFrame_countsOn (s : State) (e : Engine) (seq : Word16) : s.CountsOn (s.stackedFrame e seq) := by
  have hheard := s.modLink_countsOn e Link.heard
  unfold State.stackedFrame
  simp only
  split
  · exact .refl s
  · split
    · exact ((hheard.trans (State.releaseThrough_countsOn _ e seq)).trans (State.modLink_countsOn _ e _)).trans
        (State.afterRelease_countsOn _ e)
    · exact hheard.trans (State.count_countsOn _ _ _)

theorem State.stopFrame_countsOn (s : State) (e : Engine) (cause : StopCause) : s.CountsOn (s.stopFrame e cause) := by
  have hheard := s.modLink_countsOn e Link.heard
  unfold State.stopFrame
  simp only
  split
  · exact (hheard.trans (State.returnAll_countsOn _ e)).trans (State.leaveWork_countsOn _ e _)
  · exact hheard.trans (State.modLink_countsOn _ e _)
  · exact hheard.trans (State.modLink_countsOn _ e _)
  all_goals exact .refl s

theorem State.jamFrame_countsOn (s : State) (e : Engine) (last : Option Word16) : s.CountsOn (s.jamFrame e last) := by
  have hheard := s.modLink_countsOn e Link.heard
  unfold State.jamFrame
  simp only
  split
  · exact ((hheard.trans (State.releaseCovered_countsOn _ e last)).trans (State.returnAll_countsOn _ e)).trans
      (State.leaveWork_countsOn _ e _)
  · exact hheard.trans (State.modLink_countsOn _ e _)
  · exact hheard.trans (State.modLink_countsOn _ e _)
  all_goals exact .refl s

theorem State.readyFrame_countsOn (s : State) (e : Engine) : s.CountsOn (s.readyFrame e) := by
  unfold State.readyFrame
  split
  · exact (s.modLink_countsOn e _).of_eq rfl
  · exact s.modLink_countsOn e _
  · exact s.modLink_countsOn e _
  all_goals exact .refl s

theorem State.sendSheetEnd_countsOn (s : State) (e : Engine) : s.CountsOn (s.sendSheetEnd e) := by
  unfold State.sendSheetEnd
  split
  · exact .refl s
  · exact s.modLink_countsOn e _

theorem State.repeatOffer_countsOn (s : State) (e : Engine) : s.CountsOn (s.repeatOffer e) := by
  unfold State.repeatOffer
  split
  iterate 2 exact s.modLink_countsOn e _
  all_goals exact .refl s

theorem State.ackWindowEnds_countsOn (s : State) (e : Engine) : s.CountsOn (s.ackWindowEnds e) := by
  unfold State.ackWindowEnds
  split
  · exact s.modLink_countsOn e _
  · exact .refl s

theorem State.settleEnds_countsOn (s : State) (e : Engine) : s.CountsOn (s.settleEnds e) := by
  unfold State.settleEnds
  split
  · exact s.modLink_countsOn e _
  · exact .refl s

theorem State.linkLost_countsOn (s : State) (e : Engine) : s.CountsOn (s.linkLost e) := by
  unfold State.linkLost
  simp only
  split
  · split <;> exact (s.returnAll_countsOn e).trans (State.modLink_countsOn _ e _)
  · exact .refl s

theorem State.breakEnds_countsOn (s : State) (e : Engine) : s.CountsOn (s.breakEnds e) := by
  unfold State.breakEnds
  split
  · exact s.modLink_countsOn e _
  · exact .refl s

/-- R173, R175: a timeout, when its timer runs. -/
theorem State.timeout_countsOn (s : State) (e : Engine) (runs : Bool) :
    s.CountsOn (if runs then (s.timedOut e).failover else s) := by
  split
  · exact ((s.returnAll_countsOn e).trans (State.leaveWork_countsOn _ e _)).trans (State.failover_linksOnly _).countsOn
  · exact .refl s

/-! ### Every command -/

theorem State.run_countsOn {s t : State} {f : State → State} (hx : s.run f = .next t)
    (hf : ∀ u : State, u.CountsOn (f u)) : s.CountsOn t := by
  cases hx
  exact s.takeDue_countsOn.trans (hf _)

/-- Settling the notices writes no counter. -/
theorem State.runNoticed_countsOn {s t : State} {f : State → State} (hx : s.runNoticed f = .next t)
    (hf : ∀ u : State, u.CountsOn (f u)) : s.CountsOn t := by
  cases hx
  exact (s.takeDue_countsOn.trans (hf _)).of_eq (State.settleNotices_counters _ _)

/-- An event at a link with its failover check. -/
theorem State.runFailover_countsOn {s t : State} {f : State → State}
    (hx : (s.runNoticed fun q => (f q).failover) = .next t) (hf : ∀ u : State, u.CountsOn (f u)) : s.CountsOn t :=
  State.runNoticed_countsOn hx fun u => (hf u).trans (State.failover_linksOnly _).countsOn

/-- R200: no command but HARDWARE_RESET and COUNTER CLEAR lowers a counter. -/
theorem exec_countsOn (c : Instr) (s t : State) (hx : exec c s = .next t) (hr : ∀ straps, c ≠ .hardwareReset straps)
    (hc : c ≠ .tableCounterClear) : s.CountsOn t := by
  cases c
  all_goals dsimp only [exec] at hx
  case orderByte a u d p => exact State.run_countsOn hx fun v => v.orderByteStrobed_countsOn a u d p
  case orderAccept =>
    cases hx
    exact s.takeOwed_countsOn.trans (State.acceptWaiting_countsOn _)
  case dataByte d p => exact State.run_countsOn hx fun v => v.dataByteStrobed_countsOn d p
  case unknownOrder => exact State.run_countsOn hx fun v => v.endRow_countsOn _ _ fun _ => .refl v
  case print => exact State.run_countsOn hx fun v => v.endRow_countsOn _ _ v.endPrint_countsOn
  case move => exact State.run_countsOn hx fun v => v.endRow_countsOn _ _ v.endMove_countsOn
  case sync => exact State.run_countsOn hx fun v => v.endRow_countsOn _ _ fun _ => .of_counters rfl
  case syncDone => cases hx; exact s.syncCompletes_countsOn
  case engineStopped => cases hx; exact s.syncFails_countsOn
  case tableCharacterMap => exact State.run_countsOn hx fun v => v.frontRow_countsOn _ _ _ fun _ => rfl
  case tableForms =>
    exact State.run_countsOn hx fun v => v.frontRow_countsOn _ _ _ fun _ => by rw [State.loadForms_eq]
  case tableCollation => exact State.run_countsOn hx fun v => v.streamRow_countsOn _ _ _
  case tableFieldLayout => exact State.run_countsOn hx fun v => v.streamRow_countsOn _ _ _
  case tableKeyReset => exact State.run_countsOn hx fun v => v.streamRow_countsOn _ _ _
  case tableSheetPlan => exact State.run_countsOn hx fun v => v.streamRow_countsOn _ _ _
  case tableLinkSettings =>
    exact State.run_countsOn hx fun v => v.frontRow_countsOn _ _ _ fun _ => by rw [v.applySettings_linksOnly]
  case tableNoticeControl => exact State.run_countsOn hx fun v => v.frontRow_countsOn _ _ _ fun _ => rfl
  case tableNoticeClear => exact State.run_countsOn hx fun v => v.frontRow_countsOn _ _ _ fun _ => rfl
  case tableUnit => exact State.run_countsOn hx fun v => v.frontRow_countsOn _ _ _ fun _ => rfl
  case tableCounterClear => exact absurd rfl hc
  case tableReset => exact State.run_countsOn hx fun v => v.tableRow_countsOn _ _ _ fun _ _ => rfl
  case tableKindUnknown => exact State.run_countsOn hx fun v => v.endRow_countsOn _ _ v.endTable_countsOn
  case queryCondition => exact State.run_countsOn hx fun v => v.queryRow_countsOn _ _ fun _ => rfl
  case queryCheck => exact State.run_countsOn hx fun v => v.queryRow_countsOn _ _ fun _ => rfl
  case queryNotices => exact State.run_countsOn hx fun v => v.queryRow_countsOn _ _ fun _ => v.noticesRead_counters
  case queryCounters => exact State.run_countsOn hx fun v => v.queryRow_countsOn _ _ fun _ => rfl
  case queryTable => exact State.run_countsOn hx fun v => v.queryRow_countsOn _ _ fun _ => rfl
  case queryEngine => exact State.run_countsOn hx fun v => v.queryRow_countsOn _ _ fun _ => rfl
  case queryRing => exact State.run_countsOn hx fun v => v.queryRow_countsOn _ _ fun _ => rfl
  case selectorNamingNothing =>
    exact State.run_countsOn hx fun v => v.endRow_countsOn _ _ fun h => v.endQuery_countsOn h _ rfl
  case replyTaken => exact State.run_countsOn hx State.replyTakenSignal_countsOn
  case clear => exact State.run_countsOn hx fun _ => .of_counters rfl
  case lineReset => exact State.run_countsOn hx fun _ => .of_counters rfl
  case hardwareReset straps => exact absurd rfl (hr straps)
  case owedFormEnd => cases hx; exact s.takeOwed_countsOn
  case placedLine => exact State.runNoticed_countsOn hx fun v => v.atHead_countsOn _ fun x => workPlacedLine_countsOn x v
  case overstrikeMerge => exact State.runNoticed_countsOn hx fun v => v.atHead_countsOn _ fun x => workMerge_countsOn x v
  case lineOfItsOwn => exact State.runNoticed_countsOn hx fun v => v.atHead_countsOn _ fun x => workOwnLine_countsOn x v
  case formEnd => exact State.runNoticed_countsOn hx fun v => v.atHead_countsOn _ fun x => workFormEnd_countsOn x v
  case syncMarker => exact State.runNoticed_countsOn hx fun v => v.atHead_countsOn _ fun x => workSyncMarker_countsOn x v
  case sheetPlanEntry =>
    exact State.runNoticed_countsOn hx fun v => v.atHead_countsOn _ fun x => workSheetPlan_countsOn x v
  case collationEntry => exact State.run_countsOn hx fun v => v.atHead_countsOn _ fun x => workCollation_countsOn x v
  case fieldLayoutEntry => exact State.run_countsOn hx fun v => v.atHead_countsOn _ fun x => workFieldLayout_countsOn x v
  case keyResetEntry => exact State.run_countsOn hx fun v => v.atHead_countsOn _ fun x => workKeyReset_countsOn x v
  case grant => cases hx; exact s.windowsDue_linksOnly.countsOn.trans (State.grantOnce_countsOn _)
  case sheetEnd e => exact State.run_countsOn hx fun v => v.sendSheetEnd_countsOn e
  case offer e m a => exact State.runFailover_countsOn hx fun v => (v.offerFrame_onlyAtLink e m a).countsOn
  case idle e => exact State.run_countsOn hx fun v => v.idleFrame_countsOn e
  case taken e q => exact State.run_countsOn hx fun v => v.takenFrame_countsOn e q
  case stacked e q => exact State.runFailover_countsOn hx fun v => v.stackedFrame_countsOn e q
  case stop e cause =>
    unfold execStop at hx
    split at hx
    · exact State.runFailover_countsOn hx fun v => v.stopFrame_countsOn e cause
    · cases hx
  case jam e last => exact State.runFailover_countsOn hx fun v => v.jamFrame_countsOn e last
  case ready e => exact State.runFailover_countsOn hx fun v => v.readyFrame_countsOn e
  case offerRepeat e => exact State.run_countsOn hx fun v => v.repeatOffer_countsOn e
  case offerWindow e => exact State.runFailover_countsOn hx fun v => (v.offerWindowEnds_atLink e).countsOn
  case acknowledgementWindow e => exact State.runNoticed_countsOn hx fun v => v.ackWindowEnds_countsOn e
  case settleTimer e => exact State.runFailover_countsOn hx fun v => v.settleEnds_countsOn e
  case silenceTimer e => exact State.runFailover_countsOn hx fun v => v.linkLost_countsOn e
  case breakEnd e => exact State.runNoticed_countsOn hx fun v => v.breakEnds_countsOn e
  case takenTimeout e => exact State.runNoticed_countsOn hx fun v => v.timeout_countsOn e _
  case stackedTimeout e q => exact State.runNoticed_countsOn hx fun v => v.timeout_countsOn e _
  case tick => exact State.run_countsOn hx fun _ => .of_counters rfl
  case windowShort e => cases hx; exact (s.windowShort_linksOnly e).countsOn
  case windowMet e => cases hx; exact (s.windowMet_linksOnly e).countsOn
  case burstTimer => exact State.run_countsOn hx fun _ => .of_counters rfl
  case callPattern => exact State.run_countsOn hx fun _ => .of_counters rfl

/-- Settles O53: a count by what it writes, and every command by what it counts. -/
theorem countersNeverDecrease : Obligations.CountersNeverDecrease := by
  unfold Obligations.CountersNeverDecrease
  exact ⟨countUp_toNat, fun s k d n => ⟨rfl, s.counter_count k d n⟩, fun c s t hx hr hc => exec_countsOn c s t hx hr hc⟩

end Sys2Proof.Machine
end

section
/-! PROOFS. The order byte, the motion byte and the reply byte; and QUERY NOTICES. -/

namespace Sys2Proof.Machine

/-! ### The order byte (R208) -/

theorem orderNamed_of_none (b : Byte) (hp : b ≠ 80) (hm : b ≠ 77) (ht : b ≠ 84) (hq : b ≠ 81) (hs : b ≠ 83) :
    orderNamed b = none := by
  simp only [orderNamed, hp, hm, ht, hq, hs, if_false]

/-- R3, R208: a byte that names no order is accepted at once. -/
theorem State.takeOrderByte_of_unnamed (s : State) (d : Byte) (p : Bool) (hp : parityGood d p = true)
    (hk : orderNamed d = none) : s.takeOrderByte d p = s.setPortAccept (.takingData (newHand d none none)) true := by
  simp [State.takeOrderByte, hp, hk]

/-- R9: END refuses an order byte that names no order. -/
theorem State.judge_of_unnamed (s : State) (h : Hand) (own : State → State) (he : h.parityError = none)
    (hk : h.kind = none) : s.judge h own = s.refuse h .order none 0 := by
  simp only [State.judge, he, hk]

theorem exec_unknownOrder (s : State) :
    exec .unknownOrder s = s.run fun q => q.atEnd (fun h => h.kind == none) fun h t => t.judge h id := rfl

/-- Settles O9: the bytes by the definition, the byte taken up and its refusal by the two lemmas above. -/
theorem orderBytesNameTheOrders : Obligations.OrderBytesNameTheOrders := by
  unfold Obligations.OrderBytesNameTheOrders
  refine ⟨rfl, rfl, rfl, rfl, rfl, orderNamed_of_none, fun s d p hq hi hp hk => ?_, fun s h hq hp hk he => ?_⟩
  · rw [s.exec_orderByte_idle d p hq hi, s.takeOrderByte_of_unnamed d p hp hk]
    rfl
  · apply State.exists_refusedAs
    rw [exec_unknownOrder, s.run_atEnd_of_mine _ _ h hq hp (by simp [hk]), s.judge_of_unnamed h id he hk]

/-! ### The reply byte (R210) -/

/-- A flag of a byte stands for its weight. -/
theorem ite_eq_mul_toNat (b : Bool) (n : Nat) : (if b then n else 0) = n * b.toNat := by cases b <;> simp

/-- R210: the kind in bits 0 and 1, and the three flags in bits 2, 3 and 4. -/
theorem Reply.toByte_toNat (r : Reply) :
    r.toByte.toNat =
      (match r.kind with
        | .done => 0
        | .check => 1
        | .notReady => 2) +
        (if r.formsEnd then 4 else 0) + (if r.notice then 8 else 0) + (if r.clamped then 16 else 0) := by
  have hforms := r.formsEnd.toNat_le
  have hnotice := r.notice.toNat_le
  have hclamped := r.clamped.toNat_le
  rw [ite_eq_mul_toNat, ite_eq_mul_toNat, ite_eq_mul_toNat]
  unfold Reply.toByte
  cases r.kind <;> exact byteOf_toNat _ (by simp only; omega)

/-! ### The motion byte (R209) -/

/-- R209: the bytes that encode a motion, and the motion of each. -/
theorem motionOf_eq_some_iff (b : Byte) (m : Motion) :
    motionOf b = some m ↔
      b.getLsbD 4 = false ∧ m.after = b.getLsbD 7 ∧
        ((b.toNat / 32 % 4 = 0 ∧ b.toNat % 16 ≤ 3 ∧ m.action = .space (b.toNat % 16)) ∨
          (b.toNat / 32 % 4 = 1 ∧ 1 ≤ b.toNat % 16 ∧ b.toNat % 16 ≤ 12 ∧ m.action = .skip (b.toNat % 16))) := by
  obtain ⟨after, action⟩ := m
  unfold motionOf
  cases b.getLsbD 4 with
  | true => simp
  | false =>
    simp only [Bool.false_eq_true, if_false]
    split
    · next h => simp [h, eq_comm, and_left_comm]
    · next h => simp [h, eq_comm, and_left_comm, and_assoc]
    · next h0 h1 =>
      refine iff_of_false (fun h => nomatch h) ?_
      rintro ⟨-, -, ⟨h, -⟩ | ⟨h, -⟩⟩
      · exact h0 h
      · exact h1 h

/-- The action looks at bits 0 to 6 alone. -/
theorem motionOf_action_congr {b c : Byte} (h4 : b.getLsbD 4 = c.getLsbD 4) (hoperand : b.toNat % 16 = c.toNat % 16)
    (haction : b.toNat / 32 % 4 = c.toNat / 32 % 4) :
    (motionOf b).map (fun m => m.action) = (motionOf c).map fun m => m.action := by
  simp only [motionOf, h4, hoperand, haction]
  cases c.getLsbD 4 with
  | true => rfl
  | false =>
    simp only [Bool.false_eq_true, if_false]
    split
    · split <;> rfl
    · split <;> rfl
    · rfl

/-- R209: bit 7 is the timing, which the action does not look at. -/
theorem motionOf_action_xor_bit7 (b : Byte) :
    (motionOf (b ^^^ 128)).map (fun m => m.action) = (motionOf b).map fun m => m.action := by
  have hx : (b ^^^ 128).toNat = b.toNat ^^^ 2 ^ 7 := rfl
  refine motionOf_action_congr ?_ ?_ ?_
  · rw [BitVec.getLsbD_xor, show (128 : Byte).getLsbD 4 = false from rfl, Bool.xor_false]
  · rw [hx, show (16 : Nat) = 2 ^ 4 from rfl, Nat.xor_mod_two_pow]
    simp
  · rw [hx, show (32 : Nat) = 2 ^ 5 from rfl, Nat.xor_div_two_pow, show (4 : Nat) = 2 ^ 2 from rfl, Nat.xor_mod_two_pow]
    simp

theorem motionOrFault_of_no_motion (t : FormsTable) (b : Byte) (rest : List Byte) (hm : motionOf b = none) :
    motionOrFault t (b :: rest) = .error (.motion, some 1, b.toNat) := by
  simp only [motionOrFault, hm]

/-- Settles O15: the two layouts by the lemmas above, and the refusal by that of the motion tests. -/
theorem motionAndReplyByteLayouts : Obligations.MotionAndReplyByteLayouts := by
  unfold Obligations.MotionAndReplyByteLayouts
  refine ⟨Reply.toByte_toNat, motionOf_eq_some_iff, fun c s h b hq hc hp hm he hb hn => ?_, motionOf_action_xor_bit7⟩
  obtain ⟨rest, hkept⟩ := List.head?_eq_some_iff.mp hb
  exact s.exec_of_motion_fault c h _ hq hp hm he hc (by rw [hkept, motionOrFault_of_no_motion _ b rest hn])

/-! ### QUERY NOTICES (R196, R203) -/

theorem exec_queryNotices (s : State) :
    exec .queryNotices s = s.run fun q => q.queryRow 3 fun h t => t.noticesRead.respond h t.noticeBytes := rfl

/-- R12: a selector of 3 names QUERY NOTICES, whatever follows it. -/
theorem Hand.selectorFault_of_isQuery_three (h : Hand) (hm : h.isQuery 3 = true) : selectorFault h.kept = none := by
  simp only [Hand.isQuery, Bool.and_eq_true, beq_iff_eq, Option.map_eq_some_iff] at hm
  obtain ⟨-, b, hb, h3⟩ := hm
  obtain ⟨rest, hkept⟩ := List.head?_eq_some_iff.mp hb
  obtain rfl : b = 3 := BitVec.eq_of_toNat_eq h3
  rw [hkept]
  exact selectorFault_of_alone 3 rest (by decide)

/-- R206: with nothing pending no class is shown. -/
theorem NoticeUnit.callLine_of_none_pending (n : NoticeUnit) (h : n.pending = 0) : n.callLine = false := by
  have hclass : ∀ k, ¬n.LiveClass k := fun k hk => by
    obtain ⟨x, -, hlive⟩ := (NoticeSet.and_ne_zero_iff _ _).mp hk
    rw [NoticeUnit.live, h, show (0 : NoticeSet) = 0#10 from rfl, inSet_and, inSet_empty, Bool.and_false] at hlive
    cases hlive
  refine n.callLine_of_none ?_
  rw [n.shownClass_eq, if_neg (hclass 1), if_neg (hclass 2), if_neg (hclass 3), if_neg (hclass 4)]

theorem State.noticesRead_of_latched (s : State) (h : s.notices.confirmed = false) :
    s.noticesRead = { s with notices := s.notices.setPending 0 } := by
  simp [State.noticesRead, h]

theorem State.noticesRead_of_confirmed (s : State) (h : s.notices.confirmed = true) : s.noticesRead = s := by
  simp [State.noticesRead, h]

/-- R203: a read reaches the pending set, and what the call line shows of it, alone. -/
theorem State.noticesRead_eq (s : State) : s.noticesRead = { s with notices := s.noticesRead.notices } := by
  unfold State.noticesRead
  split <;> rfl

theorem State.noticesRead_mode (s : State) :
    s.noticesRead.notices.mask = s.notices.mask ∧ s.noticesRead.notices.confirmed = s.notices.confirmed := by
  unfold State.noticesRead
  split <;> exact ⟨rfl, rfl⟩

/-- R196: the bytes of QUERY NOTICES, field by field. -/
theorem State.noticeBytes_spec (s : State) :
    wordAt s.noticeBytes 0 = s.notices.pending.toNat ∧ wordAt s.noticeBytes 2 = s.notices.mask.toNat ∧
      byteAt s.noticeBytes 4 = s.notices.confirmed.toNat ∧ wordAt s.noticeBytes 5 = s.conditions.toNat := by
  have hpending := s.notices.pending.isLt
  have hmask := s.notices.mask.isLt
  have hconditions := s.conditions.isLt
  exact ⟨wordAt_be16 _ (by omega) [], wordAt_be16 _ (by omega) [], flagByte_toNat _, wordAt_be16 _ (by omega) []⟩

/-- Settles O28: the snapshot by its bytes, and the read by the clearing mode. -/
theorem queryNoticesReadsAndClears : Obligations.QueryNoticesReadsAndClears := by
  unfold Obligations.QueryNoticesReadsAndClears
  intro s h hq hp he hm
  obtain ⟨hmask, hmode⟩ := s.noticesRead_mode
  refine ⟨s.noticesRead.respond h s.noticeBytes, ?_, ?_, hmask, hmode, fun hl => ?_, fun hc => ?_, s.noticeBytes_spec⟩
  · rw [exec_queryNotices, s.run_of_quiet _ hq,
      s.queryRow_good h 3 _ hp hm he (h.selectorFault_of_isQuery_three hm)]
  · rw [s.noticesRead_eq]
    rfl
  · rw [s.noticesRead_of_latched hl]
    exact ⟨rfl, NoticeUnit.callLine_of_none_pending _ rfl⟩
  · rw [s.noticesRead_of_confirmed hc]
    rfl

end Sys2Proof.Machine
end

section
/-! PROOFS. The record that QUERY TABLE reports: its framing, its range tests and the table it reads back as, kind by kind. -/

namespace Sys2Proof.Machine

/-! ### The framing of a report (R197) -/

/-- R189, R197: a report whose body has the length of its kind is well framed. -/
theorem State.framingFault_tableBytes (s : State) (kind : Nat) (h1 : 1 ≤ kind) (h12 : kind ≤ 12)
    (hl : (s.tableBody kind).length ≤ 65535) (hg : bodyLengthGood (byteOf kind) (s.tableBody kind).length = true) :
    framingFault (s.tableBytes kind) = none := by
  have hkind : (byteOf kind).toNat = kind := byteOf_toNat kind (by omega)
  have hlength : (s.tableBody kind).length =
      (byteOf ((s.tableBody kind).length / 256)).toNat * 256 + (byteOf (s.tableBody kind).length).toNat :=
    (wordAt_be16 _ hl []).symm
  show framingFault (byteOf kind :: byteOf _ :: byteOf _ :: s.tableBody kind) = none
  rw [framingFault_of_named _ _ _ _ (by omega) (by omega), if_neg (not_not.mpr hlength), if_neg (by simp [hg])]

/-- R197: the body of a report stands after its header. -/
theorem State.tableBytes_drop (s : State) (kind : Nat) : (s.tableBytes kind).drop 3 = s.tableBody kind := rfl

/-! ### CHARACTER MAP (R44, R45) -/

theorem MapEntry.toByte_le (x : MapEntry) : x.toByte.toNat ≤ 241 := by
  cases x with
  | glyph g =>
    show (byteOf g.val).toNat ≤ 241
    rw [byteOf_toNat _ (by omega)]
    omega
  | blank => decide
  | unprintable => decide

/-- R44: an entry reads back from its byte. -/
theorem mapEntryOf_toByte (x : MapEntry) : mapEntryOf x.toByte.toNat = x := by
  cases x with
  | glyph g =>
    show mapEntryOf (byteOf g.val).toNat = .glyph g
    rw [byteOf_toNat _ (by omega), mapEntryOf_glyph]
  | blank => rfl
  | unprintable => rfl

section
variable (m : CharMap)

theorem CharMap.toBody_length : m.toBody.length = 258 := by simp [CharMap.toBody]

theorem CharMap.toBody_substitute : byteAt m.toBody 1 = m.substitute.val := byteOf_toNat _ (by omega)

theorem CharMap.toBody_entry (k : Nat) (hk : k < 256) : byteAt m.toBody (2 + k) = (m.entries[k]).toByte.toNat := by
  show ((byteOf _ :: byteOf _ :: m.entries.toList.map MapEntry.toByte).getD (2 + k) 0).toNat = _
  rw [Nat.add_comm]
  simp [hk]

/-- R44: the action stands in the first byte. -/
theorem CharMap.toBody_action :
    byteAt m.toBody 0 = match m.action with
      | .blank => 0
      | .mark => 1
      | .refuse => 2 := by
  show (byteOf _).toNat = _
  cases m.action <;> rfl

theorem CharMap.charMapFault_toBody : charMapFault m.toBody = none := by
  have haction : byteAt m.toBody 0 ≤ 2 := by
    rw [m.toBody_action]
    split <;> omega
  rw [charMapFault_entries _ haction (by rw [m.toBody_substitute]; omega)]
  refine firstFault_range_none 256 _ fun k hk => decide_eq_false ?_
  rw [m.toBody_entry k hk]
  have hle := MapEntry.toByte_le m.entries[k]
  omega

theorem CharMap.charMapOf_toBody : charMapOf m.toBody = m := by
  have haction : (charMapOf m.toBody).action = m.action := by
    simp only [charMapOf, m.toBody_action]
    cases m.action <;> rfl
  have hsubstitute : (charMapOf m.toBody).substitute = m.substitute :=
    Fin.ext ((charMapOf_substitute _ (by rw [m.toBody_substitute]; omega)).trans m.toBody_substitute)
  have hentries : (charMapOf m.toBody).entries = m.entries := Vector.ext fun k hk => by
    simp only [charMapOf, Vector.getElem_ofFn]
    rw [m.toBody_entry k hk, mapEntryOf_toByte]
  show CharMap.mk (charMapOf m.toBody).action (charMapOf m.toBody).substitute (charMapOf m.toBody).entries = m
  rw [haction, hsubstitute, hentries]

end

/-! ### FORMS (R22, R23, R41) -/

/-- R23: the stops read back from their bytes, in order. -/
theorem stopPairs_flatMap : ∀ stops : List Stop, (∀ st ∈ stops, st.line ≤ 255 ∧ st.channel ≤ 255) →
    stopPairs (stops.flatMap fun st => [byteOf st.line, byteOf st.channel]) = stops
  | [], _ => rfl
  | st :: rest, h => by
    obtain ⟨hline, hchannel⟩ := h st List.mem_cons_self
    have ih := stopPairs_flatMap rest fun u hu => h u (List.mem_cons_of_mem _ hu)
    show Stop.mk (byteOf st.line).toNat (byteOf st.channel).toNat ::
      stopPairs (rest.flatMap fun st => [byteOf st.line, byteOf st.channel]) = st :: rest
    rw [ih, byteOf_toNat _ hline, byteOf_toNat _ hchannel]

theorem pitchOf_toNat (p : LinePitch) : pitchOf p.toNat = some p := by cases p <;> rfl

theorem LinePitch.toNat_cases (p : LinePitch) : p.toNat = 6 ∨ p.toNat = 8 ∨ p.toNat = 10 := by cases p <;> decide

/-- An element of a list without repeats does not stand before itself. -/
theorem not_mem_take_of_nodup {α : Type} {l : List α} (h : l.Nodup) (j : Nat) (x : α) (hx : l[j]? = some x) :
    x ∉ l.take j := by
  obtain ⟨hj, rfl⟩ := List.getElem?_eq_some_iff.mp hx
  intro hm
  obtain ⟨i, hi, heq⟩ := List.mem_take_iff_getElem.mp hm
  have hij : i = j := (h.getElem_inj_iff).mp heq
  omega

section
variable {t : FormsTable}

theorem FormsTable.toBody_length (t : FormsTable) : t.toBody.length = 3 + 2 * t.stops.length := by
  rw [FormsTable.toBody, List.length_append, flatMap_length _ 2 fun _ => rfl]
  rfl

theorem FormsTable.valid.toBody_header (h : t.valid) :
    byteAt t.toBody 0 = t.length ∧ byteAt t.toBody 1 = t.pitch.toNat ∧ byteAt t.toBody 2 = t.endChannel.getD 0 := by
  obtain ⟨-, h144, -, -, -, -, hend⟩ := h
  have hpitch := t.pitch.toNat_cases
  have hchannel : t.endChannel.getD 0 ≤ 12 := by
    cases hc : t.endChannel with
    | none => simp
    | some c =>
      obtain ⟨-, h12, -⟩ := hend c hc
      exact h12
  exact ⟨byteOf_toNat _ (by omega), byteOf_toNat _ (by omega), byteOf_toNat _ (by omega)⟩

theorem FormsTable.valid.toBody_stops (h : t.valid) : stopPairs (t.toBody.drop 3) = t.stops := by
  obtain ⟨-, h144, -, -, -, hstops, -⟩ := h
  refine stopPairs_flatMap t.stops fun st hst => ?_
  obtain ⟨-, hline, -, hchannel⟩ := hstops st hst
  omega

theorem FormsTable.valid.formsFault_toBody (h : t.valid) : formsFault t.toBody = none := by
  obtain ⟨hlength, hpitch, hchannel⟩ := h.toBody_header
  have hpairs := h.toBody_stops
  obtain ⟨h12, h144, -, -, hnodup, hstops, hend⟩ := h
  have htests : firstFault (stopTests t.length 1 [] t.stops) = none :=
    firstFault_stopTests_all _ _ fun j u _ hu => by
      obtain ⟨hl1, hl, hc1, hc⟩ := hstops u (List.mem_of_getElem? hu)
      exact ⟨hl1, hl, hc1, hc, not_mem_take_of_nodup hnodup j u hu⟩
  have hle : t.endChannel.getD 0 ≤ 12 ∧
      ¬(t.endChannel.getD 0 ≠ 0 ∧ ∀ st ∈ t.stops, st.channel ≠ t.endChannel.getD 0) := by
    cases hc : t.endChannel with
    | none => simp
    | some c =>
      obtain ⟨-, hc12, st, hst, heq⟩ := hend c hc
      exact ⟨hc12, fun hn => hn.2 st hst heq⟩
  rw [formsFault_of_header _ (by omega) (by omega) (by rw [hpitch]; exact t.pitch.toNat_cases) (by omega), hpairs, hlength,
    hchannel, htests, Option.none_or, if_neg hle.2]

theorem FormsTable.valid.formsOf_toBody (h : t.valid) : formsOf t.toBody = t := by
  obtain ⟨hlength, hpitch, hchannel⟩ := h.toBody_header
  have hpairs := h.toBody_stops
  obtain ⟨-, -, -, -, -, -, hend⟩ := h
  have hread : (if t.endChannel.getD 0 = 0 then none else some (t.endChannel.getD 0)) = t.endChannel := by
    cases hc : t.endChannel with
    | none => rfl
    | some c =>
      obtain ⟨h1, -, -⟩ := hend c hc
      exact if_neg (by simp only [Option.getD_some]; omega)
  rw [formsOf, hlength, hpitch, hchannel, hpairs, hread, pitchOf_toNat]
  rfl

end

/-! ### COLLATION (R73, R88) -/

section
variable {c : Collation}

theorem collationBody_length (c : Collation) : (collationBody c).length = 240 := by simp [collationBody]

/-- R71, R88: a rank is a byte of at most 250, and IGNORE is 0. -/
theorem collationValid.rank_le (h : collationValid c) (g : Glyph) : (c.get g).getD 0 ≤ 250 := by
  cases hr : c.get g with
  | none => simp
  | some r =>
    obtain ⟨-, h250⟩ := h g r hr
    exact h250

theorem collationValid.body_byte (h : collationValid c) (g : Glyph) :
    byteAt (collationBody c) g.val = (c.get g).getD 0 := by
  have hle := h.rank_le g
  have hget : (collationBody c).getD g.val 0 = byteOf ((c.get g).getD 0) := by
    simp [collationBody, Vector.get_eq_getElem]
  rw [byteAt, hget, byteOf_toNat _ (by omega)]

theorem collationValid.collationFault_body (h : collationValid c) : collationFault (collationBody c) = none :=
  collationFault_none _ fun g hg => by
    rw [h.body_byte ⟨g, hg⟩]
    exact h.rank_le _

theorem collationValid.collationOf_body (h : collationValid c) : collationOf (collationBody c) = c := by
  have hget : ∀ g : Glyph, (collationOf (collationBody c)).get g = c.get g := fun g => by
    rw [collationOf_get, h.body_byte g]
    cases hr : c.get g with
    | none => rfl
    | some r =>
      obtain ⟨h1, -⟩ := h g r hr
      exact if_neg (by simp only [Option.getD_some]; omega)
  exact Vector.ext fun g hg => hget ⟨g, hg⟩

end

/-! ### FIELD LAYOUT (R76, R88) -/

/-- R75: the three bytes of the leader zone. -/
theorem FieldLayout.valid.toBody_zone {l : FieldLayout} (h : l.valid) (z : LeaderZone) (hz : l.zone = some z) :
    byteAt l.toBody 2 = z.first ∧ byteAt l.toBody 3 = z.last ∧ byteAt l.toBody 4 = z.glyph.val := by
  obtain ⟨-, -, -, -, -, hzone⟩ := h
  obtain ⟨-, hlt, hlast⟩ := hzone z hz
  have hglyph := z.glyph.isLt
  rw [FieldLayout.toBody, hz]
  exact ⟨byteOf_toNat _ (by omega), byteOf_toNat _ (by omega), byteOf_toNat _ (by omega)⟩

theorem FieldLayout.toBody_no_zone (l : FieldLayout) (hz : l.zone = none) :
    byteAt l.toBody 2 = 0 ∧ byteAt l.toBody 3 = 0 := by
  rw [FieldLayout.toBody, hz]
  exact ⟨rfl, rfl⟩

theorem FieldLayout.toBody_length (l : FieldLayout) : l.toBody.length = 5 := by
  unfold FieldLayout.toBody
  split <;> rfl

section
variable {l : FieldLayout}

theorem FieldLayout.valid.toBody_key (h : l.valid) :
    byteAt l.toBody 0 = l.keyStart ∧ byteAt l.toBody 1 = l.keyLength := by
  obtain ⟨-, hstart, -, hlength, -⟩ := h
  exact ⟨byteOf_toNat _ (by omega), byteOf_toNat _ (by omega)⟩

theorem FieldLayout.valid.layoutFault_toBody (h : l.valid) : layoutFault l.toBody = none := by
  obtain ⟨hstart, hlength⟩ := h.toBody_key
  have hsome := h.toBody_zone
  obtain ⟨hs1, hs, hl1, hl, hsum, hzone⟩ := h
  rw [layoutFault_eq]
  simp only [ite_some_eq_none_iff, and_true]
  cases hz : l.zone with
  | none =>
    obtain ⟨hfirst, hlast⟩ := l.toBody_no_zone hz
    omega
  | some z =>
    obtain ⟨hfirst, hlast, hglyph⟩ := hsome z hz
    obtain ⟨hf1, hlt, hl160⟩ := hzone z hz
    omega

theorem FieldLayout.valid.layoutOf_toBody (h : l.valid) : layoutOf l.toBody = l := by
  obtain ⟨hstart, hlength⟩ := h.toBody_key
  have hread : (layoutOf l.toBody).zone = l.zone := by
    cases hz : l.zone with
    | none =>
      obtain ⟨hfirst, -⟩ := l.toBody_no_zone hz
      exact if_pos hfirst
    | some z =>
      obtain ⟨hfirst, hlast, hglyph⟩ := h.toBody_zone z hz
      obtain ⟨-, -, -, -, -, hzone⟩ := h
      obtain ⟨hf1, -, -⟩ := hzone z hz
      simp only [layoutOf, hfirst, hlast, hglyph]
      rw [if_neg (by omega)]
      exact congrArg (fun g => some (LeaderZone.mk z.first z.last g)) (Fin.ext (Nat.mod_eq_of_lt z.glyph.isLt))
  show FieldLayout.mk (byteAt l.toBody 0) (byteAt l.toBody 1) (layoutOf l.toBody).zone = l
  rw [hstart, hlength, hread]

end

/-! ### SHEET PLAN (R90, R107, R110) -/

/-- R110: the marks read back from their byte. -/
theorem MarkSet.toByte_spec (m : MarkSet) : m.toByte.toNat ≤ 7 ∧ marksOf m.toByte.toNat = m := by
  obtain ⟨a, b, c⟩ := m
  revert a b c
  decide

/-- R90: where the fields of a plan stand in its body. -/
structure SheetPlan.Encoded (p : SheetPlan) (body : List Byte) : Prop where
  gang : byteAt body 0 = p.gang
  sheetWidth : wordAt body 1 = p.sheetWidth
  sheetHeight : wordAt body 3 = p.sheetHeight
  leftMargin : wordAt body 5 = p.leftMargin
  topMargin : wordAt body 7 = p.topMargin
  cellWidth : byteAt body 9 = p.cellWidth
  columnWidth : wordAt body 10 = p.columnWidth
  gutter : wordAt body 12 = p.gutter
  headerDepth : wordAt body 14 = p.headerDepth
  columnDepth : wordAt body 16 = p.columnDepth
  maxStep : byteAt body 18 = p.maxStep
  guideWidth : byteAt body 19 = p.guideWidth
  folio : wordAt body 20 = p.folioStart.getD 0
  marks : byteAt body 22 = p.marks.toByte.toNat

section
variable {p : SheetPlan}

theorem SheetPlan.valid.folio_le (h : p.valid) : p.folioStart.getD 0 ≤ 9999 := by
  obtain ⟨-, -, -, -, -, -, -, -, -, -, -, -, -, -, -, -, -, -, -, -, -, hfolio⟩ := h
  cases hf : p.folioStart with
  | none => simp
  | some n =>
    obtain ⟨-, h9999⟩ := hfolio n hf
    exact h9999

/-- R90, R107: the 23 bytes of a plan. -/
theorem SheetPlan.toBody_eq (p : SheetPlan) :
    p.toBody = [byteOf p.gang, byteOf (p.sheetWidth / 256), byteOf p.sheetWidth, byteOf (p.sheetHeight / 256),
      byteOf p.sheetHeight, byteOf (p.leftMargin / 256), byteOf p.leftMargin, byteOf (p.topMargin / 256),
      byteOf p.topMargin, byteOf p.cellWidth, byteOf (p.columnWidth / 256), byteOf p.columnWidth, byteOf (p.gutter / 256),
      byteOf p.gutter, byteOf (p.headerDepth / 256), byteOf p.headerDepth, byteOf (p.columnDepth / 256),
      byteOf p.columnDepth, byteOf p.maxStep, byteOf p.guideWidth, byteOf (p.folioStart.getD 0 / 256),
      byteOf (p.folioStart.getD 0), p.marks.toByte] := rfl

theorem SheetPlan.valid.toBody_encoded (h : p.valid) : p.Encoded p.toBody := by
  have hfolio := h.folio_le
  obtain ⟨-, hgang, -, hwidth, -, hheight, hleft, htop, -, hcell, -, hcolumn, hgutter, hheader, -, hdepth, hstep, -, -, -,
    hguide, -⟩ := h
  rw [SheetPlan.toBody_eq]
  exact {
    gang := byteOf_toNat p.gang (by omega)
    sheetWidth := wordAt_be16 p.sheetWidth (by omega) []
    sheetHeight := wordAt_be16 p.sheetHeight (by omega) []
    leftMargin := wordAt_be16 p.leftMargin (by omega) []
    topMargin := wordAt_be16 p.topMargin (by omega) []
    cellWidth := byteOf_toNat p.cellWidth (by omega)
    columnWidth := wordAt_be16 p.columnWidth (by omega) []
    gutter := wordAt_be16 p.gutter (by omega) []
    headerDepth := wordAt_be16 p.headerDepth (by omega) []
    columnDepth := wordAt_be16 p.columnDepth (by omega) []
    maxStep := byteOf_toNat p.maxStep (by omega)
    guideWidth := byteOf_toNat p.guideWidth (by omega)
    folio := wordAt_be16 (p.folioStart.getD 0) (by omega) []
    marks := rfl }

theorem SheetPlan.valid.planFault_of_encoded (h : p.valid) {body : List Byte} (hb : p.Encoded body) :
    planFault body = none := by
  have hfolio := h.folio_le
  obtain ⟨hmarks, -⟩ := p.marks.toByte_spec
  obtain ⟨hg1, hg, hw1, hw, hh1, hh, hl, ht, hc1, hc, hcw1, hcw, hgu, hhd, hd1, hd, hs, hright, hbottom, hgw1, hgw, -⟩ := h
  rw [planFault_eq body p.rightEdge p.bottomEdge
    (by rw [hb.leftMargin, hb.gang, hb.columnWidth, hb.gutter]; rfl)
    (by rw [hb.topMargin, hb.headerDepth, hb.columnDepth]; rfl)]
  simp only [ite_some_eq_none_iff, and_true, hb.gang, hb.sheetWidth, hb.sheetHeight, hb.leftMargin, hb.topMargin,
    hb.cellWidth, hb.columnWidth, hb.gutter, hb.headerDepth, hb.columnDepth, hb.maxStep, hb.guideWidth, hb.folio, hb.marks]
  omega

theorem SheetPlan.valid.planOf_of_encoded (h : p.valid) {body : List Byte} (hb : p.Encoded body) : planOf body = p := by
  obtain ⟨-, -, -, -, -, -, -, -, -, -, -, -, -, -, -, -, -, -, -, -, -, hfolio⟩ := h
  obtain ⟨-, hmarks⟩ := p.marks.toByte_spec
  have hstart : (if p.folioStart.getD 0 = 0 then none else some (p.folioStart.getD 0)) = p.folioStart := by
    cases hf : p.folioStart with
    | none => rfl
    | some n =>
      obtain ⟨h1, -⟩ := hfolio n hf
      exact if_neg (by simp only [Option.getD_some]; omega)
  rw [planOf, hb.gang, hb.sheetWidth, hb.sheetHeight, hb.leftMargin, hb.topMargin, hb.cellWidth, hb.columnWidth, hb.gutter,
    hb.headerDepth, hb.columnDepth, hb.maxStep, hb.guideWidth, hb.folio, hb.marks, hmarks, hstart]

end

/-! ### LINK SETTINGS (R161, R162) -/

theorem Arrangement.toNat_spec (a : Arrangement) : a.toNat ≤ 3 ∧ arrangementOf a.toNat = a := by cases a <;> decide

/-- R162: where the settings stand in their body. -/
structure LinkSettings.Encoded (c : LinkSettings) (body : List Byte) : Prop where
  arrangement : byteAt body 0 = c.arrangement.toNat
  advertised : byteAt body 1 = c.advertised.toNat
  settle : byteAt body 2 = c.settleMs / 100
  taken : wordAt body 3 = c.takenMs
  stacked : wordAt body 5 = c.stackedMs
  paceWindow : wordAt body 7 = c.paceWindow
  paceTarget : byteAt body 9 = c.paceTarget
  degradeThreshold : byteAt body 10 = c.degradeThreshold

section
variable {c : LinkSettings}

theorem LinkSettings.valid.toBody_encoded (h : c.valid) : c.Encoded c.toBody := by
  obtain ⟨harrangement, -⟩ := c.arrangement.toNat_spec
  have hset := c.advertised.isLt
  obtain ⟨-, hsettle, -, -, htaken, -, hstacked, -, hwindow, -, htarget, -, hthreshold⟩ := h
  exact {
    arrangement := byteOf_toNat _ (by omega)
    advertised := byteOf_toNat _ (by omega)
    settle := byteOf_toNat _ (by omega)
    taken := wordAt_be16 _ (by omega) []
    stacked := wordAt_be16 _ (by omega) []
    paceWindow := wordAt_be16 _ (by omega) []
    paceTarget := byteOf_toNat _ (by omega)
    degradeThreshold := byteOf_toNat _ (by omega) }

theorem LinkSettings.valid.settingsFault_of_encoded (h : c.valid) {body : List Byte} (hb : c.Encoded body) :
    settingsFault body = none := by
  obtain ⟨harrangement, -⟩ := c.arrangement.toNat_spec
  have hset := c.advertised.isLt
  obtain ⟨hne, hsettle, -, ht1, ht, hs1, hs, hw1, hw, hp1, hp, hd1, hd⟩ := h
  have hnonempty : c.advertised.toNat ≠ 0 := fun h0 => hne (BitVec.eq_of_toNat_eq h0)
  rw [settingsFault_eq]
  simp only [ite_some_eq_none_iff, and_true, hb.arrangement, hb.advertised, hb.settle, hb.taken, hb.stacked, hb.paceWindow,
    hb.paceTarget, hb.degradeThreshold]
  omega

/-- R162: the settle delay, a multiple of 100 ms, reads back. -/
theorem LinkSettings.valid.settingsOf_of_encoded (h : c.valid) {body : List Byte} (hb : c.Encoded body) :
    settingsOf body = c := by
  obtain ⟨-, harrangement⟩ := c.arrangement.toNat_spec
  obtain ⟨-, -, hsettle, -⟩ := h
  have hdelay : 100 * (c.settleMs / 100) = c.settleMs := by omega
  rw [settingsOf, hb.arrangement, hb.advertised, hb.settle, hb.taken, hb.stacked, hb.paceWindow, hb.paceTarget,
    hb.degradeThreshold, harrangement, hdelay, BitVec.ofNat_toNat, BitVec.setWidth_eq]

end

/-! ### NOTICE CONTROL and UNIT (R2, R205) -/

theorem State.noticeControl_spec (s : State) :
    noticeControlFault (s.tableBody 8) = none ∧ BitVec.ofNat 10 (wordAt (s.tableBody 8) 0) = s.notices.mask ∧
      (byteAt (s.tableBody 8) 2 == 1) = s.notices.confirmed := by
  have hlt := s.notices.mask.isLt
  have hmask : wordAt (s.tableBody 8) 0 = s.notices.mask.toNat := wordAt_be16 _ (by omega) []
  have hmode : byteAt (s.tableBody 8) 2 = s.notices.confirmed.toNat := flagByte_toNat _
  have hle := s.notices.confirmed.toNat_le
  rw [noticeControlFault_eq, hmask, hmode, if_neg (by omega), if_neg (by omega), BitVec.ofNat_toNat, BitVec.setWidth_eq]
  exact ⟨rfl, rfl, by cases s.notices.confirmed <;> rfl⟩

theorem State.unit_spec (s : State) :
    unitFault (s.tableBody 10) = none ∧ BitVec.ofNat 4 (byteAt (s.tableBody 10) 0) = s.lp.unit := by
  have hlt := s.lp.unit.isLt
  have hunit : byteAt (s.tableBody 10) 0 = s.lp.unit.toNat := byteOf_toNat _ (by omega)
  rw [unitFault_eq, hunit, if_neg (by omega), BitVec.ofNat_toNat, BitVec.setWidth_eq]
  exact ⟨rfl, rfl⟩

/-! ### Every reported table (R197) -/

/-- R22, R189: a FORMS report has the bytes of 1 to 32 stops. -/
theorem State.framingFault_forms (s : State) (h : s.forms.table.valid) : framingFault (s.tableBytes 2) = none := by
  have hl : (s.tableBody 2).length = 3 + 2 * s.forms.table.stops.length := s.forms.table.toBody_length
  obtain ⟨-, -, h1, h32, -⟩ := h
  refine s.framingFault_tableBytes 2 (by omega) (by omega) (by omega) ((bodyLengthGood_iff _ _).mpr (.inr ⟨rfl, ?_⟩))
  omega

/-- R189: a report whose kind has one body length. -/
theorem State.framingFault_of_length (s : State) (kind n : Nat) (hl : (s.tableBody kind).length = n)
    (hk : (kind, n) ∈ ([(1, 258), (3, 240), (4, 5), (6, 23), (7, 11), (8, 3), (10, 1)] : List (Nat × Nat))) :
    framingFault (s.tableBytes kind) = none := by
  obtain ⟨h1, h12, hn, hgood⟩ : 1 ≤ kind ∧ kind ≤ 12 ∧ n ≤ 65535 ∧ bodyLengthGood (byteOf kind) n = true := by
    revert hk
    simp only [List.mem_cons, Prod.mk.injEq, List.not_mem_nil, or_false]
    rintro (⟨rfl, rfl⟩ | ⟨rfl, rfl⟩ | ⟨rfl, rfl⟩ | ⟨rfl, rfl⟩ | ⟨rfl, rfl⟩ | ⟨rfl, rfl⟩ | ⟨rfl, rfl⟩) <;> decide
  exact s.framingFault_tableBytes kind h1 h12 (hl ▸ hn) (hl ▸ hgood)

/-- Settles O29: each kind by the framing of its report, its range tests and what it reads back as. -/
theorem reportedTablesReadBack : Obligations.ReportedTablesReadBack := by
  unfold Obligations.ReportedTablesReadBack
  rintro s ⟨hforms, hcollation, hlayout, hplan, hsettings, -⟩
  simp only [State.tableBytes_drop]
  exact ⟨⟨s.framingFault_of_length 1 258 s.map.toBody_length (by decide), s.map.charMapFault_toBody,
      s.map.charMapOf_toBody⟩,
    ⟨s.framingFault_forms hforms, hforms.formsFault_toBody, hforms.formsOf_toBody⟩,
    ⟨s.framingFault_of_length 3 240 (collationBody_length _) (by decide), hcollation.collationFault_body,
      hcollation.collationOf_body⟩,
    ⟨s.framingFault_of_length 4 5 s.keys.layout.toBody_length (by decide), hlayout.layoutFault_toBody,
      hlayout.layoutOf_toBody⟩,
    ⟨s.framingFault_of_length 6 23 rfl (by decide), hplan.planFault_of_encoded hplan.toBody_encoded,
      hplan.planOf_of_encoded hplan.toBody_encoded⟩,
    ⟨s.framingFault_of_length 7 11 rfl (by decide), hsettings.settingsFault_of_encoded hsettings.toBody_encoded,
      hsettings.settingsOf_of_encoded hsettings.toBody_encoded⟩,
    ⟨s.framingFault_of_length 8 3 rfl (by decide), s.noticeControl_spec⟩,
    ⟨s.framingFault_of_length 10 1 rfl (by decide), s.unit_spec⟩⟩

end Sys2Proof.Machine
end

section
/-! PROOFS. The step on a queue of commands that has a front. -/

namespace Sys2Proof.Machine

/-- The step's equation when a command waits: it runs in the state whose queue is what stands behind it. -/
theorem step_of_pending_cons {s : State} {c : Instr} {rest : List Instr} (h : s.pending = c :: rest) :
    step s = exec c { s with pending := rest } := by
  rw [step, h]

/-- Settles O1: the step's equation for the queue `c :: rest`, which the command's run replaces by `rest`. -/
theorem stepRunsTheFrontCommand : Obligations.StepRunsTheFrontCommand := by
  unfold Obligations.StepRunsTheFrontCommand
  exact fun c rest s => step_of_pending_cons (s := { s with pending := c :: rest }) rfl

end Sys2Proof.Machine
end
